-- ==== Sys2Proof/Word.lean ====
section
/-! DEFINITION. The word types of the THM-4032: bytes, the 32-bit words of control registers, the 64-bit
general registers, the 128-bit vector registers and Taper images, physical addresses of 48 bits (R29, R52). -/

namespace Sys2Proof

/-- One byte of memory (R4). -/
abbrev Byte := BitVec 8
/-- The image of a 32-bit control register (R10). -/
abbrev W32 := BitVec 32
/-- A general register, a PC, a virtual address (R52). -/
abbrev W64 := BitVec 64
/-- A vector register, or the 128 bits of a Taper without its tag (R52, R195). -/
abbrev W128 := BitVec 128
/-- A physical address of a channel (R29). -/
abbrev PA := BitVec 48
/-- The number of a 64-byte line: bits [47:6] of a physical address (R263). -/
abbrev LineNo := BitVec 42

end Sys2Proof
end

