-- ==== Sys2Proof/Syntax.lean ====
section
/-! DEFINITION. The commands of the THM-4032: one constructor of `Instr` for each row of spec/opcode_table.json, with the
row's operands. A Wick instruction is named with the core that issues it and its pair bit P (R55, R59); a store to a
control register that has a row of its own carries the word of the store instruction that makes it (the frame of R213
needs it); an event carries what its source outside the block decides (a pin level, a response, a frame). -/

namespace Sys2Proof

/-- Core *w* of channel *ch*, written C*ch*W*w* in the manual (00_scope). -/
structure CoreId where
  ch : Fin 4
  w  : Fin 8
  deriving DecidableEq, Repr

/-- Access sizes: 1, 2, 4, 8 and 16 bytes (R66). -/
inductive AccSize | b1 | b2 | b4 | b8 | b16
  deriving DecidableEq, Repr

/-- SZ of LDF and STF (R67): byte, half, word, doubleword, 128 bits in a v register. -/
inductive FarSize | byte | half | word | dword | quad
  deriving DecidableEq, Repr

/-- Operations 2 to 8 of major 0x20 (R68). -/
inductive AmoOp | swp | add | and | or | min | max | cas
  deriving DecidableEq, Repr

/-- Lane types of major 0x2E (R73). -/
inductive LaneType | f32 | i32 | i16 | i8
  deriving DecidableEq, Repr

/-- The two paths of a mode request (R43): a store of core `w` by the instruction word `insn`, or the Lamplighter. -/
inductive ModeSrc
  | core (w : Fin 8) (insn : BitVec 32)
  | lamp
  deriving DecidableEq, Repr

/-- The wake events of R39. -/
inductive WakeEvent
  | slot (n : Fin 64)
  | source (v : BitVec 8)
  | lamp
  deriving DecidableEq, Repr

/-- What training finds at the far end of the CXL link (R291, R292): the expander lies outside the device. -/
structure ExpanderFacts where
  present     : Bool
  cxl2Type3   : Bool
  multiLogical : Bool
  writePoison : Bool
  mediaPoison : Bool
  x8Trains    : Bool
  x4Trains    : Bool
  speed       : Fin 3
  capacityMB  : Nat
  firstTagLineValid : Bool
  deriving DecidableEq, Repr

/-- One expander event record (R304): type 1 to 3, severity 0 to 3, device physical address if it has one. -/
structure EventRecord where
  kind : Fin 4
  sev  : Fin 4
  dpa  : Option (BitVec 48)
  deriving DecidableEq, Repr

/-- A count of an encoder (R124, R127): how long the new levels last, and the PTB cycles since the last count. -/
structure CountEdge where
  width : Nat
  dt    : Nat
  deriving DecidableEq, Repr

/-- When a ring phase sample comes (R125): the PTB cycles since the last one, and the PTB_TIME that it is stamped with. -/
structure SampleTime where
  dt    : Nat
  stamp : BitVec 64
  deriving DecidableEq, Repr

/-- An edge at a capture input (R155): whether it rises, and how many 300 MHz cycles the level after it lasts. -/
structure CaptureEdge where
  rising : Bool
  width  : Nat
  deriving DecidableEq, Repr

/-- An edge on a tracker's I input (R123, R124): whether it rises, how long the level after it lasts, and the PTB cycles since the last mark. -/
structure MarkEdge where
  rising : Bool
  width  : Nat
  dt     : Nat
  deriving DecidableEq, Repr

/-- A filtered A/B change (R124, R128): one count forward, one back, or both inputs at once. -/
inductive EncMove | fwd | back | illegal
  deriving DecidableEq, Repr

/-- The trigger events of TRC_TRIG.SRC (R452). -/
inductive TriggerEvent
  | software
  | patchMatch (u : Fin 32)
  | slotFired (n : Fin 64)
  | overflow (w : Fin 8)
  deriving DecidableEq, Repr

/-- The two ring ports (R325). -/
inductive RingPort | a | b
  deriving DecidableEq, Repr

/-- What a forwarding port sees of a frame (R326, R327, R330, R333): `len`, its bytes; `cut`, that a loss of the link cut it short (R349). -/
structure FrameIn where
  fcsOk   : Bool
  marked  : Bool
  typ     : Fin 16
  hops    : BitVec 16
  waited  : Bool
  len     : Nat := 64
  cut     : Bool := false
  deriving DecidableEq, Repr

/-- A head frame (R330, R331) as it arrives: SA, FLAGS.DIR and WRAP, whether its FCS checks, whether it is marked (R327), whether it waited
for the node's own frame (R328). `res` is the residence of R340 in 2^-16 ns. -/
structure HeadFrame where
  cut     : Bool := false
  sa      : BitVec 48 := 0#48
  dir     : Bool := false
  marked  : Bool := false
  waited  : Bool := false
  fcsOk   : Bool
  wrap    : Bool
  master  : BitVec 12
  epoch   : BitVec 16
  sweep   : BitVec 32
  nfr     : Nat
  expDig  : BitVec 64
  rAngle  : BitVec 32
  rTurn   : BitVec 32
  delay   : BitVec 64
  standby : BitVec 16
  period  : BitVec 32
  phValid : Bool
  wrapped : Bool
  present : List (BitVec 8)
  consist : List (BitVec 8)
  dup     : Bool
  res     : BitVec 64
  deriving DecidableEq, Repr

/-- A data frame (R332) as it arrives. -/
structure DataFrame where
  cut     : Bool := false
  sa      : BitVec 48 := 0#48
  dir     : Bool := false
  marked  : Bool := false
  waited  : Bool := false
  master  : BitVec 12 := 0#12
  epoch   : BitVec 16 := 0#16
  nfr     : Nat := 2
  fcsOk   : Bool
  wrap    : Bool
  sweep   : BitVec 32
  fidx    : Nat
  payload : List (BitVec 8)
  deriving DecidableEq, Repr

/-- An object record of a mailbox frame (R334); `crc` is the CRC field as it arrived, where it does not check. -/
structure ObjRecord where
  index  : BitVec 16
  sub    : BitVec 8
  rstat  : BitVec 8
  offset : BitVec 32
  vlen   : Nat
  differ : Bool
  value  : List (BitVec 8)
  crcOk  : Bool
  crc    : BitVec 32 := 0#32
  deriving DecidableEq, Repr

/-- A mailbox frame (R330, R333) at a port: downstream a node receives it on port B and sends it from port A (R325, R350). -/
structure MailboxFrame where
  cut     : Bool := false
  port    : RingPort := .b
  sa      : BitVec 48 := 0#48
  dir     : Bool := false
  wrap    : Bool := false
  fcsOk   : Bool := true
  marked  : Bool := false
  master  : BitVec 12 := 0#12
  epoch   : BitVec 16 := 0#16
  dst     : BitVec 12
  group   : Bool
  src     : BitVec 12
  tid     : BitVec 16
  op      : BitVec 8
  status  : BitVec 8
  session : BitVec 32
  contrib : Nat
  hops    : BitVec 16
  records : List ObjRecord
  deriving DecidableEq, Repr

/-- A frame at a port that is not forwarded (R326, R327). -/
structure OtherFrame where
  port   : RingPort
  fcsOk  : Bool
  marked : Bool
  deriving DecidableEq, Repr

/-- Whether a frame's FCS checks, and whether it is marked (R327). -/
structure FcsSeen where
  ok     : Bool
  marked : Bool
  deriving DecidableEq, Repr

/-- Why BYP_HOLD_N is released (R355). -/
inductive BypassCause | noBlockLock | fcsErrors | control
  deriving DecidableEq, Repr

/-- Who makes a request of the ring by a row of its own: its SRC node, and the SESSION it carries (R368). -/
structure RingAsker where
  src     : BitVec 12
  session : BitVec 32
  deriving DecidableEq, Repr

/-- The six items that can be updated (R403). -/
inductive Item
  | firmware
  | patch
  | image (c : Fin 4)
  deriving DecidableEq, Repr

/-- How a CXL.mem read response comes: later than its hold (R297), and with poison (R301). -/
structure Arrival where
  late   : Bool
  poison : Bool
  deriving DecidableEq, Repr

/-- How a CXL.mem write completion comes: success or an error (R302), before its time, so that it is held, or after it (R297). -/
structure Completion where
  ok   : Bool
  held : Bool
  late : Bool
  deriving DecidableEq, Repr

/-- The commands of the block, one constructor per row of the table. -/
inductive Instr where
  /-- REGISTER_WRITE (R10). -/
  | registerWrite (k : CoreId) (insn : BitVec 32) (off : BitVec 24) (size : AccSize) (cap : Bool) (val : BitVec 32)
  /-- MBX_TXGO (R25). -/
  | mbxTxgo (k : CoreId) (insn : BitVec 32) (val : BitVec 32)
  /-- MBX_RXPOP (R28). -/
  | mbxRxpop (k : CoreId) (insn : BitVec 32) (val : BitVec 32)
  /-- HOST_PORT_SLOT (R20). -/
  | hostPortSlot (c : Fin 4)
  /-- MODE_REQUEST_GALE (R44). -/
  | modeRequestGale (c : Fin 4) (src : ModeSrc) (tag : BitVec 8)
  /-- MODE_REQUEST_BREEZE (R44). -/
  | modeRequestBreeze (c : Fin 4) (src : ModeSrc) (tag : BitVec 8)
  /-- MODE_REQUEST_DRIZZLE (R44). -/
  | modeRequestDrizzle (c : Fin 4) (src : ModeSrc) (tag : BitVec 8)
  /-- MODE_REQUEST_CALM (R44). -/
  | modeRequestCalm (c : Fin 4) (src : ModeSrc) (tag : BitVec 8)
  /-- MODE_REQUEST_HAZE (R44). -/
  | modeRequestHaze (c : Fin 4) (src : ModeSrc) (tag : BitVec 8)
  /-- MODE_REQUEST_DEW (R38). -/
  | modeRequestDew (c : Fin 4) (src : ModeSrc) (tag : BitVec 8)
  /-- MODE_REQUEST_FROST (R40). -/
  | modeRequestFrost (c : Fin 4) (src : ModeSrc) (tag : BitVec 8)
  /-- MODE_REQUEST_THAW (R42). -/
  | modeRequestThaw (c : Fin 4) (src : ModeSrc) (tag : BitVec 8)
  /-- MODE_TRANSITION_DONE (R48). -/
  | modeTransitionDone (c : Fin 4) (us : Nat) (rail : Bool)
  /-- DEW_WAKE (R39). -/
  | dewWake (c : Fin 4) (ev : WakeEvent)
  /-- COLD_CHANNEL_START (R399). -/
  | coldChannelStart (c : Fin 4) (x : ExpanderFacts) (memFail : Option (BitVec 48)) (rail : Bool)
  /-- CORE_RELEASE (R400). -/
  | coreRelease (c : Fin 4)
  /-- CHANNEL_RESET (R410). -/
  | channelReset (c : Fin 4) (ns : Nat)
  /-- ADD (R64). -/
  | add (k : CoreId) (p : Bool) (rd : Fin 32) (rs1 : Fin 32) (rs2 : Fin 32)
  /-- SUB (R64). -/
  | sub (k : CoreId) (p : Bool) (rd : Fin 32) (rs1 : Fin 32) (rs2 : Fin 32)
  /-- AND (R64). -/
  | and (k : CoreId) (p : Bool) (rd : Fin 32) (rs1 : Fin 32) (rs2 : Fin 32)
  /-- OR (R64). -/
  | or (k : CoreId) (p : Bool) (rd : Fin 32) (rs1 : Fin 32) (rs2 : Fin 32)
  /-- XOR (R64). -/
  | xor (k : CoreId) (p : Bool) (rd : Fin 32) (rs1 : Fin 32) (rs2 : Fin 32)
  /-- SHL (R64). -/
  | shl (k : CoreId) (p : Bool) (rd : Fin 32) (rs1 : Fin 32) (rs2 : Fin 32)
  /-- SHR (R64). -/
  | shr (k : CoreId) (p : Bool) (rd : Fin 32) (rs1 : Fin 32) (rs2 : Fin 32)
  /-- SAR (R64). -/
  | sar (k : CoreId) (p : Bool) (rd : Fin 32) (rs1 : Fin 32) (rs2 : Fin 32)
  /-- LTS (R64). -/
  | lts (k : CoreId) (p : Bool) (rd : Fin 32) (rs1 : Fin 32) (rs2 : Fin 32)
  /-- LTU (R64). -/
  | ltu (k : CoreId) (p : Bool) (rd : Fin 32) (rs1 : Fin 32) (rs2 : Fin 32)
  /-- MIN (R64). -/
  | min (k : CoreId) (p : Bool) (rd : Fin 32) (rs1 : Fin 32) (rs2 : Fin 32)
  /-- MAX (R64). -/
  | max (k : CoreId) (p : Bool) (rd : Fin 32) (rs1 : Fin 32) (rs2 : Fin 32)
  /-- MINU (R64). -/
  | minu (k : CoreId) (p : Bool) (rd : Fin 32) (rs1 : Fin 32) (rs2 : Fin 32)
  /-- MAXU (R64). -/
  | maxu (k : CoreId) (p : Bool) (rd : Fin 32) (rs1 : Fin 32) (rs2 : Fin 32)
  /-- ROL (R64). -/
  | rol (k : CoreId) (p : Bool) (rd : Fin 32) (rs1 : Fin 32) (rs2 : Fin 32)
  /-- ROR (R64). -/
  | ror (k : CoreId) (p : Bool) (rd : Fin 32) (rs1 : Fin 32) (rs2 : Fin 32)
  /-- CLZ (R64). -/
  | clz (k : CoreId) (p : Bool) (rd : Fin 32) (rs1 : Fin 32)
  /-- CTZ (R64). -/
  | ctz (k : CoreId) (p : Bool) (rd : Fin 32) (rs1 : Fin 32)
  /-- POPC (R64). -/
  | popc (k : CoreId) (p : Bool) (rd : Fin 32) (rs1 : Fin 32)
  /-- PAR (R64). -/
  | par (k : CoreId) (p : Bool) (rd : Fin 32) (rs1 : Fin 32)
  /-- BREV (R64). -/
  | brev (k : CoreId) (p : Bool) (rd : Fin 32) (rs1 : Fin 32)
  /-- BREVB (R64). -/
  | brevb (k : CoreId) (p : Bool) (rd : Fin 32) (rs1 : Fin 32)
  /-- BSWAP (R64). -/
  | bswap (k : CoreId) (p : Bool) (rd : Fin 32) (rs1 : Fin 32)
  /-- ANDN (R64). -/
  | andn (k : CoreId) (p : Bool) (rd : Fin 32) (rs1 : Fin 32) (rs2 : Fin 32)
  /-- ADD_32 (R58). -/
  | add32 (k : CoreId) (p : Bool) (rd : Fin 32) (rs1 : Fin 32) (rs2 : Fin 32)
  /-- SUB_32 (R58). -/
  | sub32 (k : CoreId) (p : Bool) (rd : Fin 32) (rs1 : Fin 32) (rs2 : Fin 32)
  /-- AND_32 (R58). -/
  | and32 (k : CoreId) (p : Bool) (rd : Fin 32) (rs1 : Fin 32) (rs2 : Fin 32)
  /-- OR_32 (R58). -/
  | or32 (k : CoreId) (p : Bool) (rd : Fin 32) (rs1 : Fin 32) (rs2 : Fin 32)
  /-- XOR_32 (R58). -/
  | xor32 (k : CoreId) (p : Bool) (rd : Fin 32) (rs1 : Fin 32) (rs2 : Fin 32)
  /-- SHL_32 (R58). -/
  | shl32 (k : CoreId) (p : Bool) (rd : Fin 32) (rs1 : Fin 32) (rs2 : Fin 32)
  /-- SHR_32 (R58). -/
  | shr32 (k : CoreId) (p : Bool) (rd : Fin 32) (rs1 : Fin 32) (rs2 : Fin 32)
  /-- SAR_32 (R58). -/
  | sar32 (k : CoreId) (p : Bool) (rd : Fin 32) (rs1 : Fin 32) (rs2 : Fin 32)
  /-- LTS_32 (R58). -/
  | lts32 (k : CoreId) (p : Bool) (rd : Fin 32) (rs1 : Fin 32) (rs2 : Fin 32)
  /-- LTU_32 (R58). -/
  | ltu32 (k : CoreId) (p : Bool) (rd : Fin 32) (rs1 : Fin 32) (rs2 : Fin 32)
  /-- ADDI (R58). -/
  | addi (k : CoreId) (p : Bool) (rd : Fin 32) (rs1 : Fin 32) (imm : BitVec 15)
  /-- ANDI (R58). -/
  | andi (k : CoreId) (p : Bool) (rd : Fin 32) (rs1 : Fin 32) (imm : BitVec 15)
  /-- ORI (R58). -/
  | ori (k : CoreId) (p : Bool) (rd : Fin 32) (rs1 : Fin 32) (imm : BitVec 15)
  /-- XORI (R58). -/
  | xori (k : CoreId) (p : Bool) (rd : Fin 32) (rs1 : Fin 32) (imm : BitVec 15)
  /-- SHLI (R58). -/
  | shli (k : CoreId) (p : Bool) (rd : Fin 32) (rs1 : Fin 32) (sh : BitVec 6)
  /-- SHRI (R58). -/
  | shri (k : CoreId) (p : Bool) (rd : Fin 32) (rs1 : Fin 32) (sh : BitVec 6)
  /-- SARI (R58). -/
  | sari (k : CoreId) (p : Bool) (rd : Fin 32) (rs1 : Fin 32) (sh : BitVec 6)
  /-- RORI (R58). -/
  | rori (k : CoreId) (p : Bool) (rd : Fin 32) (rs1 : Fin 32) (sh : BitVec 6)
  /-- LTSI (R58). -/
  | ltsi (k : CoreId) (p : Bool) (rd : Fin 32) (rs1 : Fin 32) (imm : BitVec 15)
  /-- LTUI (R58). -/
  | ltui (k : CoreId) (p : Bool) (rd : Fin 32) (rs1 : Fin 32) (imm : BitVec 15)
  /-- KLO (R58). -/
  | klo (k : CoreId) (p : Bool) (rd : Fin 32) (imm : BitVec 20)
  /-- KPC (R58). -/
  | kpc (k : CoreId) (p : Bool) (rd : Fin 32) (imm : BitVec 20)
  /-- LSI (R58). -/
  | lsi (k : CoreId) (p : Bool) (rd : Fin 32) (imm : BitVec 16)
  /-- MUL (R65). -/
  | mul (k : CoreId) (p : Bool) (rd : Fin 32) (rs1 : Fin 32) (rs2 : Fin 32)
  /-- MULHI_SS (R65). -/
  | mulhiSs (k : CoreId) (p : Bool) (rd : Fin 32) (rs1 : Fin 32) (rs2 : Fin 32)
  /-- MULHI_UU (R65). -/
  | mulhiUu (k : CoreId) (p : Bool) (rd : Fin 32) (rs1 : Fin 32) (rs2 : Fin 32)
  /-- MULHI_SU (R65). -/
  | mulhiSu (k : CoreId) (p : Bool) (rd : Fin 32) (rs1 : Fin 32) (rs2 : Fin 32)
  /-- MUL_W (R65). -/
  | mulW (k : CoreId) (p : Bool) (rd : Fin 32) (rs1 : Fin 32) (rs2 : Fin 32)
  /-- MULADD (R65). -/
  | muladd (k : CoreId) (p : Bool) (rd : Fin 32) (rs1 : Fin 32) (rs2 : Fin 32) (rs3 : Fin 32)
  /-- DIVS (R65). -/
  | divs (k : CoreId) (p : Bool) (rd : Fin 32) (rs1 : Fin 32) (rs2 : Fin 32)
  /-- DIVU (R65). -/
  | divu (k : CoreId) (p : Bool) (rd : Fin 32) (rs1 : Fin 32) (rs2 : Fin 32)
  /-- MODS (R65). -/
  | mods (k : CoreId) (p : Bool) (rd : Fin 32) (rs1 : Fin 32) (rs2 : Fin 32)
  /-- MODU (R65). -/
  | modu (k : CoreId) (p : Bool) (rd : Fin 32) (rs1 : Fin 32) (rs2 : Fin 32)
  /-- DIVS_W (R65). -/
  | divsW (k : CoreId) (p : Bool) (rd : Fin 32) (rs1 : Fin 32) (rs2 : Fin 32)
  /-- DIVU_W (R65). -/
  | divuW (k : CoreId) (p : Bool) (rd : Fin 32) (rs1 : Fin 32) (rs2 : Fin 32)
  /-- MODS_W (R65). -/
  | modsW (k : CoreId) (p : Bool) (rd : Fin 32) (rs1 : Fin 32) (rs2 : Fin 32)
  /-- MODU_W (R65). -/
  | moduW (k : CoreId) (p : Bool) (rd : Fin 32) (rs1 : Fin 32) (rs2 : Fin 32)
  /-- LONG_OPERATION_COMPLETE (R98). -/
  | longOperationComplete (k : CoreId) (e : Fin 32)
  /-- LONG_OPERATION_FAULT (R101). -/
  | longOperationFault (k : CoreId)
  /-- LBS (R66). -/
  | lbs (k : CoreId) (p : Bool) (rd : Fin 32) (rs1 : Fin 32) (imm : BitVec 15)
  /-- LBZ (R66). -/
  | lbz (k : CoreId) (p : Bool) (rd : Fin 32) (rs1 : Fin 32) (imm : BitVec 15)
  /-- LHS (R66). -/
  | lhs (k : CoreId) (p : Bool) (rd : Fin 32) (rs1 : Fin 32) (imm : BitVec 15)
  /-- LHZ (R66). -/
  | lhz (k : CoreId) (p : Bool) (rd : Fin 32) (rs1 : Fin 32) (imm : BitVec 15)
  /-- LWS (R66). -/
  | lws (k : CoreId) (p : Bool) (rd : Fin 32) (rs1 : Fin 32) (imm : BitVec 15)
  /-- LWZ (R66). -/
  | lwz (k : CoreId) (p : Bool) (rd : Fin 32) (rs1 : Fin 32) (imm : BitVec 15)
  /-- LD (R66). -/
  | ld (k : CoreId) (p : Bool) (rd : Fin 32) (rs1 : Fin 32) (imm : BitVec 15)
  /-- LV (R66). -/
  | lv (k : CoreId) (p : Bool) (rd : Fin 32) (rs1 : Fin 32) (imm : BitVec 15)
  /-- SB (R66). -/
  | sb (k : CoreId) (p : Bool) (rs2 : Fin 32) (rs1 : Fin 32) (imm : BitVec 15)
  /-- SH (R66). -/
  | sh (k : CoreId) (p : Bool) (rs2 : Fin 32) (rs1 : Fin 32) (imm : BitVec 15)
  /-- SW (R66). -/
  | sw (k : CoreId) (p : Bool) (rs2 : Fin 32) (rs1 : Fin 32) (imm : BitVec 15)
  /-- SD (R66). -/
  | sd (k : CoreId) (p : Bool) (rs2 : Fin 32) (rs1 : Fin 32) (imm : BitVec 15)
  /-- SV (R66). -/
  | sv (k : CoreId) (p : Bool) (rs2 : Fin 32) (rs1 : Fin 32) (imm : BitVec 15)
  /-- STORE_BUFFER_DRAIN (R245). -/
  | storeBufferDrain (k : CoreId)
  /-- LDF (R67). -/
  | ldf (k : CoreId) (p : Bool) (sz : FarSize) (rd : Fin 32) (rs1 : Fin 32) (off : BitVec 12)
  /-- STF (R67). -/
  | stf (k : CoreId) (p : Bool) (sz : FarSize) (rs2 : Fin 32) (rs1 : Fin 32) (off : BitVec 12)
  /-- FAR_TIMEOUT (R300). -/
  | farTimeout (k : CoreId) (e : Fin 32)
  /-- LL (R256). -/
  | ll (k : CoreId) (p : Bool) (d : Bool) (rd : Fin 32) (rs1 : Fin 32)
  /-- SC (R256). -/
  | sc (k : CoreId) (p : Bool) (d : Bool) (rd : Fin 32) (rs1 : Fin 32) (rs2 : Fin 32)
  /-- LL_HOLD_LIMIT (R258). -/
  | llHoldLimit (k : CoreId)
  /-- ATSWP (R259). -/
  | atswp (k : CoreId) (p : Bool) (d : Bool) (rd : Fin 32) (rs1 : Fin 32) (rs2 : Fin 32)
  /-- ATADD (R259). -/
  | atadd (k : CoreId) (p : Bool) (d : Bool) (rd : Fin 32) (rs1 : Fin 32) (rs2 : Fin 32)
  /-- ATAND (R259). -/
  | atand (k : CoreId) (p : Bool) (d : Bool) (rd : Fin 32) (rs1 : Fin 32) (rs2 : Fin 32)
  /-- ATOR (R259). -/
  | ator (k : CoreId) (p : Bool) (d : Bool) (rd : Fin 32) (rs1 : Fin 32) (rs2 : Fin 32)
  /-- ATMIN (R259). -/
  | atmin (k : CoreId) (p : Bool) (d : Bool) (rd : Fin 32) (rs1 : Fin 32) (rs2 : Fin 32)
  /-- ATMAX (R259). -/
  | atmax (k : CoreId) (p : Bool) (d : Bool) (rd : Fin 32) (rs1 : Fin 32) (rs2 : Fin 32)
  /-- ATCAS (R259). -/
  | atcas (k : CoreId) (p : Bool) (d : Bool) (rd : Fin 32) (rs1 : Fin 32) (rs2 : Fin 32) (rs3 : Fin 32)
  /-- FENCE (R252). -/
  | fence (k : CoreId) (p : Bool)
  /-- FENCE_SL (R252). -/
  | fenceSl (k : CoreId) (p : Bool)
  /-- FENCE_SS (R252). -/
  | fenceSs (k : CoreId) (p : Bool)
  /-- FENCE_LL (R252). -/
  | fenceLl (k : CoreId) (p : Bool)
  /-- IFENCE (R113). -/
  | ifence (k : CoreId) (p : Bool)
  /-- ICINV (R114). -/
  | icinv (k : CoreId) (p : Bool) (rs1 : Fin 32)
  /-- LBAR (R99). -/
  | lbar (k : CoreId) (p : Bool)
  /-- WAITL_G (R99). -/
  | waitlG (k : CoreId) (p : Bool) (rs1 : Fin 32)
  /-- WAITL_V (R99). -/
  | waitlV (k : CoreId) (p : Bool) (rs1 : Fin 32)
  /-- BEQ (R70). -/
  | beq (k : CoreId) (p : Bool) (rs1 : Fin 32) (rs2 : Fin 32) (off : BitVec 15)
  /-- BNE (R70). -/
  | bne (k : CoreId) (p : Bool) (rs1 : Fin 32) (rs2 : Fin 32) (off : BitVec 15)
  /-- BLT (R70). -/
  | blt (k : CoreId) (p : Bool) (rs1 : Fin 32) (rs2 : Fin 32) (off : BitVec 15)
  /-- BGE (R70). -/
  | bge (k : CoreId) (p : Bool) (rs1 : Fin 32) (rs2 : Fin 32) (off : BitVec 15)
  /-- BLO (R70). -/
  | blo (k : CoreId) (p : Bool) (rs1 : Fin 32) (rs2 : Fin 32) (off : BitVec 15)
  /-- BHS (R70). -/
  | bhs (k : CoreId) (p : Bool) (rs1 : Fin 32) (rs2 : Fin 32) (off : BitVec 15)
  /-- JL (R58). -/
  | jl (k : CoreId) (p : Bool) (rd : Fin 32) (off : BitVec 20)
  /-- JLR (R58). -/
  | jlr (k : CoreId) (p : Bool) (rd : Fin 32) (rs1 : Fin 32) (imm : BitVec 15)
  /-- FADD (R71). -/
  | fadd (k : CoreId) (p : Bool) (d : Bool) (rd : Fin 32) (rs1 : Fin 32) (rs2 : Fin 32)
  /-- FSUB (R71). -/
  | fsub (k : CoreId) (p : Bool) (d : Bool) (rd : Fin 32) (rs1 : Fin 32) (rs2 : Fin 32)
  /-- FMUL (R71). -/
  | fmul (k : CoreId) (p : Bool) (d : Bool) (rd : Fin 32) (rs1 : Fin 32) (rs2 : Fin 32)
  /-- FDIV (R71). -/
  | fdiv (k : CoreId) (p : Bool) (d : Bool) (rd : Fin 32) (rs1 : Fin 32) (rs2 : Fin 32)
  /-- FSQRT (R71). -/
  | fsqrt (k : CoreId) (p : Bool) (d : Bool) (rd : Fin 32) (rs1 : Fin 32)
  /-- FMIN (R71). -/
  | fmin (k : CoreId) (p : Bool) (d : Bool) (rd : Fin 32) (rs1 : Fin 32) (rs2 : Fin 32)
  /-- FMAX (R71). -/
  | fmax (k : CoreId) (p : Bool) (d : Bool) (rd : Fin 32) (rs1 : Fin 32) (rs2 : Fin 32)
  /-- FCPS (R71). -/
  | fcps (k : CoreId) (p : Bool) (d : Bool) (rd : Fin 32) (rs1 : Fin 32) (rs2 : Fin 32)
  /-- FCVTP (R71). -/
  | fcvtp (k : CoreId) (p : Bool) (d : Bool) (rd : Fin 32) (rs1 : Fin 32)
  /-- FTOI (R71). -/
  | ftoi (k : CoreId) (p : Bool) (d : Bool) (rd : Fin 32) (rs1 : Fin 32)
  /-- FFROMI (R71). -/
  | ffromi (k : CoreId) (p : Bool) (d : Bool) (rd : Fin 32) (rs1 : Fin 32)
  /-- FBITS_G (R71). -/
  | fbitsG (k : CoreId) (p : Bool) (d : Bool) (rd : Fin 32) (rs1 : Fin 32)
  /-- FBITS_V (R71). -/
  | fbitsV (k : CoreId) (p : Bool) (d : Bool) (rd : Fin 32) (rs1 : Fin 32)
  /-- FCEQ (R71). -/
  | fceq (k : CoreId) (p : Bool) (d : Bool) (rd : Fin 32) (rs1 : Fin 32) (rs2 : Fin 32)
  /-- FCLT (R71). -/
  | fclt (k : CoreId) (p : Bool) (d : Bool) (rd : Fin 32) (rs1 : Fin 32) (rs2 : Fin 32)
  /-- FCLE (R71). -/
  | fcle (k : CoreId) (p : Bool) (d : Bool) (rd : Fin 32) (rs1 : Fin 32) (rs2 : Fin 32)
  /-- FMAC (R71). -/
  | fmac (k : CoreId) (p : Bool) (d : Bool) (rd : Fin 32) (rs1 : Fin 32) (rs2 : Fin 32) (rs3 : Fin 32)
  /-- FMSC (R71). -/
  | fmsc (k : CoreId) (p : Bool) (d : Bool) (rd : Fin 32) (rs1 : Fin 32) (rs2 : Fin 32) (rs3 : Fin 32)
  /-- FNMAC (R71). -/
  | fnmac (k : CoreId) (p : Bool) (d : Bool) (rd : Fin 32) (rs1 : Fin 32) (rs2 : Fin 32) (rs3 : Fin 32)
  /-- FNMSC (R71). -/
  | fnmsc (k : CoreId) (p : Bool) (d : Bool) (rd : Fin 32) (rs1 : Fin 32) (rs2 : Fin 32) (rs3 : Fin 32)
  /-- VECTOR_ADD (R73). -/
  | vectorAdd (k : CoreId) (p : Bool) (lane : LaneType) (rd : Fin 32) (rs1 : Fin 32) (rs2 : Fin 32)
  /-- VECTOR_SUB (R73). -/
  | vectorSub (k : CoreId) (p : Bool) (lane : LaneType) (rd : Fin 32) (rs1 : Fin 32) (rs2 : Fin 32)
  /-- VECTOR_MUL (R73). -/
  | vectorMul (k : CoreId) (p : Bool) (lane : LaneType) (rd : Fin 32) (rs1 : Fin 32) (rs2 : Fin 32)
  /-- VECTOR_MIN (R73). -/
  | vectorMin (k : CoreId) (p : Bool) (lane : LaneType) (rd : Fin 32) (rs1 : Fin 32) (rs2 : Fin 32)
  /-- VECTOR_MAX (R73). -/
  | vectorMax (k : CoreId) (p : Bool) (lane : LaneType) (rd : Fin 32) (rs1 : Fin 32) (rs2 : Fin 32)
  /-- VECTOR_AND (R73). -/
  | vectorAnd (k : CoreId) (p : Bool) (lane : LaneType) (rd : Fin 32) (rs1 : Fin 32) (rs2 : Fin 32)
  /-- VECTOR_OR (R73). -/
  | vectorOr (k : CoreId) (p : Bool) (lane : LaneType) (rd : Fin 32) (rs1 : Fin 32) (rs2 : Fin 32)
  /-- VECTOR_XOR (R73). -/
  | vectorXor (k : CoreId) (p : Bool) (lane : LaneType) (rd : Fin 32) (rs1 : Fin 32) (rs2 : Fin 32)
  /-- VFMA_S4 (R73). -/
  | vfmaS4 (k : CoreId) (p : Bool) (rd : Fin 32) (rs1 : Fin 32) (rs2 : Fin 32) (rs3 : Fin 32)
  /-- VFNMA_S4 (R73). -/
  | vfnmaS4 (k : CoreId) (p : Bool) (rd : Fin 32) (rs1 : Fin 32) (rs2 : Fin 32) (rs3 : Fin 32)
  /-- VSHUF (R73). -/
  | vshuf (k : CoreId) (p : Bool) (rd : Fin 32) (rs1 : Fin 32) (rs2 : Fin 32)
  /-- VSPLAT_W (R73). -/
  | vsplatW (k : CoreId) (p : Bool) (rd : Fin 32) (rs1 : Fin 32)
  /-- VEXT_W (R73). -/
  | vextW (k : CoreId) (p : Bool) (rd : Fin 32) (rs1 : Fin 32) (lane : Fin 4)
  /-- TMOV (R74). -/
  | tmov (k : CoreId) (p : Bool) (cd : Fin 16) (cs : Fin 16)
  /-- TBASE (R74). -/
  | tbase (k : CoreId) (p : Bool) (rd : Fin 32) (cs : Fin 16)
  /-- TLEN (R74). -/
  | tlen (k : CoreId) (p : Bool) (rd : Fin 32) (cs : Fin 16)
  /-- TPERM (R74). -/
  | tperm (k : CoreId) (p : Bool) (rd : Fin 32) (cs : Fin 16)
  /-- TTAG (R74). -/
  | ttag (k : CoreId) (p : Bool) (rd : Fin 32) (cs : Fin 16)
  /-- TOWNER (R74). -/
  | towner (k : CoreId) (p : Bool) (rd : Fin 32) (cs : Fin 16)
  /-- TNARROW (R74). -/
  | tnarrow (k : CoreId) (p : Bool) (cd : Fin 16) (cs : Fin 16) (rs2 : Fin 32) (rs3 : Fin 32)
  /-- TTRIM (R74). -/
  | ttrim (k : CoreId) (p : Bool) (cd : Fin 16) (cs : Fin 16) (rs2 : Fin 32)
  /-- TSHUT (R199). -/
  | tshut (k : CoreId) (p : Bool) (cd : Fin 16) (cs : Fin 16) (rs2 : Fin 32)
  /-- TOPEN (R199). -/
  | topen (k : CoreId) (p : Bool) (cd : Fin 16) (cs : Fin 16) (rs2 : Fin 32)
  /-- TVOID (R74). -/
  | tvoid (k : CoreId) (p : Bool) (cd : Fin 16) (cs : Fin 16)
  /-- TJUMP (R199). -/
  | tjump (k : CoreId) (p : Bool) (cd : Fin 16) (cs : Fin 16) (rs2 : Fin 32)
  /-- TPCC (R74). -/
  | tpcc (k : CoreId) (p : Bool) (cd : Fin 16)
  /-- TWITHIN (R74). -/
  | twithin (k : CoreId) (p : Bool) (rd : Fin 32) (cs1 : Fin 16) (cs2 : Fin 16)
  /-- TLD (R75). -/
  | tld (k : CoreId) (p : Bool) (cd : Fin 16) (rs1 : Fin 32) (imm : BitVec 15)
  /-- TST (R75). -/
  | tst (k : CoreId) (p : Bool) (cs2 : Fin 16) (rs1 : Fin 32) (imm : BitVec 15)
  /-- SYSCALL (R76). -/
  | syscall (k : CoreId) (p : Bool)
  /-- BRK (R76). -/
  | brk (k : CoreId) (p : Bool)
  /-- SNUFF_RESPONSE (R209). -/
  | snuffResponse (c : Fin 4)
  /-- RETX (R218). -/
  | retx (k : CoreId) (p : Bool)
  /-- SRR (R76). -/
  | srr (k : CoreId) (p : Bool) (rd : Fin 32) (n : Fin 32)
  /-- SRW (R76). -/
  | srw (k : CoreId) (p : Bool) (n : Fin 32) (rs1 : Fin 32)
  /-- CREATE (R202). -/
  | create (k : CoreId) (p : Bool) (cd : Fin 16) (cs : Fin 16) (rs2 : Fin 32) (rs3 : Fin 32)
  /-- BRAND (R202). -/
  | brand (k : CoreId) (p : Bool) (cd : Fin 16) (cs : Fin 16) (rs2 : Fin 32) (rs3 : Fin 32)
  /-- TLBINV (R237). -/
  | tlbinv (k : CoreId) (p : Bool) (rs1 : Fin 32) (rs2 : Fin 32)
  /-- TLBINVALL (R237). -/
  | tlbinvall (k : CoreId) (p : Bool)
  /-- CRCS_8 (R82). -/
  | crcs8 (k : CoreId) (p : Bool) (rd : Fin 32) (rs1 : Fin 32) (rs2 : Fin 32)
  /-- CRCS_16 (R82). -/
  | crcs16 (k : CoreId) (p : Bool) (rd : Fin 32) (rs1 : Fin 32) (rs2 : Fin 32)
  /-- CRCS_32 (R82). -/
  | crcs32 (k : CoreId) (p : Bool) (rd : Fin 32) (rs1 : Fin 32) (rs2 : Fin 32)
  /-- CRCS_64 (R82). -/
  | crcs64 (k : CoreId) (p : Bool) (rd : Fin 32) (rs1 : Fin 32) (rs2 : Fin 32)
  /-- MOVB (R79). -/
  | movb (k : CoreId) (p : Bool) (rd : Fin 32) (rs1 : Fin 32) (rs2 : Fin 32)
  /-- FILLB (R79). -/
  | fillb (k : CoreId) (p : Bool) (rd : Fin 32) (rs1 : Fin 32) (rs2 : Fin 32)
  /-- CMPB (R79). -/
  | cmpb (k : CoreId) (p : Bool) (rd : Fin 32) (rs1 : Fin 32) (rs2 : Fin 32)
  /-- SCANB (R79). -/
  | scanb (k : CoreId) (p : Bool) (rd : Fin 32) (rs1 : Fin 32) (rs2 : Fin 32)
  /-- CRCB (R81). -/
  | crcb (k : CoreId) (p : Bool) (rd : Fin 32) (rs1 : Fin 32) (rs2 : Fin 32) (rs3 : Fin 32)
  /-- WAITPH (R83). -/
  | waitph (k : CoreId) (p : Bool) (rd : Fin 32) (rs1 : Fin 32) (slot : Fin 64)
  /-- WAITPH_TIMEOUT (R83). -/
  | waitphTimeout (k : CoreId)
  /-- STPH (R85). -/
  | stph (k : CoreId) (p : Bool) (rd : Fin 32) (rs1 : Fin 32) (rs2 : Fin 32) (slot : Fin 64)
  /-- CUSTOMER_ROUTINE (R86). -/
  | customerRoutine (k : CoreId) (p : Bool) (xop : Fin 64) (rd : Fin 32) (rs1 : Fin 32) (rs2 : Fin 32) (imm4 : BitVec 4)
  /-- UNDEFINED_INSTRUCTION (R88). -/
  | undefinedInstruction (k : CoreId) (insn : BitVec 32)
  /-- INTERRUPT_ENTRY (R211). -/
  | interruptEntry (k : CoreId)
  /-- WINDOW_LIMIT (R216). -/
  | windowLimit (k : CoreId)
  /-- FLR_SWSET (R223). -/
  | flrSwset (k : CoreId) (insn : BitVec 32) (val : BitVec 32)
  /-- FLR_PEND (R223). -/
  | flrPend (k : CoreId) (insn : BitVec 32) (i : Fin 8) (val : BitVec 32)
  /-- FLR_ACTV (R223). -/
  | flrActv (k : CoreId) (insn : BitVec 32) (i : Fin 8) (val : BitVec 32)
  /-- FLR_COREW_WOVRCNT (R223). -/
  | flrCorewWovrcnt (k : CoreId) (insn : BitVec 32) (rd : Fin 32) (w : Fin 8)
  /-- PCR_LOQ_FAULT (R103). -/
  | pcrLoqFault (k : CoreId) (insn : BitVec 32) (w : Fin 8) (val : BitVec 32)
  /-- FLUSH (R117). -/
  | flush (k : CoreId) (insn : BitVec 32) (w : Fin 8) (val : BitVec 32)
  /-- RDS (R275). -/
  | rds (c : Fin 4) (w : Fin 8) (line : BitVec 42)
  /-- RDO (R275). -/
  | rdo (c : Fin 4) (w : Fin 8) (line : BitVec 42)
  /-- UPG (R275). -/
  | upg (c : Fin 4) (w : Fin 8) (line : BitVec 42)
  /-- EVD (R277). -/
  | evd (c : Fin 4) (w : Fin 8) (line : BitVec 42)
  /-- EVN (R277). -/
  | evn (c : Fin 4) (w : Fin 8) (line : BitVec 42)
  /-- AMO (R259). -/
  | amo (c : Fin 4) (w : Fin 8) (op : AmoOp) (d : Bool) (pa : BitVec 48) (src : BitVec 64) (cmp : BitVec 64)
  /-- UCR (R267). -/
  | ucr (c : Fin 4) (w : Fin 8) (pa : BitVec 48) (n : AccSize)
  /-- UCW (R267). -/
  | ucw (c : Fin 4) (w : Fin 8) (pa : BitVec 48) (n : AccSize) (data : BitVec 128)
  /-- SNS (R276). -/
  | sns (c : Fin 4) (w : Fin 8) (line : BitVec 42)
  /-- SNI (R276). -/
  | sni (c : Fin 4) (w : Fin 8) (line : BitVec 42)
  /-- SNQ (R283). -/
  | snq (c : Fin 4) (w : Fin 8) (slice : Fin 8) (set : Fin 1024)
  /-- RSP_D (R277). -/
  | rspD (c : Fin 4) (w : Fin 8) (line : BitVec 42)
  /-- RSP_N (R275). -/
  | rspN (c : Fin 4) (w : Fin 8) (line : BitVec 42)
  /-- RSP_X (R277). -/
  | rspX (c : Fin 4) (w : Fin 8) (line : BitVec 42)
  /-- DAT (R268). -/
  | dat (c : Fin 4) (w : Fin 8) (line : BitVec 42)
  /-- ACK (R276). -/
  | ack (c : Fin 4) (w : Fin 8) (line : BitVec 42)
  /-- MRD (R296). -/
  | mrd (c : Fin 4) (line : BitVec 42)
  /-- MWR (R302). -/
  | mwr (c : Fin 4) (line : BitVec 42)
  /-- CXL_READ_RESPONSE (R301). -/
  | cxlReadResponse (c : Fin 4) (line : BitVec 42) (held : Bool) (late : Arrival)
  /-- HOME_TIMEOUT (R280). -/
  | homeTimeout (c : Fin 4) (line : BitVec 42)
  /-- IMBALANCE_WINDOW (R289). -/
  | imbalanceWindow (c : Fin 4)
  /-- L3D_ERRCNT0 (R290). -/
  | l3dErrcnt0 (k : CoreId) (insn : BitVec 32) (rd : Fin 32)
  /-- L3D_ERRCNT1 (R290). -/
  | l3dErrcnt1 (k : CoreId) (insn : BitVec 32) (rd : Fin 32)
  /-- L3D_ERRCNT2 (R290). -/
  | l3dErrcnt2 (k : CoreId) (insn : BitVec 32) (rd : Fin 32)
  /-- L3D_ERRSAT (R290). -/
  | l3dErrsat (k : CoreId) (insn : BitVec 32) (rd : Fin 32)
  /-- FLIT_CRC_FAILURE (R303). -/
  | flitCrcFailure (c : Fin 4)
  /-- LINK_DOWN (R303). -/
  | linkDown (c : Fin 4)
  /-- GET_EVENT_RECORDS (R304). -/
  | getEventRecords (c : Fin 4) (recs : List EventRecord)
  /-- MCX_ERRCNT0 (R308). -/
  | mcxErrcnt0 (k : CoreId) (insn : BitVec 32) (rd : Fin 32)
  /-- MCX_ERRCNT1 (R308). -/
  | mcxErrcnt1 (k : CoreId) (insn : BitVec 32) (rd : Fin 32)
  /-- MCX_ERRCNT2 (R308). -/
  | mcxErrcnt2 (k : CoreId) (insn : BitVec 32) (rd : Fin 32)
  /-- MCX_ERRCNT3 (R308). -/
  | mcxErrcnt3 (k : CoreId) (insn : BitVec 32) (rd : Fin 32)
  /-- MCX_ERRSAT (R308). -/
  | mcxErrsat (k : CoreId) (insn : BitVec 32) (rd : Fin 32)
  /-- MCX_EVT (R308). -/
  | mcxEvt (k : CoreId) (insn : BitVec 32) (rd : Fin 32)
  /-- MCX_HWMCLR (R308). -/
  | mcxHwmclr (k : CoreId) (insn : BitVec 32) (val : BitVec 32)
  /-- RETRAIN (R309). -/
  | retrain (c : Fin 4) (x : ExpanderFacts) (val : BitVec 8) (q : RingAsker)
  /-- ENCODER_COUNT (R128). -/
  | encoderCount (c : Fin 4) (t : Fin 4) (move : EncMove) (e : CountEdge)
  /-- INDEX_EDGE (R129). -/
  | indexEdge (c : Fin 4) (t : Fin 4) (e : MarkEdge)
  /-- PULSE_EDGE (R129). -/
  | pulseEdge (c : Fin 4) (t : Fin 4) (e : MarkEdge)
  /-- ZERO_CROSSING (R129). -/
  | zeroCrossing (c : Fin 4) (t : Fin 4) (e : MarkEdge)
  /-- RING_PHASE_SAMPLE (R125). -/
  | ringPhaseSample (c : Fin 4) (t : Fin 4) (angle : BitVec 32) (turn : BitVec 32) (newMaster : Bool) (e : SampleTime)
  /-- EDGE (R128). -/
  | swEdge (k : CoreId) (insn : BitVec 32) (t : Fin 4) (val : BitVec 32)
  /-- SET (R131). -/
  | swSet (k : CoreId) (insn : BitVec 32) (t : Fin 4) (val : BitVec 32)
  /-- MISSING_EDGE (R130). -/
  | missingEdge (c : Fin 4) (t : Fin 4)
  /-- HOLDOVER_EXPIRY (R130). -/
  | holdoverExpiry (c : Fin 4) (t : Fin 4)
  /-- TRACKER_RESTART (R130). -/
  | trackerRestart (k : CoreId) (insn : BitVec 32) (t : Fin 4) (val : BitVec 32)
  /-- ARM (R134). -/
  | arm (k : CoreId) (insn : BitVec 32) (n : Fin 64) (val : BitVec 32)
  /-- SOFTWARE_CANCEL (R135). -/
  | softwareCancel (k : CoreId) (insn : BitVec 32) (n : Fin 64) (val : BitVec 32)
  /-- SLOT_FIRING (R137). -/
  | slotFiring (c : Fin 4) (n : Fin 64) (bwd : Bool)
  /-- DEADLINE (R136). -/
  | deadline (c : Fin 4) (n : Fin 64)
  /-- PTB_HWMCLR (R144). -/
  | ptbHwmclr (k : CoreId) (insn : BitVec 32) (val : BitVec 32)
  /-- PTB_STPH_DISC (R144). -/
  | ptbStphDisc (k : CoreId) (insn : BitVec 32) (rd : Fin 32)
  /-- RUN (R145). -/
  | run (k : CoreId) (insn : BitVec 32) (n : Fin 16) (val : BitVec 32)
  /-- TIMER_ZERO (R146). -/
  | timerZero (c : Fin 4) (n : Fin 16)
  /-- TIMER_PEAK (R146). -/
  | timerPeak (c : Fin 4) (n : Fin 16)
  /-- COMPARE_MATCH (R149). -/
  | compareMatch (c : Fin 4) (n : Fin 16) (b : Bool)
  /-- COUNT_WRITE (R148). -/
  | countWrite (k : CoreId) (insn : BitVec 32) (n : Fin 16) (val : BitVec 32)
  /-- LIVE_COMPARE_WRITE (R152). -/
  | liveCompareWrite (k : CoreId) (insn : BitVec 32) (n : Fin 16) (b : Bool) (val : BitVec 32)
  /-- SYNC_START (R159). -/
  | syncStart (k : CoreId) (insn : BitVec 32) (val : BitVec 32)
  /-- SYNC_STOP (R159). -/
  | syncStop (k : CoreId) (insn : BitVec 32) (val : BitVec 32)
  /-- CAPTURE (R155). -/
  | capture (c : Fin 4) (n : Fin 16) (m : Fin 4) (e : CaptureEdge)
  /-- CAP_READ (R156). -/
  | capRead (k : CoreId) (insn : BitVec 32) (rd : Fin 32) (n : Fin 16) (m : Fin 4) (coincident : Bool)
  /-- WDT_CTL_WRITE (R160). -/
  | wdtCtlWrite (k : CoreId) (insn : BitVec 32) (val : BitVec 32)
  /-- SERVICE (R161). -/
  | service (k : CoreId) (insn : BitVec 32) (val : BitVec 32)
  /-- WATCHDOG_WARNING (R160). -/
  | watchdogWarning (c : Fin 4)
  /-- WATCHDOG_EXPIRY (R162). -/
  | watchdogExpiry (c : Fin 4)
  /-- PIO_SET (R166). -/
  | pioSet (k : CoreId) (insn : BitVec 32) (hi : Bool) (val : BitVec 32)
  /-- PIO_CLR (R166). -/
  | pioClr (k : CoreId) (insn : BitVec 32) (hi : Bool) (val : BitVec 32)
  /-- PIO_TGL (R166). -/
  | pioTgl (k : CoreId) (insn : BitVec 32) (hi : Bool) (val : BitVec 32)
  /-- PIN_EDGE (R165). -/
  | pinEdge (c : Fin 4) (pin : Fin 64) (level : Bool)
  /-- PIN_FUNCTION_CHANGE (R165). -/
  | pinFunctionChange (k : CoreId) (insn : BitVec 32) (pin : Fin 64) (val : BitVec 32)
  /-- UART_TRANSMIT (R169). -/
  | uartTransmit (k : CoreId) (insn : BitVec 32) (u : Fin 2) (val : BitVec 32)
  /-- UART_RECEIVE_POP (R169). -/
  | uartReceivePop (k : CoreId) (insn : BitVec 32) (rd : Fin 32) (u : Fin 2)
  /-- CHARACTER_RECEIVED (R169). -/
  | characterReceived (c : Fin 4) (u : Fin 2) (ch : BitVec 8) (parErr : Bool) (frmErr : Bool) (brk : Bool)
  /-- CHARACTER_SENT (R169). -/
  | characterSent (c : Fin 4) (u : Fin 2)
  /-- RXTO (R169). -/
  | rxTimeout (c : Fin 4) (u : Fin 2)
  /-- SPI_TRANSMIT (R170). -/
  | spiTransmit (k : CoreId) (insn : BitVec 32) (val : BitVec 32)
  /-- SPI_RECEIVE_POP (R170). -/
  | spiReceivePop (k : CoreId) (insn : BitVec 32) (rd : Fin 32)
  /-- SPI_FRAME_DONE (R170). -/
  | spiFrameDone (c : Fin 4) (rx : BitVec 32)
  /-- I2C_COMMAND (R171). -/
  | i2cCommand (k : CoreId) (insn : BitVec 32) (val : BitVec 32)
  /-- I2C_RXDATA_POP (R171). -/
  | i2cRxdataPop (k : CoreId) (insn : BitVec 32) (rd : Fin 32)
  /-- I2C_BYTE_DONE (R171). -/
  | i2cByteDone (c : Fin 4) (rx : BitVec 8) (nack : Bool)
  /-- ARBITRATION_LOST (R171). -/
  | arbitrationLost (c : Fin 4)
  /-- STRETCH_TIMEOUT (R171). -/
  | stretchTimeout (c : Fin 4)
  /-- ETH_TXCMD (R172). -/
  | ethTxcmd (k : CoreId) (insn : BitVec 32) (val : BitVec 32)
  /-- FRAME_SENT (R172). -/
  | frameSent (c : Fin 4)
  /-- FRAME_RECEIVED (R172). -/
  | frameReceived (c : Fin 4) (bytes : List (BitVec 8)) (ok : Bool)
  /-- LINK_CHANGE (R172). -/
  | linkChange (c : Fin 4) (up : Bool) (speed : BitVec 2) (hdx : Bool)
  /-- GO (R172). -/
  | mdioGo (k : CoreId) (insn : BitVec 32) (val : BitVec 32)
  /-- MDIO_DONE (R172). -/
  | mdioDone (c : Fin 4) (data : BitVec 16)
  /-- ETH_ERRCNT (R172). -/
  | ethErrcnt (k : CoreId) (insn : BitVec 32) (rd : Fin 32)
  /-- COUNTER_OVERFLOW (R437). -/
  | counterOverflow (k : CoreId) (b : Fin 14)
  /-- TRACE_RUN (R452). -/
  | traceRun (k : CoreId) (insn : BitVec 32) (val : BitVec 32)
  /-- TRACE_STOP (R452). -/
  | traceStop (k : CoreId) (insn : BitVec 32) (val : BitVec 32)
  /-- TRIGGER (R452). -/
  | trigger (c : Fin 4) (ev : TriggerEvent)
  /-- SWTRIG_GO (R452). -/
  | swtrigGo (k : CoreId) (insn : BitVec 32) (val : BitVec 32)
  /-- POST_END (R452). -/
  | postEnd (c : Fin 4)
  /-- TRACE_STALL (R450). -/
  | traceStall (c : Fin 4)
  /-- TRACE_STALL_END (R450). -/
  | traceStallEnd (c : Fin 4)
  /-- SWEEP (R336). -/
  | sweep
  /-- FORWARD (R326). -/
  | forward (port : RingPort) (f : FrameIn)
  /-- OTHER (R326). -/
  | other (f : OtherFrame)
  /-- HEAD_FRAME (R337). -/
  | headFrame (port : RingPort) (h : HeadFrame)
  /-- DATA_FRAME (R337). -/
  | dataFrame (port : RingPort) (f : DataFrame)
  /-- HEAD_RETURN (R343). -/
  | headReturn (port : RingPort) (h : HeadFrame) (ns : Nat)
  /-- SWMISS (R347). -/
  | swMiss
  /-- READ (R350). -/
  | ringRead (f : MailboxFrame)
  /-- WRITE (R350). -/
  | ringWrite (f : MailboxFrame)
  /-- GROUP_READ (R352). -/
  | groupRead (f : MailboxFrame)
  /-- MAILBOX_RETURN (R350). -/
  | mailboxReturn (f : MailboxFrame)
  /-- MAILBOX_TIMEOUT (R350). -/
  | mailboxTimeout (tid : BitVec 16)
  /-- CALIBRATION_REQUEST (R335). -/
  | calibrationRequest (port : RingPort) (t1 : BitVec 64) (fcsOk : Bool) (marked : Bool)
  /-- CALIBRATION_RETURN (R335). -/
  | calibrationReturn (port : RingPort) (t1 : BitVec 64) (t2 : BitVec 64) (t3 : BitVec 64) (fcs : FcsSeen)
  /-- CALIBRATION_TIMER (R345). -/
  | calibrationTimer (port : RingPort)
  /-- BLOCK_LOCK_LOSS (R349). -/
  | blockLockLoss (port : RingPort)
  /-- BYPASS_RELEASE (R355). -/
  | bypassRelease (why : BypassCause)
  /-- BYPASS_RETRY (R355). -/
  | bypassRetry (testsPass : Bool)
  /-- HOLD_BYPASSED (R358). -/
  | holdBypassed (q : RingAsker)
  /-- RETRY_NOW (R358). -/
  | retryNow (q : RingAsker) (testsPass : Bool)
  /-- DICTIONARY_READ (R389). -/
  | dictionaryRead (c : Fin 4)
  /-- DICTIONARY_WRITE (R389). -/
  | dictionaryWrite (c : Fin 4)
  /-- DECLARE (R388). -/
  | declare (c : Fin 4)
  /-- CHALLENGE (R382). -/
  | challenge (src : BitVec 12)
  /-- TOKEN (R383). -/
  | token (src : BitVec 12) (bytes : List (BitVec 8))
  /-- CLOSE (R382). -/
  | close (src : BitVec 12) (num : BitVec 32)
  /-- SESSION_EXPIRY (R383). -/
  | sessionExpiry (num : BitVec 32)
  /-- PARAMETER_STORE_WRITE (R373). -/
  | parameterStoreWrite (ok : Bool)
  /-- STORE_RETRY (R373). -/
  | storeRetry (ok : Bool)
  /-- RESTORE_DEFAULTS (R378). -/
  | restoreDefaults (q : RingAsker) (val : BitVec 32)
  /-- DIGEST_COMPUTED (R379). -/
  | digestComputed
  /-- ENROL (R395). -/
  | enrol (s : Fin 8) (q : RingAsker) (bytes : List (BitVec 8))
  /-- REVOKE (R395). -/
  | revoke (s : Fin 8) (q : RingAsker) (val : BitVec 32)
  /-- STAGED_DATA (R404). -/
  | stagedData (item : Item) (q : RingAsker) (off : Nat) (bytes : List (BitVec 8))
  /-- PREPARE (R405). -/
  | prepare (item : Item) (q : RingAsker)
  /-- ERASE_DONE (R405). -/
  | eraseDone (item : Item) (ok : Bool)
  /-- ACTIVATE (R405). -/
  | activate (item : Item) (q : RingAsker)
  /-- ABORT (R405). -/
  | abort (item : Item) (q : RingAsker)
  /-- FALL_BACK (R405). -/
  | fallBack (item : Item) (q : RingAsker)
  /-- COMMIT (R405). -/
  | commit (item : Item) (q : RingAsker)
  /-- FIRMWARE_ACTIVATION_TIMEOUT (R407). -/
  | firmwareActivationTimeout
  /-- PORESET_N (R467). -/
  | poresetN (ns : Nat)
  /-- DEVICE_START (R397). -/
  | deviceStart
  /-- LAMPLIGHTER_WATCHDOG_EXPIRY (R398). -/
  | lamplighterWatchdogExpiry (secs : Nat)
  /-- THERMAL_TRIP (R472). -/
  | thermalTrip
  /-- WAKE_PATTERN (R411). -/
  | wakePattern (c : Fin 4) (ns : Nat)
  /-- WIRE_SLEEP (R411). -/
  | wireSleep (c : Fin 4)
  /-- INFO (R413). -/
  | info (c : Fin 4) (tag : BitVec 8) (payload : List (BitVec 8))
  /-- DEBUG_CHALLENGE (R416). -/
  | debugChallenge (c : Fin 4) (tag : BitVec 8) (payload : List (BitVec 8))
  /-- DEBUG_TOKEN (R416). -/
  | debugToken (c : Fin 4) (tag : BitVec 8) (payload : List (BitVec 8))
  /-- TOKEN_CHECK (R416). -/
  | tokenCheck (c : Fin 4)
  /-- DROP (R417). -/
  | drop (c : Fin 4) (tag : BitVec 8) (payload : List (BitVec 8))
  /-- STATUS (R413). -/
  | status (c : Fin 4) (tag : BitVec 8) (payload : List (BitVec 8))
  /-- DEBUG_READ (R419). -/
  | debugRead (c : Fin 4) (tag : BitVec 8) (payload : List (BitVec 8))
  /-- DEBUG_WRITE (R420). -/
  | debugWrite (c : Fin 4) (tag : BitVec 8) (payload : List (BitVec 8))
  /-- AUTHORISATION_EXPIRY (R417). -/
  | authorisationExpiry (c : Fin 4)
  /-- WITHDRAW (R429). -/
  | withdraw (c : Fin 4) (q : RingAsker) (val : BitVec 32)
  /-- DBG_HALTREQ (R422). -/
  | dbgHaltreq (c : Fin 4) (val : BitVec 32)
  /-- HALT (R423). -/
  | halt (k : CoreId)
  /-- DBG_RESUME (R425). -/
  | dbgResume (c : Fin 4) (val : BitVec 32)
  /-- DBG_STEP (R424). -/
  | dbgStep (c : Fin 4) (val : BitVec 32)
  /-- PATCH_CTL_WRITE (R426). -/
  | patchCtlWrite (k : CoreId) (insn : BitVec 32) (u : Fin 32) (wire : Bool) (val : BitVec 32)
  /-- BLOCK_LOCK_GAIN (R349). -/
  | blockLockGain (port : RingPort)
  /-- CXL_WRITE_COMPLETION (R302). -/
  | cxlWriteCompletion (c : Fin 4) (line : BitVec 42) (ok : Completion)
  /-- HELD_RESPONSE_DELIVERY (R297). -/
  | heldResponseDelivery (c : Fin 4) (line : BitVec 42)
  /-- DEAD_TIME_END (R151). -/
  | deadTimeEnd (c : Fin 4) (n : Fin 16) (b : Bool) (low : Bool)
  /-- SERVICE_GAP_EXPIRY (R161). -/
  | serviceGapExpiry (c : Fin 4)
  /-- ACTIVATION_PAUSE_END (R407). -/
  | activationPauseEnd
  /-- FLASH_PROGRAM_DONE (R404). -/
  | flashProgramDone (item : Item) (ok : Bool)
  /-- CHALLENGE_EXPIRY (R382). -/
  | challengeExpiry (src : BitVec 12)
  /-- DEBUG_CHALLENGE_EXPIRY (R416). -/
  | debugChallengeExpiry (c : Fin 4)
  /-- REFUSED_FRAME (R412). -/
  | refusedFrame (c : Fin 4)
  /-- UNKNOWN_COMMAND (R414). -/
  | unknownCommand (c : Fin 4) (code : BitVec 8) (tag : BitVec 8) (payload : List (BitVec 8))
  /-- SYNC_CYCLE_LIMIT (R442). -/
  | syncCycleLimit (k : CoreId)
  /-- ROOM_RETURNS (R451). -/
  | roomReturns (c : Fin 4)
  deriving DecidableEq, Repr

end Sys2Proof
end

