-- ==== Sys2Proof/Decode.lean ====
section
/-! DEFINITION. The decoder of the block's commands. spec/opcode_table.json gives no row any bits: a command reaches the block as itself, not
as a word, so that no word spells one. A Wick instruction's word is built where its command is executed (R55 to R58, Machine/Operands.lean);
the words an image or a routine holds are read in Machine/Undef.lean and Machine/Image.lean. -/

namespace Sys2Proof

/-- The command that a word of the table spells: none, as the table gives no bits. -/
def decodeTableWord (_nbits _w : Nat) : Option Instr := none

end Sys2Proof
end

