-- ==== Sys2Proof/Config.lean ====
section
/-! DEFINITION. What the manual leaves open and what a particular device fixes: constants with no body, so that no proof can
see their values (log entries 3, 4, 5). A statement about one of them holds whatever it is. -/

namespace Sys2Proof.Config

/-- The choice among the listed outcomes of R13: which one is produced on occasion `n`, for the purpose `salt`.
DESIGN CHOICE (log 3): a free value, drawn with the counter `Chan.free`, `Lamp.free` or `Ring.free`. -/
opaque choice (n salt : Nat) : Nat

/-- A free value of 512 bits: the Lamplighter's random source (R108, R271, R382, R416), and every value the manual does not
state although the device goes on. DESIGN CHOICE (log 3). -/
opaque draw (n salt : Nat) : BitVec 512

/-- The 20-bit key of R108: a keyed hash of a Mantle identity under the channel's secret; the hash is not published (log 4). -/
opaque predictorKey (secret : BitVec 128) (mantle : BitVec 12) : BitVec 20

/-- Whether tininess is detected after rounding: IEEE 754-2019 leaves it to the implementation, and R71 does not say (log 6). -/
opaque tinyAfter : Bool

/-- Whether FMIN and FMAX of a number and a NaN give the number (minimumNumber) or the canonical NaN (minimum): R71 names only
IEEE 754-2019, which has both (log 6). -/
opaque minNumber : Bool

/-- Whether a fused 0 × ∞ + NaN signals NV: IEEE 754-2019 leaves it to the implementation (log 6). -/
opaque fmaInvalid : Bool

/-- The serial number of the device (0x1000:05), fixed in OTP (R394). -/
opaque serial : BitVec 64

/-- The AES-256 patch key and the vendor's public key of the OTP (R394). -/
opaque patchKey : BitVec 256
opaque vendorKey : List (BitVec 8)

/-- What the flash slots of the six items hold when the device is first started: an external programmer writes them (R391; log 28). -/
opaque flash (item slot : Nat) : List (BitVec 8)

/-- What the Lamplighter finds in firmware or a vendor patch, whose format is Ehryan's own (R402; log 5): well formed, the silicon
revision named, signed by the key, opened by the patch key; then its SECVER or patch level and the revision reported. -/
opaque vendorItem (key : List (BitVec 8)) (patchKey : BitVec 256) (bytes : List (BitVec 8)) :
  Bool × BitVec 8 × Bool × Bool × Nat × BitVec 32

/-- The ROM of the micro and nano stores, fixed in silicon and the vendor's (R173). -/
opaque romMicro (addr : Nat) : BitVec 20
opaque romNano (addr : Nat) : BitVec 144

/-- What a vendor patch holds, in a format that is the vendor's (R189; log 5): microwords, nanowords, redirections of ROM addresses. -/
opaque patchWords (patchKey : BitVec 256) (bytes : List (BitVec 8)) :
  List (BitVec 20) × List (BitVec 144) × List (BitVec 13 × BitVec 13)

/-- The offset in a customer image of the first fault of a failing check (R194), for checks that R187 states on whole paths. -/
opaque faultOffset (check : Nat) (bytes : List (BitVec 8)) : BitVec 32

end Sys2Proof.Config
end

