-- ==== Sys2Proof/Machine/Bits.lean ====
section
/-! DEFINITION. Bit-field, sign-extension, byte-order and saturation helpers used by every part of the machine (R4, R57, R64). -/

namespace Sys2Proof.Machine

/-- A Bool as a number, 1 for true. -/
def b2n (b : Bool) : Nat := if b then 1 else 0

/-- A Bool as a 64-bit word, 1 for true. -/
def b2w (b : Bool) : W64 := if b then 1#64 else 0#64

/-- Sign extension to 64 bits (R57). -/
def sx {n : Nat} (x : BitVec n) : W64 := x.signExtend 64

/-- Zero extension to 64 bits (R57). -/
def zx {n : Nat} (x : BitVec n) : W64 := x.zeroExtend 64

/-- Bits [31:0] sign-extended from bit 31 (R58). -/
def sx32 (x : W64) : W64 := (x.truncate 32).signExtend 64

/-- Field [lo + w − 1 : lo] of a register image, as a number. -/
def getF (x : W32) (lo w : Nat) : Nat := (x.toNat >>> lo) % 2 ^ w

/-- The image with field [lo + w − 1 : lo] set to v. -/
def setF (x : W32) (lo w v : Nat) : W32 :=
  let m : W32 := BitVec.ofNat 32 ((2 ^ w - 1) <<< lo)
  (x &&& ~~~m) ||| (BitVec.ofNat 32 ((v % 2 ^ w) <<< lo))

/-- Bit b of a number. -/
def nbit (x b : Nat) : Bool := x.testBit b

/-- Number of 1 bits (R64 POPC). -/
def popcount {n : Nat} (x : BitVec n) : Nat := ((List.range n).filter fun i => x.getLsbD i).length

/-- Leading zeros, 0 to n (R64 CLZ). -/
def clzN {n : Nat} (x : BitVec n) : Nat :=
  ((List.range n).takeWhile fun i => !x.getLsbD (n - 1 - i)).length

/-- Trailing zeros, 0 to n (R64 CTZ). -/
def ctzN {n : Nat} (x : BitVec n) : Nat := ((List.range n).takeWhile fun i => !x.getLsbD i).length

/-- A word built from a predicate on its bit numbers. -/
def ofBits (n : Nat) (f : Nat → Bool) : BitVec n :=
  BitVec.ofNat n ((List.range n).foldl (fun a i => if f i then a + 2 ^ i else a) 0)

/-- Byte i of a word, byte 0 lowest (R4). -/
def byteOf {n : Nat} (x : BitVec n) (i : Nat) : Byte := (x >>> (8 * i)).truncate 8

/-- The little-endian number of a list of bytes (R4). -/
def leNat : List Byte → Nat
  | [] => 0
  | b :: bs => b.toNat + 256 * leNat bs

/-- The n little-endian bytes of a number (R4). -/
def leBytes (v : Nat) : Nat → List Byte
  | 0 => []
  | n + 1 => BitVec.ofNat 8 v :: leBytes (v / 256) n

/-- The big-endian number of a list of bytes. -/
def beNat (bs : List Byte) : Nat := leNat bs.reverse

/-- Addition that sticks at m (R223, R282). -/
def sticky (m x k : Nat) : Nat := min m (x + k)

/-- Lane i of width w of a 128-bit register, lane 0 lowest (R52). -/
def lane (w : Nat) (x : W128) (i : Nat) : BitVec w := (x >>> (w * i)).truncate w

/-- A 128-bit register from its lanes. -/
def fromLanes (w : Nat) (ls : List (BitVec w)) : W128 :=
  BitVec.ofNat 128 (ls.foldr (fun l a => l.toNat + 2 ^ w * a) 0)

/-- Parity of the 1 bits. -/
def parity {n : Nat} (x : BitVec n) : Bool := popcount x % 2 == 1

/-- Read of a list at an index, with a default. -/
def nth {α : Type} (d : α) (l : List α) (i : Nat) : α := (l[i]?).getD d

/-- The first n bytes of a list, zero-padded. -/
def takePad (n : Nat) (l : List Byte) : List Byte := (l ++ List.replicate n 0#8).take n

/-- All numbers below n that satisfy p, in order. -/
def below (n : Nat) (p : Nat → Bool) : List Nat := (List.range n).filter p

end Sys2Proof.Machine
end

