-- ==== Sys2Proof/Machine/Flags.lean ====
section
/-! DEFINITION. Floating-point arithmetic and the flags it raises (R71, R72): binary32 and binary64 of IEEE 754-2019 with
subnormals, every result rounded once under RM, every NaN result canonical. Operands are taken apart into integers, the exact
result is formed, and one rounding puts it back. -/

namespace Sys2Proof.Machine

/-- FPCTL flag bits: NX, UF, OF, DZ, NV, in FLAGS order (R72). -/
abbrev FFlags := BitVec 5

def fNX : FFlags := 1#5
def fUF : FFlags := 2#5
def fOF : FFlags := 4#5
def fDZ : FFlags := 8#5
def fNV : FFlags := 16#5

/-- A binary format: precision with the hidden bit, exponent bits. -/
structure FFmt where
  p  : Nat
  eb : Nat
  deriving DecidableEq, Repr

def fmt32 : FFmt := { p := 24, eb := 8 }
def fmt64 : FFmt := { p := 53, eb := 11 }

/-- The format of a precision bit: fn[4] of major 0x2C (R71). -/
def fmtOf (d : Bool) : FFmt := if d then fmt64 else fmt32

/-- The largest exponent. -/
def FFmt.emax (f : FFmt) : Int := 2 ^ (f.eb - 1) - 1
/-- The smallest normal exponent. -/
def FFmt.emin (f : FFmt) : Int := 1 - f.emax
/-- Width in bits. -/
def FFmt.width (f : FFmt) : Nat := f.p + f.eb

/-- A number taken apart: NaN (signalling or not), infinity, or ±m × 2^e. -/
inductive FVal
  | nan (sig : Bool)
  | inf (s : Bool)
  | num (s : Bool) (m : Nat) (e : Int)
  deriving DecidableEq, Repr

/-- The exponent field of all ones. -/
def FFmt.ones (f : FFmt) : Nat := 2 ^ f.eb - 1

/-- Bits to value. -/
def unpack (f : FFmt) (x : Nat) : FVal :=
  let man := x % 2 ^ (f.p - 1)
  let ex := x / 2 ^ (f.p - 1) % 2 ^ f.eb
  let s := x / 2 ^ (f.p - 1 + f.eb) % 2 == 1
  if ex = f.ones then (if man = 0 then .inf s else .nan (man < 2 ^ (f.p - 2)))
  else if ex = 0 then .num s man (f.emin - (f.p - 1 : Nat))
  else .num s (man + 2 ^ (f.p - 1)) (f.emin + (ex - 1 : Nat) - (f.p - 1 : Nat))

/-- The sign bit in place. -/
def signBit (f : FFmt) (s : Bool) : Nat := if s then 2 ^ (f.p - 1 + f.eb) else 0

/-- The canonical quiet NaN (R71). -/
def qnan (f : FFmt) : Nat := f.ones * 2 ^ (f.p - 1) + 2 ^ (f.p - 2)

/-- Infinity. -/
def finf (f : FFmt) (s : Bool) : Nat := signBit f s + f.ones * 2 ^ (f.p - 1)

/-- The largest finite number. -/
def fmaxNum (f : FFmt) (s : Bool) : Nat := signBit f s + f.ones * 2 ^ (f.p - 1) - 1

/-- Zero of a sign. -/
def fzero (f : FFmt) (s : Bool) : Nat := signBit f s

/-- Whether rounding mode RM (R72) rounds a magnitude up: odd significand, remainder against half, rest below it. -/
def roundsUp (rm : Nat) (s odd : Bool) (rem half : Nat) (rest : Bool) : Bool :=
  match rm with
  | 0 => half < rem || (rem == half && (rest || odd))
  | 1 => false
  | 2 => s && (rem != 0 || rest)
  | _ => !s && (rem != 0 || rest)

/-- m / 2^k rounded: the significand, and whether it is inexact. -/
def roundShift (rm : Nat) (s : Bool) (m : Nat) (k : Int) (rest : Bool) : Nat × Bool :=
  match k with
  | .ofNat 0 => (if roundsUp rm s (m % 2 == 1) 0 1 rest then m + 1 else m, rest)
  | .ofNat (n + 1) =>
    let q := m / 2 ^ (n + 1)
    let r := m % 2 ^ (n + 1)
    (if roundsUp rm s (q % 2 == 1) r (2 ^ n) rest then q + 1 else q, r != 0 || rest)
  | .negSucc n => (m * 2 ^ (n + 1), rest)

/-- ±m × 2^e, with a non-zero rest below the last bit of m when `rest`, rounded once to the format. An exact tiny result signals no
underflow, its enable bit set or not: DESIGN CHOICE (log 53). -/
def pack (f : FFmt) (rm : Nat) (s : Bool) (m : Nat) (e : Int) (rest : Bool) : Nat × FFlags :=
  if m = 0 ∧ rest = false then (fzero f s, 0#5) else
  let top : Int := e + Nat.log2 m
  let tinyB := top < f.emin
  let q : Int := (if tinyB then f.emin else top) - (f.p - 1 : Nat)
  let (r, ix) := roundShift rm s m (q - e) rest
  let (r, q) := if r = 2 ^ f.p then (2 ^ (f.p - 1), q + 1) else (r, q)
  let free := (roundShift rm s m (top - (f.p - 1 : Nat) - e) rest).1
  let tiny := tinyB && !(Config.tinyAfter && top = f.emin - 1 && free = 2 ^ f.p)
  let nx := if ix then fNX else 0#5
  if f.emax < q + (f.p - 1 : Nat) then
    ((if rm = 0 ∨ (rm = 2 ∧ s) ∨ (rm = 3 ∧ !s) then finf f s else fmaxNum f s), fOF ||| fNX)
  else
    let ex : Nat := if r < 2 ^ (f.p - 1) then 0 else (q + (f.p - 1 : Nat) - f.emin).toNat + 1
    (signBit f s + ex * 2 ^ (f.p - 1) + r % 2 ^ (f.p - 1), nx ||| (if ix && tiny then fUF else 0#5))

/-- The flag of a signalling NaN among the operands. -/
def sigFlag (xs : List FVal) : FFlags := if xs.any (fun x => match x with | .nan true => true | _ => false) then fNV else 0#5

/-- Exact sum of two signed magnitudes with a common exponent. -/
def addExact (s1 : Bool) (m1 : Nat) (e1 : Int) (s2 : Bool) (m2 : Nat) (e2 : Int) : Int × Int :=
  let e := min e1 e2
  let a : Int := m1 * 2 ^ (e1 - e).toNat
  let b : Int := m2 * 2 ^ (e2 - e).toNat
  ((if s1 then -a else a) + (if s2 then -b else b), e)

/-- The sign of an exact zero sum: that of both operands, else minus only when rounding down. -/
def zeroSign (rm : Nat) (s1 s2 : Bool) : Bool := if s1 = s2 then s1 else rm == 2

/-- x + y. -/
def fAddV (f : FFmt) (rm : Nat) (x y : FVal) : Nat × FFlags :=
  match x, y with
  | .nan _, _ => (qnan f, sigFlag [x, y])
  | _, .nan _ => (qnan f, sigFlag [x, y])
  | .inf s, .inf t => if s = t then (finf f s, 0#5) else (qnan f, fNV)
  | .inf s, _ => (finf f s, 0#5)
  | _, .inf t => (finf f t, 0#5)
  | .num s a e, .num t b g =>
    let (v, ex) := addExact s a e t b g
    if v = 0 then (fzero f (zeroSign rm s t), 0#5) else pack f rm (v < 0) v.natAbs ex false

/-- The value with its sign inverted. -/
def FVal.neg : FVal → FVal
  | .nan q => .nan q
  | .inf s => .inf !s
  | .num s m e => .num (!s) m e

/-- x × y. -/
def fMulV (f : FFmt) (rm : Nat) (x y : FVal) : Nat × FFlags :=
  match x, y with
  | .nan _, _ => (qnan f, sigFlag [x, y])
  | _, .nan _ => (qnan f, sigFlag [x, y])
  | .inf s, .inf t => (finf f (s != t), 0#5)
  | .inf s, .num t m _ => if m = 0 then (qnan f, fNV) else (finf f (s != t), 0#5)
  | .num s m _, .inf t => if m = 0 then (qnan f, fNV) else (finf f (s != t), 0#5)
  | .num s a e, .num t b g => pack f rm (s != t) (a * b) (e + g) false

/-- x / y. The quotient carries enough bits for one rounding. -/
def fDivV (f : FFmt) (rm : Nat) (x y : FVal) : Nat × FFlags :=
  match x, y with
  | .nan _, _ => (qnan f, sigFlag [x, y])
  | _, .nan _ => (qnan f, sigFlag [x, y])
  | .inf _, .inf _ => (qnan f, fNV)
  | .inf s, .num t _ _ => (finf f (s != t), 0#5)
  | .num s _ _, .inf t => (fzero f (s != t), 0#5)
  | .num s a e, .num t b g =>
    if b = 0 then (if a = 0 then (qnan f, fNV) else (finf f (s != t), fDZ))
    else
      let k := 2 * f.p + 4
      let q := a * 2 ^ k / b
      pack f rm (s != t) q (e - g - k) (a * 2 ^ k % b != 0)

/-- √x. -/
def fSqrtV (f : FFmt) (rm : Nat) (x : FVal) : Nat × FFlags :=
  match x with
  | .nan _ => (qnan f, sigFlag [x])
  | .inf s => if s then (qnan f, fNV) else (finf f false, 0#5)
  | .num s m e =>
    if m = 0 then (fzero f s, 0#5)
    else if s then (qnan f, fNV)
    else
      let k := 2 * f.p + 4
      let (m, e) := if e % 2 = 0 then (m, e) else (2 * m, e - 1)
      let n := m * 2 ^ (2 * k)
      let r := Nat.sqrt n
      pack f rm false r (e / 2 - k) (r * r != n)

/-- x × y + z, one rounding. -/
def fFmaV (f : FFmt) (rm : Nat) (x y z : FVal) : Nat × FFlags :=
  let zinf := match x, y with
    | .inf _, .num _ m _ => m == 0
    | .num _ m _, .inf _ => m == 0
    | _, _ => false
  match x, y, z with
  | .nan _, _, _ => (qnan f, sigFlag [x, y, z])
  | _, .nan _, _ => (qnan f, sigFlag [x, y, z])
  | _, _, .nan _ => (qnan f, sigFlag [x, y, z] ||| (if zinf && Config.fmaInvalid then fNV else 0#5))
  | .num s a e, .num t b g, .num u c h =>
    let (v, ex) := addExact (s != t) (a * b) (e + g) u c h
    if v = 0 then (fzero f (zeroSign rm (s != t) u), 0#5) else pack f rm (v < 0) v.natAbs ex false
  | .num _ _ _, .num _ _ _, .inf u => (finf f u, 0#5)
  | x, y, z =>
    if zinf then (qnan f, fNV) else
    let sg := (match x with | .inf s => s | .num s _ _ => s | .nan _ => false) !=
      (match y with | .inf s => s | .num s _ _ => s | .nan _ => false)
    match z with
    | .inf u => if u = sg then (finf f sg, 0#5) else (qnan f, fNV)
    | _ => (finf f sg, 0#5)

/-- Ordering of two values that are no NaN: x < y as exact numbers, −0 equal to +0. -/
def fLtV (x y : FVal) : Bool :=
  match x, y with
  | .nan _, _ => false
  | _, .nan _ => false
  | .inf s, .inf t => s && !t
  | .inf s, .num _ _ _ => s
  | .num _ _ _, .inf t => !t
  | .num s a e, .num t b g => decide ((addExact s a e (!t) b g).1 < 0)

/-- Equality as numbers. -/
def fEqV (x y : FVal) : Bool :=
  match x, y with
  | .nan _, _ => false
  | _, .nan _ => false
  | .inf s, .inf t => s == t
  | .inf _, _ => false
  | _, .inf _ => false
  | .num s a e, .num t b g => (addExact s a e (!t) b g).1 == 0

/-- Whether a value is a NaN. -/
def FVal.isNan : FVal → Bool
  | .nan _ => true
  | _ => false

/-- The sign of a value that is no NaN. -/
def FVal.sgn : FVal → Bool
  | .nan _ => false
  | .inf s => s
  | .num s _ _ => s

/-- FMIN (`mx` false) and FMAX (`mx` true) on bits: −0 below +0; a NaN as Config.minNumber says. -/
def fMinMax (f : FFmt) (mx : Bool) (a b : Nat) : Nat × FFlags :=
  let x := unpack f a
  let y := unpack f b
  let fl := sigFlag [x, y]
  if x.isNan || y.isNan then
    if Config.minNumber then (if x.isNan && y.isNan then qnan f else if x.isNan then b else a, fl) else (qnan f, fl)
  else
    let less := fLtV x y || (fEqV x y && x.sgn && !y.sgn)
    (if less != mx then a else b, fl)

/-- FTOI: to a signed 64-bit integer, saturating; a NaN gives 0; NV in both cases (R71). An inexact conversion signals NX:
DESIGN CHOICE (log 53). -/
def fToI (rm : Nat) (x : FVal) : W64 × FFlags :=
  match x with
  | .nan _ => (0#64, fNV)
  | .inf s => (if s then BitVec.ofNat 64 (2 ^ 63) else BitVec.ofNat 64 (2 ^ 63 - 1), fNV)
  | .num s m e =>
    let (r, ix) := roundShift rm s m (-e) false
    let v : Int := if s then -(r : Int) else r
    if v < -(2 ^ 63) then (BitVec.ofNat 64 (2 ^ 63), fNV)
    else if 2 ^ 63 - 1 < v then (BitVec.ofNat 64 (2 ^ 63 - 1), fNV)
    else (BitVec.ofInt 64 v, if ix then fNX else 0#5)

/-- FFROMI: a signed 64-bit integer to the format (R71). -/
def fFromI (f : FFmt) (rm : Nat) (x : W64) : Nat × FFlags := pack f rm (x.toInt < 0) x.toInt.natAbs 0 false

/-- FCVTP: from the other precision (R71). -/
def fCvt (src dst : FFmt) (rm : Nat) (a : Nat) : Nat × FFlags :=
  match unpack src a with
  | .nan q => (qnan dst, if q then fNV else 0#5)
  | .inf s => (finf dst s, 0#5)
  | .num s m e => pack dst rm s m e false

/-- The two-operand operations FADD, FSUB, FMUL, FDIV, FMIN, FMAX of fn 0–3, 5, 6 and FSQRT of fn 4 on bits (R71). -/
def fpArith (fn : Nat) (d : Bool) (rm : Nat) (a b : Nat) : Nat × FFlags :=
  let f := fmtOf d
  match fn with
  | 0 => fAddV f rm (unpack f a) (unpack f b)
  | 1 => fAddV f rm (unpack f a) (match unpack f b with | .nan q => .nan q | v => v.neg)
  | 2 => fMulV f rm (unpack f a) (unpack f b)
  | 3 => fDivV f rm (unpack f a) (unpack f b)
  | 4 => fSqrtV f rm (unpack f a)
  | 5 => fMinMax f false a b
  | _ => fMinMax f true a b

/-- The fused operations FMAC, FMSC, FNMAC, FNMSC of major 0x2D (R71). -/
def fpFused (fn : Nat) (d : Bool) (rm : Nat) (a b c : Nat) : Nat × FFlags :=
  let f := fmtOf d
  let x := unpack f a
  let x := if fn = 2 ∨ fn = 3 then x.neg else x
  let z := unpack f c
  let z := if fn = 1 ∨ fn = 3 then z.neg else z
  fFmaV f rm x (unpack f b) z

/-- Comparisons FCEQ, FCLT, FCLE of fn 13–15 (R71): FCEQ signals only a signalling NaN. -/
def fpCmp (fn : Nat) (d : Bool) (a b : Nat) : Bool × FFlags :=
  let f := fmtOf d
  let x := unpack f a
  let y := unpack f b
  if x.isNan || y.isNan then (false, if fn = 13 then sigFlag [x, y] else fNV)
  else match fn with
    | 13 => (fEqV x y, 0#5)
    | 14 => (fLtV x y, 0#5)
    | _ => (fLtV x y || fEqV x y, 0#5)

/-- The flags OR-ed into FPCTL.FLAGS (R72). -/
def fpctlSet (fpctl : W64) (fl : FFlags) : W64 := fpctl ||| ((zx fl) <<< 4)

/-- The enabled flags among those raised: what traps (R71, R72). -/
def fpTrap (fpctl : W64) (fl : FFlags) : FFlags := fl &&& (fpctl >>> 12).truncate 5

/-- FPCTL.RM (R72). -/
def fpRm (fpctl : W64) : Nat := (fpctl &&& 3#64).toNat

/-- The listed fields of FPCTL: what an SRW writes (R72). -/
def fpctlMask : W64 := 0x1F1F3#64

/-- One lane operation of major 0x2E for integer lanes (R73): wrap, low half, signed minimum and maximum. -/
def intLane {w : Nat} (fn : Nat) (a b : BitVec w) : BitVec w :=
  match fn with
  | 0 => a + b
  | 1 => a - b
  | 2 => a * b
  | 3 => if a.slt b then a else b
  | _ => if a.slt b then b else a

/-- Major 0x2E on 128 bits (R73): the value and the flags of its FP32 lanes. -/
def vecOp (lane' : LaneType) (fn rm : Nat) (a b : W128) : W128 × FFlags :=
  match fn with
  | 5 => (a &&& b, 0#5)
  | 6 => (a ||| b, 0#5)
  | 7 => (a ^^^ b, 0#5)
  | _ =>
    match lane' with
    | .f32 =>
      let op := match fn with | 3 => 5 | 4 => 6 | n => n
      let rs := (List.range 4).map fun i => fpArith op false rm (lane 32 a i).toNat (lane 32 b i).toNat
      (fromLanes 32 (rs.map fun r => BitVec.ofNat 32 r.1), rs.foldl (fun x r => x ||| r.2) 0#5)
    | .i32 => (fromLanes 32 ((List.range 4).map fun i => intLane fn (lane 32 a i) (lane 32 b i)), 0#5)
    | .i16 => (fromLanes 16 ((List.range 8).map fun i => intLane fn (lane 16 a i) (lane 16 b i)), 0#5)
    | .i8 => (fromLanes 8 ((List.range 16).map fun i => intLane fn (lane 8 a i) (lane 8 b i)), 0#5)

/-- VFMA.S4 and VFNMA.S4 (R73). -/
def vecFma (neg : Bool) (rm : Nat) (a b c : W128) : W128 × FFlags :=
  let rs := (List.range 4).map fun i =>
    fpFused (if neg then 2 else 0) false rm (lane 32 a i).toNat (lane 32 b i).toNat (lane 32 c i).toNat
  (fromLanes 32 (rs.map fun r => BitVec.ofNat 32 r.1), rs.foldl (fun x r => x ||| r.2) 0#5)

/-- VSHUF: byte *i* is byte (b byte *i*)[3:0] of a (R73). -/
def vecShuf (a b : W128) : W128 :=
  fromLanes 8 ((List.range 16).map fun i => lane 8 a ((lane 8 b i).toNat % 16))

end Sys2Proof.Machine
end

