-- ==== Sys2Proof/Machine/RegMap.lean ====
section
/-! DEFINITION. The register maps of the control-register region (R31): for each register its offset, its repetitions, and its
fields with access, reset value and listed values (R6, R8, R11). Fields not given here are reserved (R7). Written from the maps
of R28, R50, R117, R144, R159, R164, R166, R169 to R172, R223, R290, R308, R431, R440 and R454. -/

namespace Sys2Proof.Machine

/-- Access types (R6). -/
inductive Acc | rw | ro | wo | w1c | rc
  deriving DecidableEq, Repr

/-- A field: lowest bit, width, access, reset value, listed values as ranges (empty: all); `nib`, that the Meaning lists the values of each of
the field's 4-bit digits (R290). -/
structure FieldDef where
  lo    : Nat
  w     : Nat
  acc   : Acc
  rst   : Nat
  legal : List (Nat × Nat)
  nib   : Bool
  deriving DecidableEq, Repr

/-- A register at base + i × s1 + j × s2 for i below n1 and j below n2. -/
structure RegDef where
  base   : Nat
  n1     : Nat
  s1     : Nat
  n2     : Nat
  s2     : Nat
  fields : List FieldDef
  deriving DecidableEq, Repr

/-- A field of every value. -/
def fd (lo w : Nat) (acc : Acc) (rst : Nat) : FieldDef := { lo := lo, w := w, acc := acc, rst := rst, legal := [], nib := false }

/-- A field with listed values. -/
def fl (lo w : Nat) (acc : Acc) (rst : Nat) (legal : List (Nat × Nat)) : FieldDef :=
  { lo := lo, w := w, acc := acc, rst := rst, legal := legal, nib := false }

/-- A field whose 4-bit digits have listed values. -/
def fn4 (lo w : Nat) (acc : Acc) (rst : Nat) (legal : List (Nat × Nat)) : FieldDef :=
  { lo := lo, w := w, acc := acc, rst := rst, legal := legal, nib := true }

/-- CHN block, R50. -/
def rowsChn : List RegDef :=
  [ ⟨0x0, 1, 0x4, 1, 0x4, [fd 0 2 .ro 0]⟩  -- CHN_ID
  , ⟨0x10, 1, 0x4, 1, 0x4, [fl 0 4 .rw 0 [(1, 8)], fd 8 8 .rw 0]⟩  -- CHN_MODE_REQ
  , ⟨0x14, 1, 0x4, 1, 0x4, [fd 0 4 .ro 8, fd 4 4 .ro 8, fd 8 1 .ro 0, fd 9 1 .ro 0, fd 12 4 .ro 0, fd 16 8 .ro 0, fd 24 4 .ro 0, fd 28 1 .w1c 0, fd 29 1 .w1c 0]⟩  -- CHN_MODE_STAT
  , ⟨0x18, 1, 0x4, 1, 0x4, [fd 0 1 .rw 0, fd 1 1 .rw 0]⟩  -- CHN_MODE_CTL
  , ⟨0x1C, 1, 0x4, 1, 0x4, [fd 0 20 .ro 0]⟩  -- CHN_MODE_TIME
  , ⟨0x20, 1, 0x4, 1, 0x4, [fd 0 1 .rw 1, fd 1 1 .rw 1, fd 4 3 .rw 0]⟩  -- CHN_WAKE_CFG
  , ⟨0x24, 1, 0x4, 1, 0x4, [fl 0 2 .rw 1 [(0, 2)], fd 8 2 .ro 1]⟩  -- CHN_HAZE_CFG
  ]

/-- PTB block, R144. -/
def rowsPtb : List RegDef :=
  [ ⟨0x10000, 1, 0x4, 1, 0x4, [fd 0 32 .ro 0]⟩  -- PTB_TIME_LO
  , ⟨0x10004, 1, 0x4, 1, 0x4, [fd 0 32 .ro 0]⟩  -- PTB_TIME_HI
  , ⟨0x10010, 1, 0x4, 1, 0x4, [fd 0 8 .ro 0, fd 8 8 .ro 0, fd 16 1 .w1c 0, fd 31 1 .wo 0]⟩  -- PTB_STPH_STAT
  , ⟨0x10014, 1, 0x4, 1, 0x4, [fd 0 16 .rc 0, fd 16 1 .rc 0]⟩  -- PTB_STPH_DISC
  , ⟨0x10100, 4, 0x40, 1, 0x4, [fl 0 3 .rw 0 [(0, 5)], fd 3 1 .rw 0, fd 4 2 .rw 1, fd 6 4 .rw 4, fl 10 4 .rw 4 [(1, 15)], fd 14 2 .rw 2, fd 16 2 .rw 1, fd 18 1 .rw 0]⟩  -- PTB_TRKk_CFG
  , ⟨0x10104, 4, 0x40, 1, 0x4, [fl 0 24 .rw 4096 [(4, 16777215)]]⟩  -- PTB_TRKk_SCALE
  , ⟨0x10108, 4, 0x40, 1, 0x4, [fd 0 32 .rw 0]⟩  -- PTB_TRKk_OFS
  , ⟨0x1010C, 4, 0x40, 1, 0x4, [fd 0 16 .rw 16, fd 16 16 .rw 512]⟩  -- PTB_TRKk_LIM
  , ⟨0x10110, 4, 0x40, 1, 0x4, [fd 0 20 .rw 20000]⟩  -- PTB_TRKk_HOLD
  , ⟨0x10114, 4, 0x40, 1, 0x4, [fd 0 16 .rw 12]⟩  -- PTB_TRKk_LEAD
  , ⟨0x10118, 4, 0x40, 1, 0x4, [fd 0 3 .ro 0, fd 3 1 .ro 0, fd 4 1 .w1c 0, fd 5 1 .w1c 0, fd 6 1 .w1c 0, fd 7 1 .w1c 0, fd 8 1 .w1c 0, fd 9 1 .w1c 0]⟩  -- PTB_TRKk_STAT
  , ⟨0x1011C, 4, 0x40, 1, 0x4, [fd 4 6 .rw 0]⟩  -- PTB_TRKk_IEN
  , ⟨0x10120, 4, 0x40, 1, 0x4, [fd 0 32 .ro 0]⟩  -- PTB_TRKk_ANGLE
  , ⟨0x10124, 4, 0x40, 1, 0x4, [fd 0 32 .ro 0]⟩  -- PTB_TRKk_TURN
  , ⟨0x10128, 4, 0x40, 1, 0x4, [fd 0 32 .ro 0]⟩  -- PTB_TRKk_SPEED
  , ⟨0x1012C, 4, 0x40, 1, 0x4, [fd 0 32 .ro 0]⟩  -- PTB_TRKk_ERR
  , ⟨0x10130, 4, 0x40, 1, 0x4, [fd 0 32 .wo 0]⟩  -- PTB_TRKk_SWANG
  , ⟨0x10134, 4, 0x40, 1, 0x4, [fd 0 32 .wo 0]⟩  -- PTB_TRKk_SWTURN
  , ⟨0x10138, 4, 0x40, 1, 0x4, [fd 0 32 .wo 0]⟩  -- PTB_TRKk_SWSPD
  , ⟨0x1013C, 4, 0x40, 1, 0x4, [fd 0 1 .wo 0, fd 1 1 .wo 0]⟩  -- PTB_TRKk_SWCMD
  , ⟨0x11000, 64, 0x20, 1, 0x4, [fd 0 1 .rw 0, fd 1 2 .rw 0, fd 3 1 .rw 0, fl 4 2 .rw 0 [(0, 2)], fd 6 1 .rw 0, fd 7 1 .rw 0, fd 8 1 .rw 0]⟩  -- PTB_ALARMn_CTL
  , ⟨0x11004, 64, 0x20, 1, 0x4, [fd 0 1 .rw 0, fd 1 1 .rw 0, fd 2 1 .rw 0, fd 3 1 .rw 0, fd 4 1 .rw 0, fd 5 6 .rw 0, fl 11 2 .rw 0 [(0, 2)], fd 13 1 .rw 0, fd 14 4 .rw 0, fd 18 1 .rw 0]⟩  -- PTB_ALARMn_ACT
  , ⟨0x11008, 64, 0x20, 1, 0x4, [fd 0 32 .rw 0]⟩  -- PTB_ALARMn_ANGLE
  , ⟨0x1100C, 64, 0x20, 1, 0x4, [fd 0 32 .rw 0]⟩  -- PTB_ALARMn_TURN
  , ⟨0x11010, 64, 0x20, 1, 0x4, [fd 0 32 .rw 0]⟩  -- PTB_ALARMn_DL_LO
  , ⟨0x11014, 64, 0x20, 1, 0x4, [fd 0 32 .rw 0]⟩  -- PTB_ALARMn_DL_HI
  , ⟨0x11018, 64, 0x20, 1, 0x4, [fd 0 1 .w1c 0, fd 1 1 .w1c 0, fd 2 1 .w1c 0, fd 3 1 .w1c 0, fd 4 1 .w1c 0, fd 5 2 .ro 0, fd 16 16 .ro 0]⟩  -- PTB_ALARMn_STAT
  , ⟨0x12000, 8, 0x8, 1, 0x4, [fd 0 32 .w1c 0]⟩  -- PTB_WRELw_LO
  , ⟨0x12004, 8, 0x8, 1, 0x4, [fd 0 32 .w1c 0]⟩  -- PTB_WRELw_HI
  ]

/-- TMR block, R159. -/
def rowsTmr : List RegDef :=
  [ ⟨0x20000, 1, 0x4, 16, 0x100, [fd 0 1 .rw 0, fd 1 1 .rw 0, fd 2 1 .rw 0, fd 16 16 .rw 0]⟩  -- TMRn_CTL
  , ⟨0x20004, 1, 0x4, 16, 0x100, [fd 0 32 .rw 4294967295]⟩  -- TMRn_PER
  , ⟨0x20008, 1, 0x4, 16, 0x100, [fd 0 32 .rw 0]⟩  -- TMRn_CNT
  , ⟨0x2000C, 1, 0x4, 16, 0x100, [fd 0 31 .ro 0, fd 31 1 .ro 0]⟩  -- TMRn_POS
  , ⟨0x20010, 1, 0x4, 16, 0x100, [fd 0 32 .rw 0]⟩  -- TMRn_CMPA
  , ⟨0x20014, 1, 0x4, 16, 0x100, [fd 0 32 .rw 0]⟩  -- TMRn_CMPB
  , ⟨0x20018, 1, 0x4, 16, 0x100, [fl 0 2 .rw 0 [(0, 2)], fd 2 2 .rw 1, fl 4 2 .rw 0 [(0, 2)], fd 6 2 .rw 1, fd 8 12 .rw 0]⟩  -- TMRn_OCFG
  , ⟨0x2001C, 1, 0x4, 16, 0x100, [fd 0 1 .w1c 0, fd 1 1 .w1c 0, fd 2 1 .w1c 0, fd 3 1 .w1c 0, fd 4 1 .ro 0, fd 8 4 .ro 0, fd 12 4 .w1c 0, fd 16 1 .w1c 0]⟩  -- TMRn_STAT
  , ⟨0x20020, 1, 0x4, 16, 0x100, [fd 0 4 .rw 0, fd 8 9 .rw 0]⟩  -- TMRn_IEN
  , ⟨0x20024, 1, 0x4, 16, 0x100, [fd 0 2 .rw 0, fd 8 2 .rw 0, fd 16 2 .rw 0, fd 24 2 .rw 0, fd 2 2 .rw 1, fd 10 2 .rw 1, fd 18 2 .rw 1, fd 26 2 .rw 1, fd 4 1 .rw 0, fd 12 1 .rw 0, fd 20 1 .rw 0, fd 28 1 .rw 0]⟩  -- TMRn_CAPCFG
  , ⟨0x20028, 1, 0x4, 16, 0x100, [fd 0 4 .ro 0]⟩  -- TMRn_CAPSTAT
  , ⟨0x20030, 4, 0x4, 16, 0x100, [fd 0 32 .ro 0]⟩  -- TMRn_CAPm
  , ⟨0x21000, 1, 0x4, 1, 0x4, [fd 0 16 .wo 0, fd 16 16 .wo 0]⟩  -- TMR_SYNC
  ]

/-- PIO block, R166. -/
def rowsPio : List RegDef :=
  [ ⟨0x30000, 64, 0x4, 1, 0x4, [fl 0 4 .rw 0 [(0, 7)], fd 4 6 .rw 0, fd 10 1 .rw 0, fl 11 2 .rw 0 [(0, 2)], fd 13 1 .rw 0, fd 14 2 .rw 0]⟩  -- PIO_PINp_CFG
  , ⟨0x30100, 2, 0x4, 1, 0x4, [fd 0 32 .rw 0]⟩  -- PIO_OUT
  , ⟨0x30108, 2, 0x4, 1, 0x4, [fd 0 32 .wo 0]⟩  -- PIO_SET
  , ⟨0x30110, 2, 0x4, 1, 0x4, [fd 0 32 .wo 0]⟩  -- PIO_CLR
  , ⟨0x30118, 2, 0x4, 1, 0x4, [fd 0 32 .wo 0]⟩  -- PIO_TGL
  , ⟨0x30120, 2, 0x4, 1, 0x4, [fd 0 32 .rw 0]⟩  -- PIO_OE
  , ⟨0x30128, 2, 0x4, 1, 0x4, [fd 0 32 .ro 0]⟩  -- PIO_IN
  , ⟨0x30130, 2, 0x4, 1, 0x4, [fd 0 32 .w1c 0]⟩  -- PIO_EVT
  , ⟨0x30138, 2, 0x4, 1, 0x4, [fd 0 32 .rw 0]⟩  -- PIO_IEN
  ]

/-- FLR block, R223. -/
def rowsFlr : List RegDef :=
  [ ⟨0x40000, 1, 0x4, 1, 0x4, [fd 0 1 .rw 0]⟩  -- FLR_CTL
  , ⟨0x40010, 1, 0x4, 1, 0x4, [fd 0 32 .wo 0]⟩  -- FLR_SWSET
  , ⟨0x40080, 8, 0x4, 1, 0x4, [fd 0 32 .w1c 0]⟩  -- FLR_PENDi
  , ⟨0x400A0, 8, 0x4, 1, 0x4, [fd 0 32 .w1c 0]⟩  -- FLR_ACTVi
  , ⟨0x40480, 106, 0x4, 1, 0x4, [fd 0 3 .rw 0, fd 4 8 .rw 1, fd 12 3 .ro 0, fd 15 1 .ro 0]⟩  -- FLR_CFGv
  , ⟨0x40680, 32, 0x4, 1, 0x4, [fd 0 3 .rw 0, fd 4 8 .rw 1, fd 12 3 .ro 0, fd 15 1 .ro 0]⟩  -- FLR_CFGv
  , ⟨0x41000, 8, 0x40, 1, 0x4, [fd 0 3 .ro 0, fd 3 1 .ro 0, fd 4 1 .ro 0, fd 8 8 .ro 0, fd 16 16 .ro 0]⟩  -- FLR_COREw_STAT
  , ⟨0x41004, 8, 0x40, 1, 0x4, [fd 0 16 .rc 0, fd 16 1 .rc 0]⟩  -- FLR_COREw_WOVRCNT
  , ⟨0x41008, 8, 0x40, 1, 0x4, [fd 0 32 .ro 0]⟩  -- FLR_COREw_XACT
  , ⟨0x4100C, 8, 0x40, 1, 0x4, [fd 0 8 .ro 0]⟩  -- FLR_COREw_LAST
  ]

/-- WDT block, R164. -/
def rowsWdt : List RegDef :=
  [ ⟨0x50000, 1, 0x4, 1, 0x4, [fd 0 1 .rw 0, fd 1 1 .rw 1, fl 2 2 .rw 0 [(0, 1)], fd 4 1 .rw 0]⟩  -- WDT_CTL
  , ⟨0x50004, 1, 0x4, 1, 0x4, [fl 0 32 .rw 1000000 [(1000, 4294967295)]]⟩  -- WDT_PERIOD
  , ⟨0x50008, 1, 0x4, 1, 0x4, [fd 0 32 .rw 0]⟩  -- WDT_WARN
  , ⟨0x5000C, 1, 0x4, 1, 0x4, [fd 0 32 .ro 1000000]⟩  -- WDT_COUNT
  , ⟨0x50010, 1, 0x4, 1, 0x4, [fd 0 32 .wo 0]⟩  -- WDT_SVC
  , ⟨0x50014, 1, 0x4, 1, 0x4, [fd 0 1 .w1c 0, fd 1 1 .ro 0, fd 2 1 .w1c 0, fd 8 1 .ro 0]⟩  -- WDT_STAT
  ]

/-- MCX block, R308. -/
def rowsMcx : List RegDef :=
  [ ⟨0x60000, 1, 0x4, 1, 0x4, [fd 0 2 .ro 0, fd 2 1 .ro 0, fd 3 2 .ro 0]⟩  -- MCX_LINK
  , ⟨0x60004, 1, 0x4, 1, 0x4, [fd 0 15 .ro 0]⟩  -- MCX_SIZE
  , ⟨0x60008, 1, 0x4, 1, 0x4, [fd 0 12 .ro 0, fd 16 12 .ro 400]⟩  -- MCX_LAT
  , ⟨0x6000C, 1, 0x4, 1, 0x4, [fl 0 16 .rw 100 [(10, 50000)]]⟩  -- MCX_FARTMO
  , ⟨0x60010, 1, 0x4, 1, 0x4, [fd 0 1 .w1c 0, fd 1 1 .w1c 0, fd 2 1 .w1c 0, fd 3 1 .w1c 0, fd 4 1 .w1c 0, fd 5 1 .w1c 0, fd 6 1 .w1c 0, fd 7 1 .w1c 0, fd 8 1 .w1c 0]⟩  -- MCX_STAT
  , ⟨0x60014, 1, 0x4, 1, 0x4, [fd 0 9 .rw 0]⟩  -- MCX_IEN
  , ⟨0x60020, 1, 0x4, 1, 0x4, [fd 0 16 .rc 0, fd 16 16 .rc 0]⟩  -- MCX_ERRCNT0
  , ⟨0x60024, 1, 0x4, 1, 0x4, [fd 0 16 .rc 0, fd 16 16 .rc 0]⟩  -- MCX_ERRCNT1
  , ⟨0x60028, 1, 0x4, 1, 0x4, [fd 0 16 .rc 0, fd 16 16 .rc 0]⟩  -- MCX_ERRCNT2
  , ⟨0x6002C, 1, 0x4, 1, 0x4, [fd 0 16 .rc 0]⟩  -- MCX_ERRCNT3
  , ⟨0x60030, 1, 0x4, 1, 0x4, [fd 0 7 .rc 0]⟩  -- MCX_ERRSAT
  , ⟨0x60034, 1, 0x4, 1, 0x4, [fd 6 26 .ro 0]⟩  -- MCX_ERRADDR_LO
  , ⟨0x60038, 1, 0x4, 1, 0x4, [fd 0 16 .ro 0, fd 16 3 .ro 0]⟩  -- MCX_ERRADDR_HI
  , ⟨0x60040, 1, 0x4, 1, 0x4, [fd 0 16 .rc 0, fd 16 4 .ro 0, fd 20 2 .ro 0, fd 22 1 .rc 0]⟩  -- MCX_EVT
  , ⟨0x60044, 1, 0x4, 1, 0x4, [fd 0 32 .ro 0]⟩  -- MCX_EVTADDR_LO
  , ⟨0x60048, 1, 0x4, 1, 0x4, [fd 0 16 .ro 0]⟩  -- MCX_EVTADDR_HI
  , ⟨0x60050, 1, 0x4, 1, 0x4, [fl 0 6 .rw 32 [(1, 62)], fl 8 6 .rw 16 [(1, 62)], fl 16 6 .rw 8 [(1, 62)]]⟩  -- MCX_TOKPART
  , ⟨0x60060, 8, 0x4, 1, 0x4, [fd 0 6 .rw 0]⟩  -- MCX_TOKALLOTn
  , ⟨0x60080, 1, 0x4, 1, 0x4, [fd 0 11 .ro 0, fd 16 11 .ro 0, fd 31 1 .wo 0]⟩  -- MCX_TOKUSE
  ]

/-- L3D block, R290. -/
def rowsL3d : List RegDef :=
  [ ⟨0x70000, 1, 0x4, 1, 0x4, [fl 0 13 .rw 500 [(20, 5000)], fd 16 1 .rw 1, fl 17 3 .rw 4 [(1, 7)]]⟩  -- L3D_CTL
  , ⟨0x70004, 1, 0x4, 1, 0x4, [fd 0 1 .w1c 0, fd 1 1 .w1c 0, fd 2 1 .w1c 0, fd 3 1 .w1c 0, fd 4 1 .w1c 0, fd 6 1 .w1c 0, fd 7 1 .w1c 0, fd 16 1 .ro 0, fd 17 1 .ro 0, fd 18 1 .ro 0]⟩  -- L3D_STAT
  , ⟨0x70008, 1, 0x4, 1, 0x4, [fd 0 5 .rw 0, fd 6 2 .rw 0]⟩  -- L3D_IEN
  , ⟨0x70010, 1, 0x4, 1, 0x4, [fd 0 16 .rc 0, fd 16 16 .rc 0]⟩  -- L3D_ERRCNT0
  , ⟨0x70014, 1, 0x4, 1, 0x4, [fd 0 16 .rc 0, fd 16 16 .rc 0]⟩  -- L3D_ERRCNT1
  , ⟨0x70018, 1, 0x4, 1, 0x4, [fd 0 16 .rc 0, fd 16 16 .rc 0]⟩  -- L3D_ERRCNT2
  , ⟨0x7001C, 1, 0x4, 1, 0x4, [fd 0 6 .rc 0]⟩  -- L3D_ERRSAT
  , ⟨0x70020, 1, 0x4, 1, 0x4, [fd 6 26 .ro 0]⟩  -- L3D_ERRADDR_LO
  , ⟨0x70024, 1, 0x4, 1, 0x4, [fd 0 16 .ro 0, fd 16 4 .ro 0, fd 20 3 .ro 0, fd 24 3 .ro 0]⟩  -- L3D_ERRADDR_HI
  , ⟨0x70030, 1, 0x4, 1, 0x4, [fd 0 4 .rw 8, fd 4 4 .rw 12]⟩  -- L3D_PART
  , ⟨0x70034, 1, 0x4, 1, 0x4, [fn4 0 32 .rw 0x20102010 [(0, 2), (8, 15)]]⟩  -- L3D_SLOTMAP_LO
  , ⟨0x70038, 1, 0x4, 1, 0x4, [fn4 0 32 .rw 0x20102010 [(0, 2), (8, 15)]]⟩  -- L3D_SLOTMAP_HI
  , ⟨0x7003C, 1, 0x4, 1, 0x4, [fd 0 8 .ro 0]⟩  -- L3D_PLANSTAT
  , ⟨0x70040, 8, 0x4, 1, 0x4, [fd 0 1 .rw 0, fl 1 2 .rw 0 [(0, 2)], fd 4 12 .rw 0, fd 16 4 .rw 0, fl 20 4 .rw 0 [(1, 15)]]⟩  -- L3D_ALLOTn
  , ⟨0x70060, 3, 0x8, 1, 0x4, [fd 0 32 .ro 0]⟩  -- L3D_SALTb_LO
  , ⟨0x70064, 3, 0x8, 1, 0x4, [fd 0 32 .ro 0]⟩  -- L3D_SALTb_HI
  , ⟨0x70080, 1, 0x4, 1, 0x4, [fd 0 16 .rw 0, fl 16 12 .rw 512 [(256, 2048)]]⟩  -- L3D_IMBCFG
  , ⟨0x70084, 1, 0x4, 1, 0x4, [fd 0 12 .ro 0, fd 12 3 .ro 0]⟩  -- L3D_IMB
  , ⟨0x700C0, 8, 0x4, 1, 0x4, [fd 0 32 .ro 0]⟩  -- L3D_SLICEs_WCNT
  ]

/-- Per-core registers, R117. -/
def rowsPcr : List RegDef :=
  [ ⟨0x100000, 1, 0x4, 8, 0x10000, [fd 0 6 .ro 0, fd 8 1 .ro 0, fd 16 5 .ro 0]⟩  -- PCR_LOQ_STAT
  , ⟨0x100004, 1, 0x4, 8, 0x10000, [fd 0 32 .w1c 0]⟩  -- PCR_LOQ_FAULT
  , ⟨0x100008, 1, 0x4, 8, 0x10000, [fd 0 32 .ro 0]⟩  -- PCR_LOQ_FPC_LO
  , ⟨0x10000C, 1, 0x4, 8, 0x10000, [fd 0 32 .ro 0]⟩  -- PCR_LOQ_FPC_HI
  , ⟨0x100010, 1, 0x4, 8, 0x10000, [fd 0 1 .rw 0]⟩  -- PCR_ISSUE_CTL
  , ⟨0x100014, 1, 0x4, 8, 0x10000, [fd 0 1 .wo 0, fd 1 1 .rw 0]⟩  -- PCR_PRED_CTL
  , ⟨0x100018, 1, 0x4, 8, 0x10000, [fd 0 1 .ro 0, fd 1 1 .ro 0]⟩  -- PCR_PRED_STAT
  , ⟨0x100080, 32, 0x4, 8, 0x10000, [fd 0 2 .ro 0, fd 2 2 .ro 0, fd 4 5 .ro 0, fd 12 4 .ro 0, fd 16 4 .ro 0]⟩  -- PCR_LOQ_ENTn
  ]

/-- Per-core counters and trace source, R440. -/
def rowsPmu : List RegDef :=
  [ ⟨0x101000, 1, 0x4, 8, 0x10000, [fd 0 1 .rw 0, fd 1 1 .rw 0]⟩  -- PMU_CTL
  , ⟨0x101004, 1, 0x4, 8, 0x10000, [fd 0 14 .w1c 0]⟩  -- PMU_STAT
  , ⟨0x101008, 1, 0x4, 8, 0x10000, [fd 0 14 .rw 0]⟩  -- PMU_IEN
  , ⟨0x10100C, 1, 0x4, 8, 0x10000, [fd 0 1 .rw 0, fd 1 1 .rw 0, fd 2 1 .rw 0, fd 4 12 .rw 0, fl 16 2 .rw 0 [(0, 2)]]⟩  -- PMU_FIXCFG
  , ⟨0x101040, 8, 0x4, 8, 0x10000, [fl 0 8 .rw 0 [(0, 25), (32, 35)], fd 8 6 .rw 0, fd 14 1 .rw 0, fd 15 1 .rw 0, fd 16 12 .rw 0, fl 28 2 .rw 0 [(0, 2)]]⟩  -- PMCi_CFG
  , ⟨0x101100, 14, 0x8, 8, 0x10000, [fd 0 32 .rw 0]⟩  -- PMU_CNTb_LO
  , ⟨0x101104, 14, 0x8, 8, 0x10000, [fd 0 16 .rw 0]⟩  -- PMU_CNTb_HI
  , ⟨0x102000, 1, 0x4, 8, 0x10000, [fd 0 1 .rw 0, fd 4 12 .rw 0, fl 16 2 .rw 0 [(0, 2)]]⟩  -- TRS_CTL
  , ⟨0x102004, 1, 0x4, 8, 0x10000, [fd 0 1 .ro 0, fd 1 1 .w1c 0]⟩  -- TRS_STAT
  ]

/-- TRC block, R454. -/
def rowsTrc : List RegDef :=
  [ ⟨0x200000, 1, 0x4, 1, 0x4, [fd 0 1 .rw 0, fl 1 2 .rw 0 [(0, 2)], fd 3 1 .rw 0, fl 4 4 .rw 4 [(0, 10)]]⟩  -- TRC_CTL
  , ⟨0x200004, 1, 0x4, 1, 0x4, [fd 0 2 .ro 0, fd 2 1 .w1c 0, fd 3 1 .w1c 0, fd 4 1 .w1c 0, fd 5 1 .w1c 0, fd 6 1 .ro 0, fd 16 13 .ro 0]⟩  -- TRC_STAT
  , ⟨0x200008, 1, 0x4, 1, 0x4, [fd 2 4 .rw 0]⟩  -- TRC_IEN
  , ⟨0x20000C, 1, 0x4, 1, 0x4, [fl 0 3 .rw 0 [(0, 4)], fd 4 6 .rw 0]⟩  -- TRC_TRIG
  , ⟨0x200010, 1, 0x4, 1, 0x4, [fd 0 32 .rw 0]⟩  -- TRC_POST
  , ⟨0x200014, 1, 0x4, 1, 0x4, [fd 0 1 .wo 0]⟩  -- TRC_SWTRIG
  , ⟨0x200018, 1, 0x4, 1, 0x4, [fd 0 32 .ro 0]⟩  -- TRC_LOST
  , ⟨0x20001C, 1, 0x4, 1, 0x4, [fd 0 1 .rw 0]⟩  -- TRC_BANK
  , ⟨0x200020, 1, 0x4, 1, 0x4, [fd 0 16 .ro 0, fd 16 1 .ro 0]⟩  -- TRC_WRPTR
  , ⟨0x200024, 1, 0x4, 1, 0x4, [fd 0 16 .ro 0]⟩  -- TRC_OLDPTR
  , ⟨0x208000, 8192, 0x4, 1, 0x4, [fd 0 32 .ro 0]⟩  -- TRC_BUF
  ]

/-- DBG block, R431. -/
def rowsDbg : List RegDef :=
  [ ⟨0x300000, 1, 0x4, 1, 0x4, [fd 0 2 .ro 0, fd 2 3 .ro 0, fd 8 3 .ro 0]⟩  -- DBG_AUTH
  , ⟨0x300004, 1, 0x4, 1, 0x4, [fd 0 1 .w1c 0, fd 1 1 .w1c 0, fd 2 1 .w1c 0, fd 3 1 .w1c 0, fd 8 1 .ro 0]⟩  -- DBG_STAT
  , ⟨0x300008, 1, 0x4, 1, 0x4, [fd 0 4 .rw 0]⟩  -- DBG_IEN
  , ⟨0x30000C, 1, 0x4, 1, 0x4, [fd 0 1 .rw 0, fd 1 1 .rw 1, fd 8 8 .rw 0]⟩  -- DBG_CTL
  , ⟨0x300010, 1, 0x4, 1, 0x4, [fd 0 8 .wo 0]⟩  -- DBG_HALTREQ
  , ⟨0x300014, 1, 0x4, 1, 0x4, [fd 0 8 .wo 0]⟩  -- DBG_RESUME
  , ⟨0x300018, 1, 0x4, 1, 0x4, [fd 0 3 .wo 0]⟩  -- DBG_STEP
  , ⟨0x300020, 8, 0x4, 1, 0x4, [fd 0 2 .ro 0, fd 4 3 .ro 0, fd 8 5 .ro 0]⟩  -- DBG_COREw_STAT
  , ⟨0x300100, 32, 0x10, 1, 0x4, [fd 2 30 .rw 0]⟩  -- DBG_PATCHu_ADDR_LO
  , ⟨0x300104, 32, 0x10, 1, 0x4, [fd 0 16 .rw 0]⟩  -- DBG_PATCHu_ADDR_HI
  , ⟨0x300108, 32, 0x10, 1, 0x4, [fd 0 2 .rw 0, fd 2 1 .rw 0, fd 3 1 .rw 0, fd 4 1 .rw 0, fl 8 4 .rw 0 [(0, 10)], fd 16 8 .rw 0]⟩  -- DBG_PATCHu_CTL
  , ⟨0x30010C, 32, 0x10, 1, 0x4, [fd 0 32 .rw 0]⟩  -- DBG_PATCHu_SUBST
  ]

/-- MBX block, R28. -/
def rowsMbx : List RegDef :=
  [ ⟨0x400000, 1, 0x4, 1, 0x4, [fd 0 1 .rw 0, fd 1 1 .rw 0, fd 2 1 .rw 0]⟩  -- MBX_CTL
  , ⟨0x400004, 1, 0x4, 1, 0x4, [fd 0 5 .ro 16, fd 8 5 .ro 0, fd 16 1 .ro 1, fd 26 1 .w1c 0]⟩  -- MBX_STAT
  , ⟨0x400008, 1, 0x4, 1, 0x4, [fd 0 8 .ro 0, fd 8 2 .ro 0, fd 16 8 .ro 0, fd 24 1 .w1c 0]⟩  -- MBX_TXSTAT
  , ⟨0x400040, 1, 0x4, 1, 0x4, [fd 0 4 .rw 0, fd 8 8 .rw 0]⟩  -- MBX_TXBUF0
  , ⟨0x400044, 15, 0x4, 1, 0x4, [fd 0 32 .rw 0]⟩  -- MBX_TXBUFn
  , ⟨0x400080, 1, 0x4, 1, 0x4, [fd 0 32 .wo 0]⟩  -- MBX_TXGO
  , ⟨0x4000C0, 16, 0x4, 1, 0x4, [fd 0 32 .ro 0]⟩  -- MBX_RXBUFn
  , ⟨0x400100, 1, 0x4, 1, 0x4, [fd 0 32 .wo 0]⟩  -- MBX_RXPOP
  ]

/-- Local peripherals, R169 to R172. -/
def rowsPer : List RegDef :=
  [ ⟨0x500000, 2, 0x1000, 1, 0x4, [fd 0 1 .rw 0, fd 1 1 .rw 0, fd 2 1 .rw 0, fl 3 2 .rw 0 [(0, 2)], fd 5 1 .rw 0, fd 6 1 .rw 0, fd 8 8 .rw 1]⟩  -- UARTu_CTL
  , ⟨0x500004, 2, 0x1000, 1, 0x4, [fl 0 20 .rw 1301 [(11, 1048575)]]⟩  -- UARTu_BAUD
  , ⟨0x500008, 2, 0x1000, 1, 0x4, [fd 0 32 .rw 0]⟩  -- UARTu_DATA
  , ⟨0x50000C, 2, 0x1000, 1, 0x4, [fd 0 7 .ro 0, fd 8 7 .ro 0, fd 16 1 .ro 1, fd 17 1 .w1c 0, fd 18 1 .w1c 0, fd 19 1 .w1c 0]⟩  -- UARTu_STAT
  , ⟨0x500010, 2, 0x1000, 1, 0x4, [fd 0 1 .rw 0, fd 1 1 .rw 0, fd 2 1 .rw 0, fd 3 1 .rw 0, fl 8 7 .rw 1 [(1, 64)], fl 16 7 .rw 0 [(0, 63)]]⟩  -- UARTu_IEN
  , ⟨0x510000, 1, 0x4, 1, 0x4, [fd 0 1 .rw 0, fd 1 2 .rw 0, fd 3 1 .rw 0, fl 4 5 .rw 7 [(3, 31)], fd 9 2 .rw 0, fd 11 1 .rw 0, fl 16 16 .rw 74 [(1, 65535)]]⟩  -- SPI_CTL
  , ⟨0x510004, 1, 0x4, 1, 0x4, [fd 0 32 .rw 0]⟩  -- SPI_DATA
  , ⟨0x510008, 1, 0x4, 1, 0x4, [fd 0 5 .ro 0, fd 8 5 .ro 0, fd 16 1 .ro 0, fd 17 1 .w1c 0, fd 18 1 .w1c 0]⟩  -- SPI_STAT
  , ⟨0x51000C, 1, 0x4, 1, 0x4, [fd 0 1 .rw 0, fd 1 1 .rw 0, fd 2 1 .rw 0]⟩  -- SPI_IEN
  , ⟨0x520000, 1, 0x4, 1, 0x4, [fd 0 1 .rw 0, fl 1 2 .rw 1 [(0, 2)], fd 16 16 .rw 25000]⟩  -- I2C_CTL
  , ⟨0x520004, 1, 0x4, 1, 0x4, [fd 0 8 .wo 0, fd 8 1 .wo 0, fd 9 1 .wo 0, fd 10 1 .wo 0, fd 11 1 .wo 0]⟩  -- I2C_CMD
  , ⟨0x520008, 1, 0x4, 1, 0x4, [fd 0 32 .ro 0]⟩  -- I2C_RXDATA
  , ⟨0x52000C, 1, 0x4, 1, 0x4, [fd 0 5 .ro 0, fd 8 5 .ro 0, fd 16 1 .ro 0, fd 17 1 .w1c 0, fd 18 1 .w1c 0, fd 19 1 .w1c 0]⟩  -- I2C_STAT
  , ⟨0x520010, 1, 0x4, 1, 0x4, [fd 0 1 .rw 0, fd 1 1 .rw 0, fd 2 1 .rw 0]⟩  -- I2C_IEN
  , ⟨0x530000, 1, 0x4, 1, 0x4, [fd 0 1 .rw 0, fd 1 1 .rw 0, fd 2 1 .rw 0, fd 3 1 .rw 0, fd 4 1 .rw 1, fd 5 1 .rw 0, fd 6 1 .rw 1, fl 7 2 .rw 2 [(0, 2)]]⟩  -- ETH_CTL
  , ⟨0x530004, 1, 0x4, 1, 0x4, [fd 0 32 .rw 0]⟩  -- ETH_ADDR_LO
  , ⟨0x530008, 1, 0x4, 1, 0x4, [fd 0 16 .rw 0]⟩  -- ETH_ADDR_HI
  , ⟨0x53000C, 1, 0x4, 1, 0x4, [fd 0 1 .ro 0, fd 1 2 .ro 2, fd 3 1 .ro 0, fd 4 4 .ro 0, fd 8 1 .ro 0, fd 9 1 .w1c 0, fd 10 1 .w1c 0, fd 11 1 .w1c 0, fd 12 1 .w1c 0, fd 13 1 .w1c 0]⟩  -- ETH_STAT
  , ⟨0x530010, 1, 0x4, 1, 0x4, [fd 0 3 .rw 0]⟩  -- ETH_IEN
  , ⟨0x530014, 1, 0x4, 1, 0x4, [fd 0 12 .wo 0, fd 12 11 .wo 0]⟩  -- ETH_TXCMD
  , ⟨0x530018, 1, 0x4, 1, 0x4, [fd 0 14 .ro 0]⟩  -- ETH_RXHEAD
  , ⟨0x53001C, 1, 0x4, 1, 0x4, [fd 0 14 .rw 0]⟩  -- ETH_RXTAIL
  , ⟨0x530020, 1, 0x4, 1, 0x4, [fd 0 16 .rc 0, fd 16 16 .rc 0]⟩  -- ETH_ERRCNT
  , ⟨0x530024, 1, 0x4, 1, 0x4, [fd 0 5 .rw 0, fd 5 5 .rw 0, fd 10 1 .rw 0, fd 11 1 .rw 0, fd 16 16 .rw 0]⟩  -- ETH_MDIO
  ]

/-- The rows of the block an offset lies in (R31). -/
def rowsAt (off : Nat) : List RegDef :=
  match off / 0x10000 with
  | 0 => rowsChn | 1 => rowsPtb | 2 => rowsTmr | 3 => rowsPio | 4 => rowsFlr | 5 => rowsWdt | 6 => rowsMcx | 7 => rowsL3d
  | 0x20 => rowsTrc | 0x30 => rowsDbg | 0x40 => rowsMbx | 0x50 => rowsPer | 0x51 => rowsPer | 0x52 => rowsPer | 0x53 => rowsPer
  | n => if 0x10 ≤ n ∧ n < 0x18 then (if off % 0x10000 < 0x1000 then rowsPcr else rowsPmu) else []

/-- Whether a row holds an offset. -/
def RegDef.holds (r : RegDef) (off : Nat) : Bool :=
  r.base ≤ off && (let d := off - r.base
    (d / r.s2 < r.n2 && (d % r.s2) % r.s1 == 0 && (d % r.s2) / r.s1 < r.n1) ||
    (r.n2 == 1 && d % r.s1 == 0 && d / r.s1 < r.n1))

/-- The register an offset names, if a map assigns it (R9). -/
def regDef (off : Nat) : Option RegDef := (rowsAt off).find? fun r => r.holds off

/-- The reset image of a register (R11); an unassigned offset reads zero (R9). -/
def regReset (off : Nat) : W32 :=
  match regDef off with
  | none => 0#32
  | some r => r.fields.foldl (fun x f => setF x f.lo f.w f.rst) 0#32

/-- Whether a field's Meaning lists a value (R8). -/
def FieldDef.lists (f : FieldDef) (v : Nat) : Bool :=
  let among := fun (x : Nat) => f.legal.any fun r => r.1 ≤ x && x ≤ r.2
  f.legal.isEmpty || (if f.nib then (List.range (f.w / 4)).all fun i => among (v / 16 ^ i % 16) else among v)

/-- One field of a write (R6, R8). A WO field holds what was written; no read shows it. -/
def FieldDef.write (f : FieldDef) (img val : W32) : W32 :=
  let v := getF val f.lo f.w
  match f.acc with
  | .rw => if f.lists v then setF img f.lo f.w v else img
  | .wo => setF img f.lo f.w v
  | .w1c => setF img f.lo f.w (getF (img &&& ~~~val) f.lo f.w)
  | .ro | .rc => img

/-- The image after a write of `val` (R6 to R8). -/
def regWritten (off : Nat) (img val : W32) : W32 :=
  match regDef off with
  | none => img
  | some r => r.fields.foldl (fun x f => f.write x val) img

/-- An image with only the bits of the register's fields: what the Lamplighter loads into a register (R7). -/
def regLoaded (off : Nat) (v : W32) : W32 :=
  match regDef off with
  | none => 0#32
  | some r => r.fields.foldl (fun x f => setF x f.lo f.w (getF v f.lo f.w)) 0#32

/-- What a read of an image shows: WO fields read zero (R6). -/
def regShown (off : Nat) (img : W32) : W32 :=
  match regDef off with
  | none => 0#32
  | some r => r.fields.foldl (fun x f => if f.acc = .wo then setF x f.lo f.w 0 else x) img

/-- The image after an ordinary read: RC fields are cleared (R6). -/
def regCleared (off : Nat) (img : W32) : W32 :=
  match regDef off with
  | none => img
  | some r => r.fields.foldl (fun x f => if f.acc = .rc then setF x f.lo f.w 0 else x) img

end Sys2Proof.Machine
end

