-- ==== Sys2Proof/Machine/Sparse.lean ====
section
/-! DEFINITION. Sparse tables: lists of (key, value) pairs in one canonical form, keys strictly rising and no entry equal to
what an unlisted key reads as. Memory is such a table of bytes (Host.Cell), and so is every sparse array of the block. -/

namespace Sys2Proof.Machine

/-- What key `a` reads as: its listed value, or the default. -/
def spGet {α : Type} (d : α) : List (Nat × α) → Nat → α
  | [], _ => d
  | (k, v) :: t, a => if a = k then v else spGet d t a

/-- The table without key `a`. -/
def spDel {α : Type} : List (Nat × α) → Nat → List (Nat × α)
  | [], _ => []
  | (k, v) :: t, a => if a = k then spDel t a else (k, v) :: spDel t a

/-- The table with key `a` listed as `v`. -/
def spPut {α : Type} : List (Nat × α) → Nat → α → List (Nat × α)
  | [], a, v => [(a, v)]
  | (k, w) :: t, a, v => if a = k then (a, v) :: t else if a < k then (a, v) :: (k, w) :: t else (k, w) :: spPut t a v

/-- A write: listing the default removes the entry, so that equal tables are equal data. -/
def spSet {α : Type} [DecidableEq α] (d : α) (m : List (Nat × α)) (a : Nat) (v : α) : List (Nat × α) :=
  if v = d then spDel m a else spPut m a v

/-- The canonical form: keys strictly rising, all above `lo`, and no entry equal to the default. -/
def spWfFrom {α : Type} [DecidableEq α] (d : α) : Option Nat → List (Nat × α) → Bool
  | _, [] => true
  | lo, (k, v) :: t => (match lo with | none => true | some l => decide (l < k)) && decide (v ≠ d) && spWfFrom d (some k) t

/-- The canonical form of a whole table. -/
def spWf {α : Type} [DecidableEq α] (d : α) (m : List (Nat × α)) : Bool := spWfFrom d none m

/-- Membership in a sorted list of numbers. -/
def setHas (m : List Nat) (a : Nat) : Bool := m.contains a

/-- Insertion into a strictly rising list of numbers. -/
def setAdd : List Nat → Nat → List Nat
  | [], a => [a]
  | k :: t, a => if a = k then k :: t else if a < k then a :: k :: t else k :: setAdd t a

/-- Removal from a strictly rising list of numbers. -/
def setDel : List Nat → Nat → List Nat
  | [], _ => []
  | k :: t, a => if a = k then setDel t a else k :: setDel t a

/-- Insertion or removal. -/
def setPut (m : List Nat) (a : Nat) (b : Bool) : List Nat := if b then setAdd m a else setDel m a

/-- `n` bytes from address `a` upward (R4). -/
def readBytes (m : List (Nat × Byte)) (a : Nat) : Nat → List Byte
  | 0 => []
  | n + 1 => spGet 0#8 m a :: readBytes m (a + 1) n

/-- Bytes written from address `a` upward (R4). -/
def writeBytes (m : List (Nat × Byte)) (a : Nat) : List Byte → List (Nat × Byte)
  | [] => m
  | b :: bs => writeBytes (spSet 0#8 m a b) (a + 1) bs

end Sys2Proof.Machine
end

