-- ==== Sys2Proof/Machine/State.lean ====
section
/-! DEFINITION. The state of the THM-4032: four channels, their Mantle tables, the Lamplighter with the object dictionary, the
ring node and the device pins, and the queue of waiting commands. Plain data throughout. A register whose map gives it an
address lives in `Chan.regs`, keyed by its offset in the control-register region (R31); what the manual gives the machine
without an address has a field of its own. -/

namespace Sys2Proof.Machine

/-- A Taper: 128 bits and a hidden tag (R195). -/
structure Taper where
  bits : W128
  tag  : Bool
  deriving DecidableEq, Repr

/-- The untagged Taper of zero bits (R54). -/
def Taper.null : Taper := { bits := 0#128, tag := false }

/-- A register a result can be pending for (R92). -/
inductive RegRef
  | g (r : Fin 32)
  | v (r : Fin 32)
  | c (r : Fin 16)
  | sr (n : Fin 32)
  deriving DecidableEq, Repr

/-- A write whose published distance has not passed (R91, R92): the value before it, its result, and the issue cycle from
which every reader obtains the result. Bit 128 is a Taper's tag. -/
structure Pend where
  reg : RegRef
  old : BitVec 129
  new : BitVec 129
  due : Nat
  deriving DecidableEq, Repr

/-- What the first instruction of a possible pair leaves for the second (R59, R60). -/
structure SlotA where
  pc   : W64
  word : W32
  deriving DecidableEq, Repr

/-- An instruction that has issued and not committed, in one of the stages IS to W (R89): its PC, its word, its issue cycle, and whether it
stands in slot B of its stage. -/
structure Flight where
  pc    : W64
  word  : W32
  at'   : Nat
  slotB : Bool
  deriving DecidableEq, Repr

/-- PCR_LOQ_ENT STATE (R117). -/
inductive LoqState | free | pending | faulted
  deriving DecidableEq, Repr

/-- PCR_LOQ_ENT OP (R117). -/
inductive LoqOp | none | idiv | fdiv | fsqrt | ldf | stf | crcb
  deriving DecidableEq, Repr

/-- How an access reaches its target: the effective attribute of R232, the far lane of R298, or for a far access to a page that is memory its home
(R241, R298). -/
inductive Attr | calm | device | cacheable | unc01 | unc10 | unc11 | farLane | farHome
  deriving DecidableEq, Repr

/-- One part of an access: physical address, bytes, attribute (R243). -/
structure Part where
  pa   : Nat
  n    : Nat
  attr : Attr
  deriving DecidableEq, Repr

/-- The far access of a queue entry (R255): its parts, lower first, how many of them have been performed, and whether a read has met
poison. -/
structure FarAcc where
  write  : Bool
  parts  : List Part
  done   : Nat
  poison : Bool
  deriving DecidableEq, Repr

/-- An entry of the long-operation queue (R96 to R100). `seq` is its place in issue order; `dead`, of the first later writer of the register, the
cycle of its commit and the one from which every reader obtains its result (R98); `start` is the cycle of the entry's commit at W, `lo` and
`hi` the least and the most cycles it takes once its unit has it (R97), none where no figure is stated; `value` is the result or the data of
an STF; `held` is the vector whose RETX a faulted entry waits for (R103), 0 none. -/
structure LoqEnt where
  st    : LoqState
  op    : LoqOp
  file  : Option Bool
  dest  : Fin 32
  cause : Nat
  pc    : W64
  seq   : Nat
  value : W128
  dead  : Option (Nat × Nat)
  far   : Option FarAcc
  held  : Nat
  start : Nat
  lo    : Nat
  hi    : Option Nat
  deriving DecidableEq, Repr

/-- A free queue entry: PCR_LOQ_ENT reads 0 (R117). -/
def LoqEnt.empty : LoqEnt :=
  { st := .free, op := .none, file := some false, dest := 0, cause := 0, pc := 0#64, seq := 0, value := 0#128, dead := none,
    far := none, held := 0, start := 0, lo := 0, hi := none }

/-- A store-buffer entry (R245): one part of a store. `tag` is the tag a TST writes; `fwd` marks that a load was forwarded from
it (R252); `clean` marks the last piece of a MOVB or FILLB element that writes a whole line (R281); `mantle` is the identity of the
PCC that executed the store (R24); `born` is the cycle of its issue (R247), `leave` the one in which it has left the buffer where the costs
are fixed, else 0 (R115). -/
structure SbEnt where
  part   : Part
  data   : W128
  tag    : Bool
  fwd    : Bool
  clean  : Bool
  mantle : BitVec 12
  born   : Nat
  leave  : Nat
  deriving DecidableEq, Repr

/-- The hold of R258: the line, the instructions since the LL, the core clock cycles left. -/
structure Hold where
  line   : Nat
  instrs : Nat
  cycles : Nat
  deriving DecidableEq, Repr

/-- What a core waits at (R83, R99): its PC stands on the instruction. WAITPH counts its timeout in PTB cycles. -/
inductive Wait
  | none
  | lbar
  | waitl (v : Bool) (r : Fin 32)
  | waitph (slot : Fin 64) (rd : Fin 32) (left : Option Nat)
  deriving DecidableEq, Repr

/-- A TLB entry (R235): page size as its number of offset bits, virtual page number, ASID, the leaf, and for the L2 TLB its way of its
set (R236); 0 in an L1 TLB. -/
structure TlbEnt where
  size  : Nat
  vpn   : Nat
  asid  : BitVec 12
  leaf  : W64
  way   : Nat
  deriving DecidableEq, Repr

/-- An instruction word in the stages F1 to D2 (R89, R229): its address, the context its fetch was translated in (R225), and what the fetch
check found: the physical address, or the vector and the reason of the exception, which is raised only if the instruction reaches W. -/
structure Fetched where
  pc     : W64
  ctx    : W64 × W64
  pa     : Nat
  vec    : Nat
  reason : Nat
  deriving DecidableEq, Repr

/-- A freeze that is to come (R95): the issue cycle in which the instruction that causes it reaches E3, the event of its cause, its length. -/
structure Ice where
  at' : Nat
  ev  : Nat
  n   : Nat
  deriving DecidableEq, Repr

/-- A stream that the prefetcher of an L2 follows (R269): the address of the load that last trained it, and its stride. -/
structure Stream where
  last   : Nat
  stride : Int
  deriving DecidableEq, Repr

/-- An entry of the target buffer (R106, R108). -/
structure BtbEnt where
  pc     : W64
  mantle : BitVec 12
  target : W64
  deriving DecidableEq, Repr

/-- What the predictor keeps of itself for a predicted branch until the branch resolves (R107): the history, the depth of the return
stack and its top entry. -/
structure Checkpoint where
  hist : BitVec 14
  deep : Nat
  top  : Option W64
  deriving DecidableEq, Repr

/-- What a branch that has issued will write into the predictor (R106): the cycle in which it does, for a conditional branch the index and tag it
was looked up with and its direction, for a jump or a taken branch the target to note; `own`: the buffer is tagged by Mantle too. -/
structure PredUpd where
  at'  : Nat
  dir  : Option ((Nat × Nat) × Bool)
  note : Option BtbEnt
  own  : Bool
  deriving DecidableEq, Repr

/-- The branch predictor of a core (R106, R108): the direction table as (counter, tag) by index, weakly not taken when
unlisted; target buffer, newest first; history; return stack, newest first; the updates still to come, oldest first. -/
structure Pred where
  dir  : List (Nat × (Nat × Nat))
  btb  : List BtbEnt
  hist : BitVec 14
  ras  : List W64
  late : List PredUpd
  deriving DecidableEq, Repr

/-- A cleared predictor (R49, R117). -/
def Pred.clear : Pred := { dir := [], btb := [], hist := 0#14, ras := [], late := [] }

/-- The states of a line in an L2 (R273). -/
inductive L2St | s | e | m
  deriving DecidableEq, Repr

/-- A line of an L2 or of its eviction buffer: data, granule tags, poison, partition owner (R281, R283, R294). -/
structure L2Line where
  line   : Nat
  st     : L2St
  data   : BitVec 512
  tags   : BitVec 4
  poison : Bool
  owner  : Nat
  deriving DecidableEq, Repr

/-- A line of the L3 (R263, R278). -/
structure L3Line where
  line   : Nat
  data   : BitVec 512
  tags   : BitVec 4
  dirty  : Bool
  poison : Bool
  owner  : Nat
  deriving DecidableEq, Repr

/-- A directory entry (R273). -/
structure DirEnt where
  line     : Nat
  excl     : Bool
  sharers  : BitVec 8
  owner    : Nat
  pin      : Bool
  crossing : Bool
  deriving DecidableEq, Repr

/-- The requests an L2 or a core sends to a home (R274). A UCW carries the tag that a Taper store writes (R198) and the granules whose poison
it removes (R281, R302). -/
inductive ReqKind
  | rds | rdo | upg | evd | evn
  | amo (op : AmoOp) (d : Bool) (pa : Nat) (src cmp : W64)
  | ucr (pa n : Nat)
  | ucw (pa n : Nat) (data : W128) (tag : Bool) (heal : BitVec 4)
  deriving DecidableEq, Repr

/-- What parity has done to a request on its way (R282): its header lost, or a data word of it. -/
inductive Harm | none | header | data
  deriving DecidableEq, Repr

/-- A request waiting in a miss entry or a home queue (R275, R279); `pf` marks a prefetch (R269). -/
structure Req where
  kind  : ReqKind
  w     : Fin 8
  line  : Nat
  owner : Nat
  pf    : Bool
  harm  : Harm
  deriving DecidableEq, Repr

/-- An open transaction of a home (R275): the snoops sent and not answered, the EVDs awaited under R277, the data received
with its tags, dirty mark and poison mark, whether CXL data is awaited, the TMO in force when it opened, and whether another core's hold still
delays its snoops (R288); `lost`: a message of it was dropped, so that it ends by its timeout (R282). -/
structure Tx where
  req    : Req
  snoops : BitVec 8
  evds   : BitVec 8
  data   : Option (BitVec 512 × BitVec 4 × Bool × Bool)
  mem    : Bool
  tmo    : Nat
  held   : Bool
  lost   : Bool
  deriving DecidableEq, Repr

/-- A message between the L2s, the slices and the memory controller that is under way (R274). -/
inductive NetMsg
  | sns (w : Fin 8) (line : Nat)
  | sni (w : Fin 8) (line : Nat)
  | snq (w : Fin 8) (slice set : Nat)
  | rspD (w : Fin 8) (line : Nat) (data : BitVec 512) (tags : BitVec 4) (dirty poison : Bool)
  | rspN (w : Fin 8) (line : Nat)
  | rspX (w : Fin 8) (line : Nat)
  | dat (w : Fin 8) (line : Nat) (st : L2St) (data : BitVec 512) (tags : BitVec 4) (poison : Bool) (owner : Nat)
  | ack (w : Fin 8) (line : Nat) (kind : ReqKind)
  deriving DecidableEq, Repr

/-- What a request to the expander is (R296): a read of a line; a write of one, with the data written, what the line held before, its tags
and poison; a posted store of a core; a far access of a queue entry. -/
inductive CxlKind
  | read
  | write (data old : BitVec 512) (tags : BitVec 4) (poison : Bool)
  | posted (w : Fin 8)
  | far (w : Fin 8) (i : Fin 32)
  deriving DecidableEq, Repr

/-- A CXL.mem request (R296), with the pool of tokens it belongs to; `resp`, that its response has come and is held, and whether it is one of
success (R297); for a read, whether its data has met a parity error (R282). -/
structure CxlReq where
  line : Nat
  pool : Nat
  kind : CxlKind
  resp : Option Bool
  hurt : Bool
  deriving DecidableEq, Repr

/-- The outcome of an AMO or UCR made by message (R274): the value returned, and its granule's tag (R198). -/
structure HomeRes where
  w      : Fin 8
  line   : Nat
  value  : W128
  tag    : Bool
  poison : Bool
  deriving DecidableEq, Repr

/-- What a page 0x3F routine keeps between two POLLs (R177, R180): the micro address, u0–u7, CNT, Z and N. -/
structure Micro where
  at' : Nat
  u   : Vector W128 8
  cnt : BitVec 16
  z   : Bool
  n   : Bool
  deriving DecidableEq, Repr

/-- The temporaries at a routine's entry: all zero (R180). -/
def Micro.zero : Micro := { at' := 0, u := Vector.replicate 8 0#128, cnt := 0#16, z := false, n := false }

/-- A Wick core (R52) with the structures private to it (R15, R263). `flight` are the instructions in the stages IS to W, oldest first (R89);
`waitP` is the P bit of a WAITL or LBAR that holds issue; `shadow` is how many instructions may have issued on the wrong path since the last
commit (R110); `fetched` are the instructions in F1 to D2 (R89); `units`, the cycles since which the integer divider and the FP divider are free
(R97); `ices`, the freezes to come (R95); `wnew`: the first instruction of a window has not issued yet (R216); `woken`: the channel has returned
from DEW and the core has not yet executed its first instruction (R39). -/
structure Core where
  g        : Vector W64 32
  v        : Vector W128 32
  c        : Vector Taper 16
  pc       : W64
  pcc      : Taper
  mask     : BitVec 3
  xdtBase  : W64
  ttbase   : W64
  asid     : W64
  fpctl    : W64
  tptr     : W64
  cyc      : Nat
  pend     : List Pend
  slotA    : Option SlotA
  flight   : List Flight
  ices     : List Ice
  loq      : Vector LoqEnt 32
  units    : Nat × Nat
  seq      : Nat
  sb       : List SbEnt
  posted   : List SbEnt
  resv     : Option Nat
  hold     : Option Hold
  wait     : Wait
  waitP    : Bool
  elem     : Option W32
  micro    : Micro
  xact     : BitVec 32
  wact     : Bool
  wnew     : Bool
  wrem     : Nat
  wovr     : Bool
  haltReq  : BitVec 8
  haltUnit : Nat
  stepping : Bool
  skip     : Bool
  woken    : Bool
  shadow   : Nat
  pred     : Pred
  itlb     : List TlbEnt
  dtlb     : List TlbEnt
  l2tlb    : List TlbEnt
  l1i      : List Nat
  l1d      : List Nat
  l2       : List L2Line
  evb      : List L2Line
  miss     : List Req
  streams  : List Stream
  fetched  : List Fetched
  trcLast  : Option Nat
  trcBrAt  : Nat
  trcOn    : Bool
  trcBr    : List Bool
  trcSync  : Bool
  trcSince : Nat
  /-- Instructions committed since the core is offered its own counters' source (R438). -/
  skid : Nat
  trcAddr  : BitVec 48
  trcDrop  : Bool
  trcMtl   : BitVec 12
  pmuCond  : List Bool
  deriving DecidableEq, Repr

/-- The internals of a tracker that no register shows (R124 to R131): fraction of ANGLE in 2^-16 units, the interval between the last two edges
in PTB cycles, the PTB cycles since the last one, good edges in a row, PTB cycles of HOLDOVER left, correction still to be slewed in 2^-16 units,
the position of the encoder's index or of the last ring sample, the encoder count from the index, and whether the encoder has reversed in
HOLDOVER. -/
structure Trk where
  frac   : Nat
  ivl    : Nat
  since  : Nat
  good   : Nat
  left   : Nat
  slew   : Int
  pred   : BitVec 64
  count  : Int
  rev    : Bool
  deriving DecidableEq, Repr

/-- An edge that a tracker takes: an A/B change and the PTB cycles since the last one, an index, a mark of the pulse or mains source with
those since the last. -/
inductive TrkSaw
  | count (move : EncMove) (dt : Nat)
  | index (dt : Nat)
  | mark (src dt : Nat)
  deriving DecidableEq, Repr

/-- An edge that a tracker's glitch filter has passed and still delays, and the PTB cycles left (R124). -/
structure TrkEdge where
  k    : Fin 4
  left : Nat
  saw  : TrkSaw
  deriving DecidableEq, Repr

/-- The internals of a slot (R133, R134): whether its one-shot evaluation still waits, and for a periodic slot the TURNs in
which it has fired forward and backward since it was armed, as runs of a first TURN and a count (log 55). -/
structure Slot where
  eval   : Bool
  firedF : List (W32 × Nat)
  firedB : List (W32 × Nat)
  deriving DecidableEq, Repr

/-- A queued STPH write (R85, R140). -/
structure StphEnt where
  slot   : Fin 64
  off    : Nat
  data   : W32
  mantle : BitVec 12
  deriving DecidableEq, Repr

/-- What a firing puts on the way out (R137, R138, R148): a write of STPH, a pin action, a timer's start or stop. -/
inductive RelAct
  | write (e : StphEnt)
  | pin (p op : Nat)
  | timer (n : Fin 16) (on : Bool)
  deriving DecidableEq, Repr

/-- An action under way, and the PTB_TIME at which it takes effect (R138, R139, R148). -/
structure RelEnt where
  due : BitVec 64
  act : RelAct
  deriving DecidableEq, Repr

/-- A capture held until the second read of a chained pair (R157): input, low half, high half, direction. -/
structure HeldCap where
  input : Nat
  lo    : W32
  hi    : W32
  dir   : Bool
  deriving DecidableEq, Repr

/-- An edge on a capture input on its way through the glitch filter (R155): the 300 MHz cycles until it captures. -/
structure CapEdge where
  input  : Nat
  rising : Bool
  left   : Nat
  deriving DecidableEq, Repr

/-- The internals of a timer (R145 to R157): clock cycles since the last tick, direction (true down), reference signals, output
levels, rising edges waiting out the dead time with the 300 MHz cycles left, writes that wait for the next tick boundary,
the inputs whose low half must be read next, held captures, a restart of the count by CLR, edges in the capture filters. -/
structure Tmr where
  pre   : Nat
  down  : Bool
  refA  : Bool
  refB  : Bool
  outs  : BitVec 4
  rise  : List (Nat × Nat)
  newC  : Option W32
  newA  : Option W32
  newB  : Option W32
  half  : List Nat
  held  : List HeldCap
  clr   : Bool
  edges : List CapEdge
  deriving DecidableEq, Repr

/-- A UART (R169): FIFOs, a character on the wire, DE, and after the last stop bit the PTB cycles until it falls. -/
structure Uart where
  tx : List Byte
  rx : List (BitVec 11)
  on : Option Byte
  de : Bool
  turn : Option Nat
  deriving DecidableEq, Repr

/-- The serial peripherals and the Ethernet MAC (R170 to R172): `ethLast` is the frame last sent, FCS included; `ethUp`, `ethSpd`, `ethHdx` are
what the PHY reports of its link. -/
structure Io where
  uart   : Vector Uart 2
  spiTx  : List W32
  spiRx  : List W32
  spiOn  : Option W32
  i2cCmd : List W32
  i2cRx  : List Byte
  i2cBus : Bool
  ethQ   : List (Nat × Nat)
  ethLast : List Byte
  ethUp  : Bool
  ethSpd : Nat
  ethHdx : Bool
  deriving DecidableEq, Repr

/-- A mailbox message: header word and 15 payload words (R24). -/
structure MbxMsg where
  words  : List W32
  mantle : BitVec 12
  deriving DecidableEq, Repr

/-- A message carried to the Lamplighter and not yet delivered (R22, R27). -/
structure Carried where
  src    : Nat
  dst    : Nat
  words  : List W32
  deriving DecidableEq, Repr

/-- A cache and token plan (R287, R296): GBASE, SBASE, slot map, allotments as L3D_ALLOT images, token shares. -/
structure Plan where
  part  : W32
  slots : List Nat
  allot : List W32
  tok   : W32
  tokAl : List Nat
  deriving DecidableEq, Repr

/-- The power and reset condition of a channel (R40, R44, R399). -/
inductive Life | frost | reset | starting | up
  deriving DecidableEq, Repr

/-- A mode transition in progress (R44 to R48): its target, the request's tag, whether the Lamplighter asked, and whether it is
a retraining stop that returns to the mode it left (R309). -/
structure Trans where
  tgt   : Nat
  tag   : BitVec 8
  lamp  : Bool
  back  : Bool
  deriving DecidableEq, Repr

/-- A snuff: the core, whether the channel's response has been applied (R209). -/
structure Snuff where
  w    : Fin 8
  done : Bool
  deriving DecidableEq, Repr

/-- The debug wire of a channel (R411 to R417): whether it is awake, the challenge in force, the token being checked with the challenge it spent, the
result of the last token, the device time at which the grant ends, the last answer sent (status, tag, payload). -/
structure Wire where
  awake  : Bool
  nonce  : Option (BitVec 256)
  check  : Option (List Byte × BitVec 256)
  result : Nat
  life   : Nat
  answer : Option (Nat × BitVec 8 × List Byte)
  deriving DecidableEq, Repr

/-- The stores of a channel's cores (R173, R189, R191): the customer words from 0x1C00 and 0x380, CLAIM and ENTRY; whether a vendor patch is
loaded, its words from 0x1800 and 0x300, and its redirections of ROM microword addresses. The ROM is Config.romMicro and Config.romNano. -/
structure Ucode where
  micro  : List (BitVec 20)
  nano   : List (BitVec 144)
  claim  : W64
  entry  : List (BitVec 16)
  patch  : Bool
  pMicro : List (BitVec 20)
  pNano  : List (BitVec 144)
  redir  : List (BitVec 13 × BitVec 13)
  deriving DecidableEq, Repr

/-- A word of a core's patch or customer RAM whose parity is wrong (R192): micro store or nano store, and its address (R173). -/
structure BadWord where
  w    : Fin 8
  nano : Bool
  addr : Nat
  deriving DecidableEq, Repr

/-- A directory set that is rebuilt, and the L2s that have not reported yet (R283). -/
structure Rebuild where
  slice : Nat
  set   : Nat
  wait  : BitVec 8
  deriving DecidableEq, Repr

/-- A trace packet in the buffer: its bytes (R442). -/
structure Pkt where
  bytes : List Byte
  deriving DecidableEq, Repr

/-- A ring-phase sample delivered to a tracker (R125): ring phase and turn, whether it is the first from a new master (R131), the PTB cycles
since the sample before and the PTB_TIME that it is stamped with; `due` until the tracker has applied it. -/
structure RingSample where
  trk       : Fin 4
  angle     : W32
  turn      : W32
  newMaster : Bool
  e         : SampleTime
  due       : Bool
  deriving DecidableEq, Repr

/-- One channel: a complete application processor (R15). `goal` is the mode a cold channel start ends in when a request made it (R51); `loaded`
says that its image has been read and accepted, `bulk` and `bulkAt` what of the boot image has not yet been moved into the Calm store, and to
which address (R21); `kept`, that the start belongs to an image activation, which keeps the CXL link (R407); `expander`, what the last training
found; `zeroed`, that R320 has been done in this stay in THAW; `sealed`, the base and length of the Sealed Calm range and of the Sealed HDM range
in force since the cold start (R323); `planBad`, that a plan has been refused since the active one's activation, and `lateSeen`, that a response
was late since the cold start (R323). -/
structure Chan where
  num      : Fin 4
  cores    : Vector Core 8
  regs     : List (Nat × W32)
  life     : Life
  trans    : Option Trans
  snuff    : Option Snuff
  wakeHeld : Bool
  llDown   : Bool
  calm     : List (Nat × Byte)
  calmTag  : List Nat
  calmPois : List Nat
  calmPres : List (Nat × BitVec 8)
  cxl      : List (Nat × Byte)
  cxlTag   : List (Nat × BitVec 16)
  cxlPois  : List (Nat × BitVec 4)
  epoch    : BitVec 12
  cxlReqs  : List CxlReq
  flitFails : Nat
  evtSec   : Nat
  evtN     : Nat
  l3       : List L3Line
  dir      : List DirEnt
  homeQ    : List Req
  txs      : List Tx
  net      : List NetMsg
  rebuild  : Option Rebuild
  results  : List HomeRes
  salt     : Vector (BitVec 48) 3
  plan     : Plan
  admitted : Vector Nat 8
  secret   : BitVec 128
  pulse    : BitVec 256
  activ    : BitVec 256
  ptb      : BitVec 64
  subCyc   : Nat
  trk      : Vector Trk 4
  slot     : Vector Slot 64
  /-- Edges in the glitch filters of the trackers (R124). -/
  edges    : List TrkEdge
  /-- Slots that have fired in this PTB cycle (R141). -/
  fired    : List (Fin 64)
  stph     : List StphEnt
  rel      : List RelEnt
  tmr      : Vector Tmr 16
  svcKey   : Option Nat
  /-- Ring-phase samples delivered to trackers, the last one for each (R125). -/
  samples  : List RingSample
  pinIn    : BitVec 64
  pinExt   : BitVec 64
  /-- The two stages of the synchroniser behind PIO_IN, the second first (R165). -/
  pinSync  : BitVec 64 × BitVec 64
  io       : Io
  mbxOut   : List MbxMsg
  mbxIn    : List (List W32)
  ucode    : Ucode
  badWords : List BadWord
  wire     : Wire
  trcBuf   : List Pkt
  trcHead  : Nat
  trcDrops : Nat
  postLeft : Option Nat
  stall    : Bool
  objs     : List (Nat × List Byte)
  goal     : Option Nat
  loaded   : Bool
  bulk     : List Byte
  bulkAt   : Nat
  kept     : Bool
  expander : Option ExpanderFacts
  zeroed   : Bool
  sealed   : Vector Nat 4
  planBad  : Bool
  lateSeen : Bool
  free     : Nat
  deriving DecidableEq, Repr

/-- An entry of a channel's Mantle table (R201): parent, class, depth. -/
structure Mantle where
  parent : BitVec 12
  cls    : BitVec 2
  depth  : Nat
  deriving DecidableEq, Repr

/-- A channel's Mantle table: entry *i* is Mantle *i*; the next identity is its length (R201). -/
abbrev MantleTable := List Mantle

/-- The condition of the Lamplighter (R397, R398, R467, R472): held while PORESET_N is low or until the start, serving, without valid
firmware, or held by a thermal trip. -/
inductive LampLife | held | up | dead | tripped
  deriving DecidableEq, Repr

/-- An open session (R383): number, node, class, whether the key that signed its token holds role 4 (R394, R395), and the device time at
which its LIFETIME ends. -/
structure Session where
  num  : W32
  node : BitVec 12
  cls  : Nat
  root : Bool
  till : Nat
  deriving DecidableEq, Repr

/-- A key slot of the OTP (R394, R395): state 0 empty, 1 enrolled, 2 revoked; roles; the 97 key bytes (slot 0: Config.vendorKey). -/
structure KeySlot where
  state : Nat
  roles : BitVec 16
  key   : List Byte
  deriving DecidableEq, Repr

/-- An item that can be updated (R393, R403 to R405): its two flash slots, the active one, the staged bytes, the sizes of the blocks in
the SRAM buffer, state, last result, and its OTP minimum. -/
structure ItemSt where
  slotA   : List Byte
  slotB   : List Byte
  active  : Nat
  staged  : List Byte
  buffer  : List Nat
  state   : Nat
  result  : Nat
  minimum : Nat
  deriving DecidableEq, Repr

/-- A valid copy of the parameter store (R373): generation and values by object key. -/
structure ParamCopy where
  gen  : Nat
  vals : List (Nat × List Byte)
  deriving DecidableEq, Repr

/-- A valid copy of the boot record (R393): generation, and the active slot of each item. -/
structure BootCopy where
  gen   : Nat
  slots : List Nat
  deriving DecidableEq, Repr

/-- A declared application object (R388): index, type code, access, write class, NOTIFY, length, value in memory order. -/
structure AppObj where
  index  : Nat
  ty     : Nat
  acc    : Nat
  cls    : Nat
  notify : Bool
  len    : Nat
  value  : List Byte
  deriving DecidableEq, Repr

/-- The Lamplighter with its SRAM, flash and OTP (R18, R27, R371 to R408). `time` is the device time since PORESET_N in thirds of a
nanosecond; `pause` holds during a firmware activation, true when the previous slot was restored; `running` is the firmware slot that
runs, `other` that the next start takes the slot not running (R398); `loadOk`, that the parameter store was loaded from a valid copy and has met
no fault since (R377);
`challenges` holds the valid challenge of each node with the time at which it ends; `booting`, the item whose switch is being written to the boot
record, true when the firmware's previous slot is restored (R393, R407); `status` is the STATUS of the last answer to an access that is a
command of its own. -/
structure Lamp where
  life       : LampLife
  pause      : Option Bool
  time       : Nat
  carried    : List Carried
  results    : List (Nat × Nat × Nat)
  objs       : List (Nat × List Byte)
  apps       : List AppObj
  sessions   : List Session
  challenges : List (Nat × BitVec 256 × Nat)
  opened     : List (Nat × W32)
  keys       : Vector KeySlot 8
  provisioned : Bool
  items      : Vector ItemSt 6
  running    : Nat
  attempts   : Nat
  expiries   : Nat
  other      : Bool
  boot       : Vector (Option BootCopy) 2
  booting    : Option (Item × Bool)
  copies     : Vector (Option ParamCopy) 2
  loadOk     : Bool
  store      : Nat
  storeGen   : Nat
  dirty      : Bool
  restore    : Bool
  digest     : Option (BitVec 256)
  status     : Nat
  free       : Nat
  deriving DecidableEq, Repr

/-- The ring phase of a node (R344, R345): an angle and turn at a device time. -/
structure Phase where
  angle : W32
  turn  : W32
  time  : Nat
  deriving DecidableEq, Repr

/-- The ring configuration that governs since the last head frame (R358): subindexes 01 to 08 of 0x2100. -/
structure RingConf where
  nodeId    : Nat
  masterId  : Nat
  standbyId : Nat
  period    : Nat
  frames    : Nat
  frameLen  : Nat
  source    : Nat
  cycle     : Nat
  deriving DecidableEq, Repr

/-- A frame that leaves by a ring port, an answer left in a passing frame, or the loss of the frame that a port was sending (R326, R327, R335,
R349, R350). -/
inductive RingOut
  | forwarded (port : RingPort) (marked wrapped : Bool) (hops : BitVec 16) (len : Nat)
  | head (a b : Bool) (h : HeadFrame)
  | data (a b : Bool) (f : DataFrame)
  | mailbox (f : MailboxFrame)
  | calRequest (port : RingPort) (t1 : W64)
  | calReturn (port : RingPort) (t1 t2 t3 : W64)
  | cut (port : RingPort)
  deriving DecidableEq, Repr

/-- The ring node (R325 to R362). By port, A first: `lock`, and `cable`, the delays of the last 16 calibration exchanges in 2^-16 ns.
`outs` are the frames sent since the last head; `last`, the SWEEP and MASTER of the head last processed; `image`, the payloads of the
data frames as sent last; `backA` and `backB`, the copies returned on the two ports; `due`, the frames of a sweep not yet returned;
`missed`, the consecutive SWMISS; `snap`, the snapshot of each insert binding; `inbox`, the values extracted in an activation pause;
`port`, the one on which that head came, `binds`, the bindings in force since it, by subindex (R362), and `conf`, the configuration since the last
head at all (R358); `headAt`, when the last head came, by its own time or the predicted one of a head that was missed; `waiting`, the node's own
frames that wait until they may start, and `busy`, by port, the time until which it sends (R328); `joined`, when the relay was last held (R346);
`sampled`, the master of the last ring-phase sample (R131); `heads`, the copies of a sweep's head that have returned, and `late`, that a sweep waits
for the frames of the one before it (R336);
`answers`, the mailbox frames that returned to this node, and `lost`, the
transactions reported without an answer, `asked`, those without one so far (R350); `bypHold`, BYP_HOLD_N low, and `bypFaults`, the releases in a row. -/
structure Ring where
  lock     : Vector Bool 2
  cable    : Vector (List Int) 2
  outs     : List RingOut
  sweeping : Bool
  epoch    : BitVec 16
  master   : BitVec 12
  sweep    : W32
  last     : Option (W32 × BitVec 12)
  port     : RingPort
  binds    : List (Nat × Nat)
  conf     : RingConf
  headAt   : Option Nat
  waiting  : List RingOut
  busy     : Vector Nat 2
  joined   : Nat
  sampled  : Option (BitVec 12)
  phase    : Phase
  phValid  : Bool
  delay    : W64
  wrapped  : Bool
  image    : List (List Byte)
  backA    : List (Nat × List Byte)
  backB    : List (Nat × List Byte)
  due      : Nat
  heads    : Nat
  late     : Bool
  present  : List Byte
  consist  : List Byte
  dup      : Bool
  thead    : Nat
  missed   : Nat
  snap     : List (Nat × List Byte)
  inbox    : List (Nat × List Byte)
  answers  : List MailboxFrame
  lost     : List (BitVec 16)
  asked    : List (BitVec 16)
  bypHold  : Bool
  bypFaults : Nat
  bypWait  : Bool
  free     : Nat
  deriving DecidableEq, Repr


/-- The whole device and the queue of waiting commands, first in, first out. -/
structure State where
  chans   : Vector Chan 4
  mantles : Vector MantleTable 4
  lamp    : Lamp
  ring    : Ring
  pending : List Instr
  deriving DecidableEq, Repr

/-- Faults: ways the machine stops with an error. No meaning raises one: an exception of a core is an effect on State. -/
inductive Fault
  /-- Raised by nothing in this model (safe): the constructor keeps the type inhabited for the host's interface. -/
  | none
  deriving DecidableEq, Repr

/-- Refusals: commands without a meaning. -/
inductive Refusal
  /-- Raised by an arm of `exec` whose command has no meaning yet; its string is the row's mnemonic (safe). -/
  | notModelled (mnemonic : String)
  deriving DecidableEq, Repr

/-- A core after a channel reset: R54; PC, PCC and c0 as R400 when released. Values the manual does not give are 0 (log 2). -/
def Core.reset : Core :=
  { g := Vector.replicate 32 0#64, v := Vector.replicate 32 0#128, c := Vector.replicate 16 Taper.null,
    pc := 0#64, pcc := Taper.null, mask := 0#3, xdtBase := 0#64, ttbase := 0#64, asid := 0#64, fpctl := 0#64, tptr := 0#64,
    cyc := 0, pend := [], slotA := none, flight := [], ices := [], loq := Vector.replicate 32 LoqEnt.empty, units := (0, 0), seq := 0, sb := [], posted := [],
    resv := none, hold := none, wait := .none, waitP := false, elem := none, micro := Micro.zero, xact := 0#32, wact := false, wnew := false, wrem := 0, wovr := false,
    haltReq := 0#8, haltUnit := 0, stepping := false, skip := false, woken := false, shadow := 0, pred := Pred.clear, itlb := [], dtlb := [], l2tlb := [], l1i := [],
    l1d := [], l2 := [], evb := [], miss := [], streams := [], fetched := [], trcLast := none, trcBrAt := 0, trcOn := false, trcBr := [], trcSync := true, trcSince := 0, skid := 0, trcAddr := 0#48,
    trcDrop := false, trcMtl := 0#12, pmuCond := [] }

/-- A tracker after a channel reset: off, at rest (R118). -/
def Trk.reset : Trk :=
  { frac := 0, ivl := 0, since := 0, good := 0, left := 0, slew := 0, pred := 0#64, count := 0, rev := false }

/-- A slot after a channel reset (R143). -/
def Slot.reset : Slot := { eval := false, firedF := [], firedB := [] }

/-- A timer after a channel reset: both outputs low, since FORCE resets to 0b01 (R150, R151). -/
def Tmr.reset : Tmr :=
  { pre := 0, down := false, refA := false, refB := false, outs := 0#4, rise := [], newC := none, newA := none, newB := none,
    half := [], held := [], clr := false, edges := [] }

/-- The serial peripherals after a channel reset: FIFOs empty, lines idle (R169 to R172). -/
def Io.reset : Io :=
  { uart := Vector.replicate 2 { tx := [], rx := [], on := none, de := false, turn := none }, spiTx := [], spiRx := [], spiOn := none,
    i2cCmd := [], i2cRx := [], i2cBus := false, ethQ := [], ethLast := [], ethUp := false, ethSpd := 2, ethHdx := false }

/-- The default plan of R287, R290 and R308: 8 and 12 ways, the default slot map, no allotment, 32, 16 and 8 token shares. -/
def Plan.default : Plan :=
  { part := 0xC8#32, slots := [0, 1, 0, 2, 0, 1, 0, 2, 0, 1, 0, 2, 0, 1, 0, 2], allot := List.replicate 8 0#32,
    tok := 0x00081020#32, tokAl := List.replicate 8 0 }

/-- An empty customer store: every page 0x3F opcode is unclaimed (R188). -/
def Ucode.empty : Ucode := { micro := [], nano := [], claim := 0#64, entry := [], patch := false, pMicro := [], pNano := [], redir := [] }

/-- The debug wire at rest (R411). -/
def Wire.reset : Wire := { awake := false, nonce := none, check := none, result := 0, life := 0, answer := none }

/-- A channel without power: what it is after PORESET_N, before the Lamplighter starts it (R11, R40). -/
def Chan.reset (n : Fin 4) : Chan :=
  { num := n, cores := Vector.replicate 8 Core.reset, regs := [], life := .frost, trans := none, snuff := none, wakeHeld := false,
    llDown := false, calm := [], calmTag := [], calmPois := [], calmPres := [], cxl := [], cxlTag := [], cxlPois := [],
    epoch := 0#12, cxlReqs := [], flitFails := 0, evtSec := 0, evtN := 0, l3 := [], dir := [], homeQ := [], txs := [], net := [], rebuild := none, results := [],
    salt := Vector.replicate 3 0#48, plan := Plan.default, admitted := Vector.replicate 8 0, secret := 0#128,
    pulse := 0#256, activ := 0#256, ptb := 0#64, subCyc := 0, trk := Vector.replicate 4 Trk.reset,
    slot := Vector.replicate 64 Slot.reset, edges := [], fired := [], stph := [], rel := [], tmr := Vector.replicate 16 Tmr.reset, svcKey := none, samples := [], pinIn := 0#64, pinExt := 0#64, pinSync := (0#64, 0#64),
    io := Io.reset, mbxOut := [], mbxIn := [], ucode := Ucode.empty, badWords := [], wire := Wire.reset, trcBuf := [], trcHead := 0,
    trcDrops := 0, postLeft := none, stall := false, objs := [], goal := none, loaded := false, bulk := [], bulkAt := 0, kept := false, expander := none, zeroed := false,
    sealed := Vector.replicate 4 0, planBad := false, lateSeen := false, free := 0 }

/-- The Mantle table of a cold channel start: Mantle 0x000 alone, Open, depth 1 (R201). -/
def MantleTable.reset : MantleTable := [{ parent := 0#12, cls := 0#2, depth := 1 }]

/-- An item as delivered: what the flash was programmed with, slot A active (log 28). -/
def ItemSt.reset (i : Nat) : ItemSt :=
  { slotA := Config.flash i 0, slotB := Config.flash i 1, active := 0, staged := [], buffer := [], state := 0, result := 0, minimum := 0 }

/-- Key slot s as delivered (R394): slot 0 holds the vendor key with roles 0x0023, the others are empty. -/
def KeySlot.reset (s : Nat) : KeySlot := { state := if s = 0 then 1 else 0, roles := if s = 0 then 0x23#16 else 0#16, key := [] }

/-- The Lamplighter of a device as delivered, after PORESET_N: no copy of the parameter store is valid (log 28). -/
def Lamp.reset : Lamp :=
  { life := .held, pause := none, time := 0, carried := [], results := [], objs := [], apps := [], sessions := [], challenges := [],
    opened := [], keys := Vector.ofFn fun s => KeySlot.reset s.val, provisioned := false,
    items := Vector.ofFn fun i => ItemSt.reset i.val, running := 0, attempts := 0, expiries := 0, other := false,
    boot := Vector.replicate 2 none, booting := none, copies := Vector.replicate 2 none, loadOk := false, store := 2, storeGen := 0, dirty := false, restore := false, digest := none, status := 0, free := 0 }

/-- The defaults of R358. -/
def RingConf.dflt : RingConf :=
  { nodeId := 0xFFFF, masterId := 0, standbyId := 0xFFFF, period := 1000, frames := 1, frameLen := 1024, source := 0, cycle := 20000000 }

/-- The ring node after PORESET_N: no port has block lock, BYP_HOLD_N is high impedance (R355, R468). -/
def Ring.reset : Ring :=
  { lock := Vector.replicate 2 false, cable := Vector.replicate 2 [], outs := [], sweeping := false, epoch := 0#16, master := 0#12,
    sweep := 0#32, last := none, port := .b, binds := [], conf := RingConf.dflt, headAt := none, waiting := [], busy := Vector.replicate 2 0, joined := 0, sampled := none, phase := ⟨0#32, 0#32, 0⟩, phValid := false, delay := 0#64, wrapped := false, image := [], backA := [],
    backB := [], due := 0, heads := 0, late := false, present := [], consist := [], dup := false, thead := 0, missed := 0, snap := [], inbox := [],
    answers := [], lost := [], asked := [], bypHold := false, bypFaults := 0, bypWait := false, free := 0 }

/-- The device right after PORESET_N: every channel without power, no command waiting. -/
def State.reset : State :=
  { chans := #v[Chan.reset 0, Chan.reset 1, Chan.reset 2, Chan.reset 3], mantles := Vector.replicate 4 MantleTable.reset, lamp := Lamp.reset,
    ring := Ring.reset, pending := [] }

end Sys2Proof.Machine
end

