-- ==== Sys2Proof/Machine/Operands.lean ====
section
/-! DEFINITION. Operands of the Wick instructions: reading a register under the old-or-new rule (R91, R92), writing one with
its distance, the encodings of the instruction word (R55 to R58), Taper fields (R195, R196); and the accessors of a channel's
cores and control registers. -/

namespace Sys2Proof.Machine

/-! Channels, cores, control registers. -/

/-- Channel `c` of the device. -/
def State.ch (s : State) (c : Fin 4) : Chan := s.chans[c]

/-- The state with channel `c` changed by `f`. -/
def State.onChan (s : State) (c : Fin 4) (f : Chan → Chan) : State := { s with chans := s.chans.set c (f s.chans[c]) }

/-- The Mantle table of channel `c` (R201). -/
def State.mtl (s : State) (c : Fin 4) : MantleTable := s.mantles[c]

/-- Core `w` of a channel. -/
def Chan.core (ch : Chan) (w : Fin 8) : Core := ch.cores[w]

/-- The channel with core `w` replaced. -/
def Chan.setCore (ch : Chan) (w : Fin 8) (c : Core) : Chan := { ch with cores := ch.cores.set w c }

/-- The channel with core `w` changed by `f`. -/
def Chan.onCore (ch : Chan) (w : Fin 8) (f : Core → Core) : Chan := ch.setCore w (f (ch.core w))

/-- The stored image of the control register at an offset (R11, R31). -/
def Chan.reg (ch : Chan) (off : Nat) : W32 := spGet (regReset off) ch.regs off

/-- The channel with a control register's image replaced. -/
def Chan.setReg (ch : Chan) (off : Nat) (v : W32) : Chan := { ch with regs := spSet (regReset off) ch.regs off v }

/-- Field [lo + w − 1 : lo] of a control register. -/
def Chan.fld (ch : Chan) (off lo w : Nat) : Nat := getF (ch.reg off) lo w

/-- Bit b of a control register. -/
def Chan.bit (ch : Chan) (off b : Nat) : Bool := (ch.reg off).getLsbD b

/-- A field of a control register replaced. -/
def Chan.putF (ch : Chan) (off lo w v : Nat) : Chan := ch.setReg off (setF (ch.reg off) lo w v)

/-- A bit of a control register set. -/
def Chan.setBit (ch : Chan) (off b : Nat) : Chan := ch.putF off b 1 1

/-- CHN_MODE_STAT.CUR (R50). -/
def Chan.mode (ch : Chan) : Nat := ch.fld 0x14 0 4

/-- A core that runs with fixed cycle costs: every core in CALM, cores 0–3 in HAZE (R34). -/
def Chan.fixedCore (ch : Chan) (w : Fin 8) : Bool := ch.mode == 4 || (ch.mode == 5 && w.val < 4)

/-- A run mode: GALE, BREEZE, DRIZZLE, CALM, HAZE (R34). -/
def runMode (m : Nat) : Bool := 1 ≤ m && m ≤ 5

/-- A partitioned mode: BREEZE, DRIZZLE, HAZE (R284). -/
def Chan.parted (ch : Chan) : Bool := ch.mode == 2 || ch.mode == 3 || ch.mode == 5

/-- Offset of a per-core register (R31). -/
def pcr (w : Fin 8) (off : Nat) : Nat := 0x100000 + w.val * 0x10000 + off

/-- The objects the Lamplighter keeps for a channel, keyed by index × 256 + subindex (R51). -/
def objKey (idx sub : Nat) : Nat := idx * 256 + sub

/-- A stored object value, as bytes; the empty list when nothing has been stored. -/
def Chan.obj (ch : Chan) (idx sub : Nat) : List Byte := spGet [] ch.objs (objKey idx sub)

/-- A stored object value as a number, `d` when nothing has been stored. -/
def Chan.objN (ch : Chan) (idx sub d : Nat) : Nat := let b := ch.obj idx sub; if b.isEmpty then d else leNat b

/-- An object value stored as n bytes. -/
def Chan.setObj (ch : Chan) (idx sub n v : Nat) : Chan :=
  { ch with objs := spSet [] ch.objs (objKey idx sub) (leBytes v n) }

/-- Index of a channel object of area 0x3000 + n × 0x1000. -/
def Chan.idx (ch : Chan) (base : Nat) : Nat := base + ch.num.val * 0x1000

/-- The occasion of a draw: no two channels share one, so what one draws says nothing of another's (R13, R16). -/
def Chan.occasion (ch : Chan) : Nat := 4 * ch.free + ch.num.val

/-- A choice of R13 for a purpose, not bounded. -/
def Chan.choice (ch : Chan) (salt : Nat) : Nat := Config.choice ch.occasion salt

/-- A free value for a purpose (log 3). -/
def Chan.draw (ch : Chan) (salt : Nat) : BitVec 512 := Config.draw ch.occasion salt

/-- A choice of R13 for a purpose, among n outcomes. -/
def Chan.pick (ch : Chan) (salt n : Nat) : Nat := ch.choice salt % n

/-! Tapers (R195, R196). -/

def Taper.base (t : Taper) : Nat := t.bits.toNat % 2 ^ 48
def Taper.len (t : Taper) : Nat := t.bits.toNat / 2 ^ 48 % 2 ^ 48
def Taper.mantle (t : Taper) : BitVec 12 := BitVec.ofNat 12 (t.bits.toNat / 2 ^ 96)
def Taper.perm (t : Taper) : BitVec 12 := BitVec.ofNat 12 (t.bits.toNat / 2 ^ 108)
def Taper.latch (t : Taper) : Nat := t.bits.toNat / 2 ^ 120
/-- A permission bit by number (R196). -/
def Taper.has (t : Taper) (b : Nat) : Bool := t.perm.getLsbD b
/-- A Taper from its fields (R195). -/
def mkTaper (base len : Nat) (mantle perm : BitVec 12) (latch : Nat) (tag : Bool) : Taper :=
  { bits := BitVec.ofNat 128 (base % 2 ^ 48 + 2 ^ 48 * (len % 2 ^ 48) + 2 ^ 96 * mantle.toNat + 2 ^ 108 * perm.toNat
      + 2 ^ 120 * (latch % 256)), tag := tag }
/-- The Taper with another base and length. -/
def Taper.withRange (t : Taper) (base len : Nat) : Taper := mkTaper base len t.mantle t.perm t.latch t.tag
/-- The Taper with other permissions. -/
def Taper.withPerm (t : Taper) (p : BitVec 12) : Taper := mkTaper t.base t.len t.mantle p t.latch t.tag
/-- The Taper with another latch. -/
def Taper.withLatch (t : Taper) (l : Nat) : Taper := mkTaper t.base t.len t.mantle t.perm l t.tag
/-- The Taper with another Mantle, tagged (R202). -/
def Taper.withMantle (t : Taper) (m : BitVec 12) : Taper := mkTaper t.base t.len m t.perm t.latch true
/-- The Taper with its tag cleared. -/
def Taper.untag (t : Taper) : Taper := { t with tag := false }
/-- Whether every byte of n bytes at a 64-bit address is covered (R195). -/
def Taper.covers (t : Taper) (a n : Nat) : Bool := t.base ≤ a && a + n ≤ t.base + t.len
/-- 129 bits: the tag above the image. -/
def Taper.raw (t : Taper) : BitVec 129 := BitVec.ofBool t.tag ++ t.bits
def Taper.ofRaw (x : BitVec 129) : Taper := { bits := x.truncate 128, tag := x.getLsbD 128 }

/-! Special registers (R77). -/

/-- The stored value of a special register. CURMODE and COREID are computed by `Chan.special`. -/
def Core.sr (c : Core) (n : Fin 32) : W64 :=
  match n.val with
  | 0 => zx c.mask
  | 1 => c.xdtBase
  | 2 => c.ttbase
  | 3 => c.asid
  | 4 => c.fpctl
  | 5 => c.tptr
  | _ => 0#64

/-- A special register replaced by the listed fields of a value (R72, R77, R225). -/
def Core.setSr (c : Core) (n : Fin 32) (v : W64) : Core :=
  match n.val with
  | 0 => { c with mask := v.truncate 3 }
  | 1 => { c with xdtBase := v &&& 0x0000FFFFFFFFFFC0#64 }
  | 2 => { c with ttbase := v &&& 0x0000FFFFFFFFF000#64 }
  | 3 => { c with asid := v &&& 0xFFF#64 }
  | 4 => { c with fpctl := v &&& fpctlMask }
  | 5 => { c with tptr := v }
  | _ => c

/-- The raw content of a register, 129 bits. -/
def Core.raw (c : Core) : RegRef → BitVec 129
  | .g r => (c.g[r]).zeroExtend 129
  | .v r => (c.v[r]).zeroExtend 129
  | .c r => (c.c[r]).raw
  | .sr n => (c.sr n).zeroExtend 129

/-- A register's content replaced; g0 discards it (R53). -/
def Core.setRaw (c : Core) (r : RegRef) (x : BitVec 129) : Core :=
  match r with
  | .g r => if r = 0 then c else { c with g := c.g.set r (x.truncate 64) }
  | .v r => { c with v := c.v.set r (x.truncate 128) }
  | .c r => { c with c := c.c.set r (Taper.ofRaw x) }
  | .sr n => c.setSr n (x.truncate 64)

/-- A number for the choice of a register's outcome. -/
def RegRef.salt : RegRef → Nat
  | .g r => r.val
  | .v r => 32 + r.val
  | .c r => 64 + r.val
  | .sr n => 80 + n.val

/-- The values a reader in issue cycle t may obtain (R92): the register's value when its last writer's distance has passed,
else the value before the first pending write or the result of any pending one. -/
def Core.outcomes (c : Core) (r : RegRef) : List (BitVec 129) :=
  let mine := c.pend.filter fun p => p.reg = r
  match mine.getLast? with
  | none => []
  | some l =>
    if l.due ≤ c.cyc then []
    else
      let un := mine.filter fun p => c.cyc < p.due
      (un.head?.map fun p => p.old).toList ++ un.map fun p => p.new

/-- A register as an instruction issued now reads it (R53, R91, R92). -/
def Chan.read (ch : Chan) (w : Fin 8) (r : RegRef) : BitVec 129 :=
  let c := ch.core w
  if r = .g 0 then 0#129 else
  match c.outcomes r with
  | [] => c.raw r
  | os => nth (c.raw r) os (ch.pick r.salt os.length)

def Chan.rg (ch : Chan) (w : Fin 8) (r : Fin 32) : W64 := (ch.read w (.g r)).truncate 64
def Chan.rv (ch : Chan) (w : Fin 8) (r : Fin 32) : W128 := (ch.read w (.v r)).truncate 128
def Chan.rc (ch : Chan) (w : Fin 8) (r : Fin 16) : Taper := Taper.ofRaw (ch.read w (.c r))
/-- A special register as SRR reads it (R77). -/
def Chan.special (ch : Chan) (w : Fin 8) (n : Fin 32) : W64 :=
  match n.val with
  | 6 => BitVec.ofNat 64 (w.val + 16 * ch.num.val)
  | 7 => BitVec.ofNat 64 ch.mode
  | _ => (ch.read w (.sr n)).truncate 64

/-- The noted writes that a later reader may need: those of a register of whose writes some is still pending (R92). -/
def Core.noted (c : Core) : List Pend := c.pend.filter fun p => c.pend.any fun q => q.reg = p.reg && decide (c.cyc < q.due)

/-- The faulted entry to deliver: of those not held back by R103, the one whose operation issued first. -/
def Core.dueFault (c : Core) : Option (Fin 32) :=
  (((List.finRange 32).filter fun i => (c.loq[i]).st = .faulted && (c.loq[i]).held == 0).mergeSort fun i j => (c.loq[i]).seq ≤ (c.loq[j]).seq).head?

/-- A result of distance d written by the instruction issuing now (R91 to R93); of the long operations pending for the register it is a later
writer, which overtakes them when it commits at W, six cycles after its issue (R98). -/
def Core.put (c : Core) (r : RegRef) (d : Nat) (x : BitVec 129) : Core :=
  if r = .g 0 then c else
  let old := c.raw r
  let c := c.setRaw r x
  let kill : LoqEnt → LoqEnt := fun e =>
    match r with
    | .g n => if e.st ≠ .free ∧ e.file = some false ∧ e.dest = n ∧ e.dead = none then { e with dead := some (c.cyc + 6, c.cyc + d) } else e
    | .v n => if e.st ≠ .free ∧ e.file = some true ∧ e.dest = n ∧ e.dead = none then { e with dead := some (c.cyc + 6, c.cyc + d) } else e
    | _ => e
  { c with loq := c.loq.map kill, pend := c.noted ++ [{ reg := r, old := old, new := c.raw r, due := c.cyc + d }] }

def Chan.wg (ch : Chan) (w : Fin 8) (r : Fin 32) (d : Nat) (x : W64) : Chan := ch.onCore w fun c => c.put (.g r) d (x.zeroExtend 129)
def Chan.wv (ch : Chan) (w : Fin 8) (r : Fin 32) (d : Nat) (x : W128) : Chan := ch.onCore w fun c => c.put (.v r) d (x.zeroExtend 129)
def Chan.wc (ch : Chan) (w : Fin 8) (r : Fin 16) (d : Nat) (t : Taper) : Chan := ch.onCore w fun c => c.put (.c r) d t.raw

/-- FP flags set by an instruction: visible to SRR at distance 6 (R91). -/
def Chan.setFlags (ch : Chan) (w : Fin 8) (fl : FFlags) : Chan :=
  if fl = 0#5 then ch else
  ch.onCore w fun c => c.put (.sr 4) 6 ((fpctlSet c.fpctl fl).zeroExtend 129)

/-- FPCTL as an FP instruction issued now reads it (R91). -/
def Chan.fpctl (ch : Chan) (w : Fin 8) : W64 := ch.special w 4

/-! Encodings (R55 to R58). -/

/-- Major opcode and pair bit in place. -/
def encTop (major : Nat) (p : Bool) : Nat := major * 2 ^ 26 + b2n p * 2 ^ 25
/-- R format. -/
def encR (major : Nat) (p : Bool) (rd rs1 rs2 rs3 fn : Nat) : W32 :=
  BitVec.ofNat 32 (encTop major p + rd * 2 ^ 20 + rs1 * 2 ^ 15 + rs2 * 2 ^ 10 + rs3 * 2 ^ 5 + fn)
/-- I, S and B formats: two registers and a 15-bit field. -/
def encI (major : Nat) (p : Bool) (a b : Nat) (imm : BitVec 15) : W32 :=
  BitVec.ofNat 32 (encTop major p + a * 2 ^ 20 + b * 2 ^ 15 + imm.toNat)
/-- J and U formats. -/
def encU (major : Nat) (p : Bool) (rd : Nat) (imm : BitVec 20) : W32 :=
  BitVec.ofNat 32 (encTop major p + rd * 2 ^ 20 + imm.toNat)
/-- P format (R56). -/
def encP (p : Bool) (rd rs1 rs2 slot fn : Nat) : W32 :=
  BitVec.ofNat 32 (encTop 0x36 p + rd * 2 ^ 20 + rs1 * 2 ^ 15 + rs2 * 2 ^ 10 + slot * 2 ^ 4 + fn)
/-- X format (R56). -/
def encX (p : Bool) (rd rs1 rs2 imm4 xop : Nat) : W32 :=
  BitVec.ofNat 32 (encTop 0x3F p + rd * 2 ^ 20 + rs1 * 2 ^ 15 + rs2 * 2 ^ 10 + imm4 * 2 ^ 6 + xop)
/-- Major opcode of a word (R55). -/
def majorOf (x : W32) : Nat := x.toNat / 2 ^ 26
def rdOf (x : W32) : Nat := x.toNat / 2 ^ 20 % 32
def rs1Of (x : W32) : Nat := x.toNat / 2 ^ 15 % 32
def rs2Of (x : W32) : Nat := x.toNat / 2 ^ 10 % 32
def rs3Of (x : W32) : Nat := x.toNat / 2 ^ 5 % 32
def fnOf (x : W32) : Nat := x.toNat % 32
def pBit (x : W32) : Bool := x.getLsbD 25
/-- A B-format target offset (R57). -/
def offB (off : BitVec 15) : W64 := sx off * 4#64
/-- A J-format target offset (R57). -/
def offJ (off : BitVec 20) : W64 := sx off * 4#64
/-- An address with bits [1:0] cleared (R52). -/
def align4 (x : W64) : W64 := x &&& ~~~3#64

/-- Whether an instruction at an address may be slot A: P = 1 at an 8-byte-aligned address where pairs form (R59, R117). -/
def Chan.opensPair (ch : Chan) (w : Fin 8) (pc : W64) (word : W32) : Bool :=
  !ch.fixedCore w && !ch.bit (pcr w 0x10) 0 && pBit word && pc &&& 7#64 == 0#64 && !(ch.core w).stepping

/-- The registers a word of the pairable classes reads and writes, as file numbers 0 g, 1 v, 2 c with a register number (R56,
R60); a class this table does not name reads and writes nothing. -/
def regsRead (x : W32) : List (Nat × Nat) :=
  let rd := rdOf x; let a := rs1Of x; let b := rs2Of x; let c := rs3Of x; let fn := fnOf x
  match majorOf x with
  | 0x00 | 0x0D => [(0, a), (0, b)]
  | 0x01 | 0x02 | 0x03 | 0x04 | 0x05 | 0x06 | 0x07 | 0x2B => [(0, a)]
  | 0x0A => [(0, rd)]
  | 0x0C => if fn = 5 then [(0, a), (0, b), (0, c)] else [(0, a), (0, b)]
  | 0x10 | 0x11 | 0x12 | 0x13 | 0x14 | 0x15 | 0x16 | 0x17 | 0x1D | 0x31 => [(0, a), (2, 0)]
  | 0x18 | 0x19 | 0x1A | 0x1B => [(0, rd), (0, a), (2, 0)]
  | 0x1C => [(1, rd), (0, a), (2, 0)]
  | 0x1E => [(if x.toNat / 2 ^ 12 % 8 = 4 then 1 else 0, rd), (0, a), (2, 0)]
  | 0x24 | 0x25 | 0x26 | 0x27 | 0x28 | 0x29 => [(0, rd), (0, a)]
  | 0x2C => if fn % 16 = 10 ∨ fn % 16 = 12 then [(0, a)] else if fn % 16 = 4 ∨ fn % 16 = 8 ∨ fn % 16 = 9 ∨ fn % 16 = 11 then [(1, a)] else [(1, a), (1, b)]
  | 0x2D => [(1, a), (1, b), (1, c)]
  | 0x2E => [(1, a), (1, b)]
  | 0x2F => if fn = 3 then [(0, a)] else if fn = 4 then [(1, a)] else if fn = 2 then [(1, a), (1, b)] else [(1, a), (1, b), (1, c)]
  | 0x30 => match fn with
    | 6 => [(2, a), (0, b), (0, c)]
    | 7 | 8 | 9 | 11 => [(2, a), (0, b)]
    | 13 => [(2, a), (2, b)]
    | 12 => []
    | _ => [(2, a)]
  | 0x32 => [(2, rd), (0, a), (2, 0)]
  | 0x34 => [(0, rd), (0, a), (0, b)]
  | _ => []
def regsWritten (x : W32) : List (Nat × Nat) :=
  let rd := rdOf x; let fn := fnOf x
  match majorOf x with
  | 0x00 | 0x01 | 0x02 | 0x03 | 0x04 | 0x05 | 0x06 | 0x07 | 0x08 | 0x09 | 0x0A | 0x0C | 0x0D => [(0, rd)]
  | 0x10 | 0x11 | 0x12 | 0x13 | 0x14 | 0x15 | 0x16 | 0x2A | 0x2B | 0x34 => [(0, rd)]
  | 0x17 | 0x2D | 0x2E => [(1, rd)]
  | 0x1D => [(if x.toNat / 2 ^ 12 % 8 = 4 then 1 else 0, rd)]
  | 0x2C => if fn % 16 = 9 ∨ fn % 16 = 11 ∨ 13 ≤ fn % 16 then [(0, rd)] else [(1, rd)]
  | 0x2F => if fn = 4 then [(0, rd)] else [(1, rd)]
  | 0x30 => if (1 ≤ fn ∧ fn ≤ 5) ∨ fn = 13 then [(0, rd)] else [(2, rd)]
  | 0x31 => [(2, rd)]
  | _ => []

/-- Whether two words form a pair (R60, rules 1 to 7); rule 8 holds of every word a command spells. -/
def pairs (a b : W32) : Bool :=
  let unp := fun x : W32 => let m := majorOf x; m == 0x20 || m == 0x21 || m == 0x33 || m == 0x35 || m == 0x36 || m == 0x3F
    || (m == 0x30 && fnOf x == 11)
  let mem := fun x : W32 => let m := majorOf x; (0x10 ≤ m && m ≤ 0x1E) || m == 0x31 || m == 0x32
  let fp := fun x : W32 => let m := majorOf x; 0x2C ≤ m && m ≤ 0x2F
  let mul := fun x : W32 => majorOf x == 0x0C
  let br := fun x : W32 => let m := majorOf x; 0x24 ≤ m && m ≤ 0x2B
  let wr := (regsWritten a).filter fun r => r ≠ (0, 0)
  !unp a && !unp b && !(mem a && mem b) && !(fp a && fp b) && !(mul a && mul b) && !br a
    && (regsRead b).all (fun r => !wr.contains r) && (regsWritten b).all (fun r => !wr.contains r)

end Sys2Proof.Machine
end

