-- ==== Sys2Proof/Machine/Home.lean ====
section
/-! DEFINITION. Memory behind the cores: the CXL expander with its tag store (R293, R294, R301 to R303), the L3, the directory
and the home of each line with its queue and transactions (R273 to R281), the L2s and their eviction buffers. A message acts
when it is delivered; `pump` delivers what is under way, for an access that freezes its core until the line is there (R95). -/

namespace Sys2Proof.Machine

/-- The first address of the HDM window (R29). -/
def hdmBase : Nat := 2 ^ 44

/-- Counters that stick at 0xFFFF and set a saturation bit (R282, R308). -/
def Chan.count16 (ch : Chan) (off lo sat satBit : Nat) : Chan :=
  let v := sticky 0xFFFF (ch.fld off lo 16) 1
  let ch := ch.putF off lo 16 v
  if v = 0xFFFF then ch.setBit sat satBit else ch

/-- An error of the MCX block (R301 to R303, R308): counter, saturation bit, STAT bit, ERRADDR kind (0: none recorded). -/
def Chan.mcxErr (ch : Chan) (off lo satBit statBit kind line : Nat) : Chan :=
  let clear := !(ch.bit 0x60010 1) && !(ch.bit 0x60010 2) && !(ch.bit 0x60010 4)
  let ch := (ch.count16 off lo 0x60030 satBit).setBit 0x60010 statBit
  if kind ≠ 0 ∧ clear then
    ((ch.setReg 0x60034 (BitVec.ofNat 32 (line * 64))).putF 0x60038 0 16 (line * 64 / 2 ^ 32)).putF 0x60038 16 3 kind
  else ch

def Chan.notePoison (ch : Chan) (line : Nat) : Chan := ch.mcxErr 0x60024 0 2 1 1 line
def Chan.noteRefused (ch : Chan) (line : Nat) : Chan := ch.mcxErr 0x60024 16 3 2 2 line
def Chan.noteLost (ch : Chan) (line : Nat) : Chan := ch.mcxErr 0x60028 0 4 4 3 line
def Chan.noteMcxLate (ch : Chan) : Chan := ch.mcxErr 0x60028 16 5 8 0 0
def Chan.noteHoldMiss (ch : Chan) : Chan := { ch.mcxErr 0x6002C 0 6 5 0 0 with lateSeen := true }

/-- An error of the L3D block (R280, R282, R290): counter, saturation bit, STAT bit. -/
def Chan.l3dErr (ch : Chan) (off lo satBit statBit : Nat) : Chan := (ch.count16 off lo 0x7001C satBit).setBit 0x70004 statBit
def Chan.noteL3dLate (ch : Chan) : Chan := ch.l3dErr 0x70018 16 5 4

/-- A happening recorded in L3D_ERRADDR, while STAT bits 1 and 3 are both 0 (R290). -/
def Chan.l3dAddr (ch : Chan) (kind line slice core : Nat) : Chan :=
  if ch.bit 0x70004 1 || ch.bit 0x70004 3 then ch else
  let hi := line * 64 / 2 ^ 32 % 2 ^ 16 + 2 ^ 16 * kind + 2 ^ 20 * slice + 2 ^ 24 * core
  (ch.setReg 0x70020 (BitVec.ofNat 32 (line * 64))).setReg 0x70024 (BitVec.ofNat 32 hi)

/-- The link is up: STATE is L0 or L1 (R308). -/
def Chan.linkUp (ch : Chan) : Bool := 2 ≤ ch.fld 0x60000 0 2

/-- The established size S in bytes (R293). -/
def Chan.hdmSize (ch : Chan) : Nat := ch.fld 0x60004 0 15 * 2 ^ 28

/-! The expander: bytes, tag words and poison of the window, keyed by line and byte of the window (R293, R294). -/

/-- The four tags of a line: those of the current epoch, else clear (R294). -/
def Chan.cxlTags (ch : Chan) (line : Nat) : BitVec 4 :=
  let t := spGet 0#16 ch.cxlTag line
  if t.toNat / 16 = ch.epoch.toNat then t.truncate 4 else 0#4

def Chan.setCxlTags (ch : Chan) (line : Nat) (t : BitVec 4) : Chan :=
  { ch with cxlTag := spSet 0#16 ch.cxlTag line (if t = 0#4 then 0#16 else ch.epoch ++ t) }

/-- The 64 bytes of a line of the window. -/
def Chan.cxlData (ch : Chan) (line : Nat) : BitVec 512 := BitVec.ofNat 512 (leNat (readBytes ch.cxl (line * 64 - hdmBase) 64))

def Chan.cxlPoisoned (ch : Chan) (line : Nat) : Bool := spGet 0#4 ch.cxlPois line != 0#4

/-- A read of a line by the memory controller (R301, R303): while the link is down every read is answered poisoned. -/
def Chan.cxlRead (ch : Chan) (line : Nat) : Chan × (BitVec 512 × BitVec 4 × Bool) :=
  let p := ch.cxlPoisoned line || !ch.linkUp
  (if p then ch.notePoison line else ch, (ch.cxlData line, ch.cxlTags line, p))

/-- A write of a whole line, with its tags and poison (R294, R302); dropped while the link is down (R303). -/
def Chan.cxlWrite (ch : Chan) (line : Nat) (data : BitVec 512) (tags : BitVec 4) (poison : Bool) : Chan :=
  if !ch.linkUp then ch.noteLost line else
  { ch.setCxlTags line tags with
    cxl := writeBytes ch.cxl (line * 64 - hdmBase) (leBytes data.toNat 64),
    cxlPois := spSet 0#4 ch.cxlPois line (if poison then 0xF#4 else 0#4) }

/-- A write of part of a line past the caches (R267, R302): tags of the touched granules clear, unless a Taper's tag is given;
poison leaves the granules `heal`, and with the last of them the line. -/
def Chan.cxlWritePart (ch : Chan) (pa : Nat) (bytes : List Byte) (tag : Bool) (heal : BitVec 4) : Chan :=
  let line := pa / 64
  if !ch.linkUp then ch.noteLost line else
  let off := pa % 64
  let touched : BitVec 4 := ofBits 4 fun i => off < 16 * (i + 1) && 16 * i < off + bytes.length
  let old := ch.cxlTags line
  let tags := if tag then old ||| touched else old &&& ~~~touched
  let p := spGet 0#4 ch.cxlPois line &&& ~~~heal
  { ch.setCxlTags line tags with cxl := writeBytes ch.cxl (pa - hdmBase) bytes, cxlPois := spSet 0#4 ch.cxlPois line p }

/-! Request tokens (R296, R308). -/

/-- The pool of tokens of a partition owner; the far lane has its own, `farPool`. -/
def Chan.pool (ch : Chan) (owner : Nat) : Nat := if ch.parted then owner else 0
def farPool : Nat := 16

/-- Tokens of a pool. -/
def Chan.tokens (ch : Chan) (pool : Nat) : Nat :=
  let t := ch.plan.tok
  let less := fun (cls : Nat) => ((List.range 8).map fun n =>
    let a := nth 0#32 ch.plan.allot n
    if a.getLsbD 0 && getF a 1 2 == cls then 16 * nth 0 ch.plan.tokAl n else 0).sum
  let far := if ch.mode = 5 then 16 * getF t 16 6 else 0
  if ch.mode = 4 then (if pool = farPool then 1024 else 0)
  else if pool = farPool then far
  else if !ch.parted then 1024
  else if 8 ≤ pool then 16 * nth 0 ch.plan.tokAl (pool - 8)
  else match pool with
    | 0 => 16 * getF t 0 6 - less 0
    | 1 => 16 * getF t 8 6 - less 1
    | _ => 1024 - far - 16 * getF t 0 6 - 16 * getF t 8 6 - less 2

/-- The requests of a pool, in the order in which they were made: the first of them hold its tokens, the others wait for one. -/
def Chan.poolReqs (ch : Chan) (pool : Nat) : List CxlReq := ch.cxlReqs.filter fun q => q.pool == pool

/-- Whether a request of a pool gets a token now. -/
def Chan.tokenFree (ch : Chan) (pool : Nat) : Bool := decide ((ch.poolReqs pool).length < ch.tokens pool)

/-- MCX_TOKUSE.USED. -/
def Chan.tokensUsed (ch : Chan) : Nat := ((List.range 17).map fun p => min (ch.poolReqs p).length (ch.tokens p)).sum

/-- The high-water mark follows. -/
def Chan.noteUse (ch : Chan) (n : Nat) : Chan := ch.putF 0x60080 16 11 (max (ch.fld 0x60080 16 11) n)

/-- A request that takes a token, or waits for one. -/
def Chan.putReq (ch : Chan) (q : CxlReq) : Chan :=
  let ch := { ch with cxlReqs := ch.cxlReqs ++ [q] }
  ch.noteUse ch.tokensUsed

/-! Posted stores and the halves of 16-byte accesses past the caches (R241, R242, R250). -/

/-- An attribute of uncached HDM; with translation off, as on the far lane, the HDM window is memory (R232, R241). -/
def Attr.uncached : Attr → Bool
  | .unc01 | .unc10 | .unc11 => true
  | _ => false

/-- A part as it is performed: an aligned 16-byte one of uncached HDM as two halves, the lower first (R242). -/
def Part.halves (p : Part) : List Part :=
  if p.attr.uncached && p.n == 16 && p.pa % 16 == 0 then [⟨p.pa, 8, p.attr⟩, ⟨p.pa + 8, 8, p.attr⟩] else [p]

/-- A buffered store of uncached HDM as it is performed: what comes first, and what is left of it (R242). -/
def SbEnt.halve (e : SbEnt) : SbEnt × Option SbEnt :=
  match e.part.halves with
  | [lo, hi] => ({ e with part := lo, tag := false, clean := false }, some { e with part := hi, data := e.data >>> 64 })
  | _ => (e, none)

/-- The poison that a buffered store removes (R281). -/
def SbEnt.heal (e : SbEnt) : BitVec 4 := if e.clean then 0xF#4 else 0#4

/-- The reservation of every core but w on a line is lost (R257). -/
def Chan.loseResv (ch : Chan) (except : Option (Fin 8)) (line : Nat) : Chan :=
  { ch with cores := ch.cores.mapFinIdx fun i c hi =>
      if some (⟨i, hi⟩ : Fin 8) ≠ except ∧ c.resv = some line then { c with resv := none } else c }

/-- The oldest posted store of a core performed at its target, or the lower half of it (R242). -/
def Chan.postOne (ch : Chan) (w : Fin 8) : Chan :=
  match (ch.core w).posted with
  | [] => ch
  | e :: rest =>
    let (e, more) := e.halve
    let put := fun (ch : Chan) => (ch.loseResv (some w) (e.part.pa / 64)).cxlWritePart e.part.pa (leBytes e.data.toNat e.part.n) e.tag e.heal
    match more with
    | some e' => put (ch.onCore w fun c => { c with posted := e' :: rest })
    | none =>
      let ch := ch.onCore w fun c => { c with posted := rest }
      put { ch with cxlReqs := match ch.cxlReqs.find? fun q => q.kind == .posted w with | some q => ch.cxlReqs.erase q | none => ch.cxlReqs }

/-- CXL data that has come for a transaction; without one that awaits it, it is late (R275, R280). -/
def Chan.gotData (ch : Chan) (line : Nat) (d : BitVec 512 × BitVec 4 × Bool) : Chan :=
  match ch.txs.find? fun t => t.req.line == line with
  | some t =>
    if t.mem then { ch with txs := ch.txs.map fun u => if u = t then { t with mem := false, data := some (d.1, d.2.1, false, d.2.2) } else u }
    else ch.noteL3dLate
  | none => ch.noteL3dLate

/-- In a partitioned mode a response may come later than its hold: free, as it follows from the expander alone (R297; log 16). -/
def Chan.mayBeLate (ch : Chan) (salt : Nat) : Chan := if ch.parted && ch.pick (7100 + salt) 2 == 1 then ch.noteHoldMiss else ch

/-- A token of a pool made free (R296): the oldest request that holds one completes, a posted store of two halves in two steps. -/
def Chan.freeOne (ch : Chan) (pool : Nat) : Chan :=
  match ch.poolReqs pool with
  | [] => ch
  | q :: _ =>
    let ch := ch.mayBeLate (32 + pool)
    match q.kind with
    | .posted w => let ch := ch.postOne w; if ch.cxlReqs.contains q then ch.postOne w else ch
    | .read =>
      let ch := { ch with cxlReqs := ch.cxlReqs.erase q }
      let (ch, d) := ch.cxlRead q.line
      ch.gotData q.line (d.1, d.2.1, d.2.2 || q.hurt)
    | _ => { ch with cxlReqs := ch.cxlReqs.erase q }

/-- A request of a pool finds a token: where the pool has none left, its oldest request has completed (R296). -/
def Chan.takeToken (ch : Chan) (pool : Nat) : Chan := if ch.tokenFree pool then ch else ch.freeOne pool

/-- A request made and completed within one happening holds a token meanwhile, and its flits ended the failures in a row (R296, R303). -/
def Chan.passReq (ch : Chan) (pool : Nat) : Chan :=
  let ch := ch.takeToken pool
  let ch : Chan := { ch with flitFails := if ch.linkUp then 0 else ch.flitFails }
  (ch.noteUse (ch.tokensUsed + 1)).mayBeLate pool

/-- MWR: a line written to CXL memory, whole or not at all, under a token of its owner; dropped while the link is down (R274, R296, R302, R303). -/
def Chan.mwr (ch : Chan) (line owner : Nat) (data : BitVec 512) (tags : BitVec 4) (poison : Bool) : Chan :=
  if !ch.linkUp then ch.noteLost line else
  let ch := ch.takeToken (ch.pool owner)
  let q : CxlReq := ⟨line, ch.pool owner, .write data (ch.cxlData line) (ch.cxlTags line) (ch.cxlPoisoned line), none, false⟩
  (ch.cxlWrite line data tags poison).putReq q

/-! Slices, sets, partitions (R270, R284, R285). -/

/-- The home slice of a line (R270). -/
def Chan.slice (ch : Chan) (line : Nat) : Nat :=
  let hi : BitVec 48 := BitVec.ofNat 48 (line * 64 / 512 * 512)
  b2n (nbit line 0 != parity (hi &&& ch.salt[0])) + 2 * b2n (nbit line 1 != parity (hi &&& ch.salt[1]))
    + 4 * b2n (nbit line 2 != parity (hi &&& ch.salt[2]))

/-- The set within a slice, PA[18:9] (R270). -/
def setOf (line : Nat) : Nat := line / 8 % 1024

/-- Whether two lines compete for ways: one slice, one set. -/
def Chan.sameSet (ch : Chan) (a b : Nat) : Bool := setOf a == setOf b && ch.slice a == ch.slice b

/-- Ways an allotment image reserves. -/
def allotWays (x : W32) : Nat := if x.getLsbD 0 then getF x 20 4 else 0

/-- The number of ways of a partition owner: 0 to 2 the classes, 8 to 15 the allotments (R284, R285). GALE: all 16. -/
def Chan.ways (ch : Chan) (owner : Nat) : Nat :=
  if !ch.parted then 16 else
  if 8 ≤ owner then allotWays (nth 0#32 ch.plan.allot (owner - 8)) else
  let gb := getF ch.plan.part 0 4
  let sb := getF ch.plan.part 4 4
  let whole := match owner with | 0 => gb | 1 => sb - gb | _ => 16 - sb
  whole - ((ch.plan.allot.filter fun x => x.getLsbD 0 && getF x 1 2 == owner).map allotWays).sum

/-- Whether Mantle `a` is `anc` or one of its descendants (R32, R197): the chain holds at most 8. -/
def isDesc (m : MantleTable) (a anc : BitVec 12) : Nat → Bool
  | 0 => false
  | n + 1 => a == anc || (a != 0#12 && match m[a.toNat]? with | none => false | some e => isDesc m e.parent anc n)

/-- Check 3 of R197 over the whole chain. -/
def inParty (m : MantleTable) (a anc : BitVec 12) : Bool := isDesc m a anc 9

/-- The class of a Mantle (R201); an identity without an entry counts as Open. -/
def clsOf (m : MantleTable) (a : BitVec 12) : Nat := match m[a.toNat]? with | none => 0 | some e => e.cls.toNat

/-- The partition owner of a request made for a Mantle (R284, R285). -/
def Chan.ownerFor (m : MantleTable) (ch : Chan) (mt : BitVec 12) : Nat :=
  let hit := (List.range 8).find? fun n =>
    let x := nth 0#32 ch.plan.allot n
    x.getLsbD 0 && inParty m mt (BitVec.ofNat 12 (getF x 4 12)) && getF x 1 2 == clsOf m mt
  match hit with | some n => 8 + n | none => clsOf m mt

/-- The partition owner of a request of core w: that of its PCC's Mantle. -/
def Chan.ownerOf (m : MantleTable) (ch : Chan) (w : Fin 8) : Nat := ch.ownerFor m (ch.core w).pcc.mantle

/-! The L3 and the directory. -/

def Chan.l3Find (ch : Chan) (line : Nat) : Option L3Line := ch.l3.find? fun x => x.line == line
def Chan.l3Drop (ch : Chan) (line : Nat) : Chan := { ch with l3 := ch.l3.filter fun x => x.line != line }

/-- A line placed in the L3 in its owner's ways; one that is there keeps the owner it was allocated for (R284). A victim that is dirty goes to
CXL memory (R278). -/
def Chan.l3Put (ch : Chan) (x : L3Line) : Chan :=
  match ch.l3Find x.line with
  | some y => { ch with l3 := { x with owner := y.owner } :: (ch.l3Drop x.line).l3 }
  | none =>
    let mine := ch.l3.filter fun y => ch.sameSet y.line x.line && (!ch.parted || y.owner == x.owner)
    let ch := if mine.length < ch.ways x.owner then ch else
      match mine[ch.pick 200 mine.length]? with
      | none => ch
      | some v => let ch := ch.l3Drop v.line; if v.dirty then ch.mwr v.line v.owner v.data v.tags v.poison else ch
    { ch with l3 := x :: ch.l3 }

/-- Data of an L2 line merged into the L3: what was dirty there stays dirty (R277, R278). -/
def Chan.l3Merge (ch : Chan) (x : L3Line) : Chan :=
  ch.l3Put { x with dirty := x.dirty || ((ch.l3Find x.line).map (·.dirty)).getD false }

def Chan.dirFind (ch : Chan) (line : Nat) : Option DirEnt := ch.dir.find? fun x => x.line == line
def Chan.dirDrop (ch : Chan) (line : Nat) : Chan := { ch with dir := ch.dir.filter fun x => x.line != line }
def Chan.dirSet (ch : Chan) (e : DirEnt) : Chan := { ch with dir := e :: (ch.dirDrop e.line).dir }

/-- An entry kept only while some L2 holds the line (R273). -/
def Chan.dirKeep (ch : Chan) (e : DirEnt) : Chan := if e.sharers = 0#8 ∧ !e.pin then ch.dirDrop e.line else ch.dirSet e

/-! L2s. -/

def Core.l2Find (c : Core) (line : Nat) : Option L2Line := c.l2.find? fun x => x.line == line
/-- A line taken from an L2 and its L1D; a reservation on it is lost (R257, R264). -/
def Core.l2Drop (c : Core) (line : Nat) : Core :=
  let resv := if c.resv = some line then none else c.resv
  { c with l2 := c.l2.filter (fun x => x.line != line), l1d := setDel c.l1d line, resv := resv }
def Core.l2Set (c : Core) (x : L2Line) : Core := { c with l2 := x :: c.l2.filter fun y => y.line != x.line }

/-! Messages. -/

def Chan.send (ch : Chan) (m : NetMsg) : Chan := { ch with net := ch.net ++ [m] }
def Chan.txFind (ch : Chan) (line : Nat) : Option Tx := ch.txs.find? fun t => t.req.line == line
def Chan.txSet (ch : Chan) (t : Tx) : Chan := { ch with txs := t :: ch.txs.filter fun u => u.req.line != t.req.line }
def Chan.txDrop (ch : Chan) (line : Nat) : Chan := { ch with txs := ch.txs.filter fun u => u.req.line != line }

/-- Snoops to a set of cores. -/
def Chan.snoop (ch : Chan) (inv : Bool) (line : Nat) (who : BitVec 8) : Chan :=
  { ch with net := ch.net ++ ((List.finRange 8).filter fun w => who.getLsbD w.val).map (fun w : Fin 8 =>
      if inv then NetMsg.sni w line else NetMsg.sns w line) }

/-- Whether the directory set of a line is being rebuilt: requests to it wait (R283). -/
def Chan.rebuilding (ch : Chan) (line : Nat) : Bool :=
  match ch.rebuild with
  | some r => setOf line == r.set && ch.slice line == r.slice
  | none => false

/-- The hold of another core on a line, which delays a write that is not on the fixed schedule (R258). -/
def Chan.heldBy (ch : Chan) (w : Fin 8) (line : Nat) : Option (Fin 8) :=
  if ch.fixedCore w then none else
  (List.finRange 8).find? fun v => v ≠ w && (match (ch.core v).hold with | some h => h.line == line | none => false)

/-- n bytes of a 512-bit line from byte `off`. -/
def lineBytes (data : BitVec 512) (off n : Nat) : List Byte := ((leBytes data.toNat 64).drop off).take n

/-- The value an AMO stores, and whether it stores (R68): ATMIN and ATMAX signed; ATCAS compares with `cmp`. -/
def amoNew (op : AmoOp) (d : Bool) (old src cmp : W64) : Option W64 :=
  let lt := if d then old.slt src else (old.truncate 32 : W32).slt (src.truncate 32)
  match op with
  | .swp => some src
  | .add => some (old + src)
  | .and => some (old &&& src)
  | .or => some (old ||| src)
  | .min => some (if lt then old else src)
  | .max => some (if lt then src else old)
  | .cas => if d then (if old = cmp then some src else none)
            else (if (old.truncate 32 : W32) = cmp.truncate 32 then some src else none)

/-- The value of a line where it is newest: with its transaction, in an L2 or on the way to one in E or M, in the L3, in CXL memory. -/
def Chan.lineNow (ch : Chan) (line : Nat) : BitVec 512 :=
  let tx := (ch.txFind line).bind fun t => t.data.map (·.1)
  let l2 := ch.cores.toList.findSome? fun c => ((c.l2 ++ c.evb).find? fun x => x.line == line && x.st != .s).map (·.data)
  let sent := ch.net.findSome? fun m => match m with
    | .dat _ l st d _ _ _ => if l = line ∧ st ≠ .s then some d else none
    | .rspD _ l d _ _ _ => if l = line then some d else none
    | _ => none
  match tx with
  | some d => d
  | none => match l2 with
    | some d => d
    | none => match sent with
      | some d => d
      | none => match ch.l3Find line with | some x => x.data | none => ch.cxlData line

/-- Whether a request writes its line: an ATCAS whose comparison fails counts as a load (R257, R259). -/
def Chan.reqWrites (ch : Chan) (k : ReqKind) : Bool :=
  match k with
  | .amo op d pa src cmp => (amoNew op d (BitVec.ofNat 64 (leNat (lineBytes (ch.lineNow (pa / 64)) (pa % 64) (if d then 8 else 4)))) src cmp).isSome
  | _ => true

/-- Requests that write or ask for ownership (R258). -/
def ReqKind.owns : ReqKind → Bool
  | .rdo | .upg | .amo .. | .ucw .. => true
  | _ => false

/-- Whether another core's hold delays a request (R258, R288). -/
def Chan.delayed (ch : Chan) (r : Req) : Bool := r.kind.owns && (ch.heldBy r.w r.line).isSome && ch.reqWrites r.kind

/-- The entries of a line's directory set in which a request of an owner may allocate (R278, R284). -/
def Chan.dirMine (ch : Chan) (line owner : Nat) : List DirEnt :=
  ch.dir.filter fun y => ch.sameSet y.line line && (!ch.parted || y.owner == owner)

/-- Whether a request can open its transaction: its set is not rebuilt, its line is not pinned, and its set has an unpinned or free way (R275,
R279, R283). -/
def Chan.canOpen (ch : Chan) (r : Req) : Bool :=
  !ch.rebuilding r.line && (ch.txFind r.line).isNone &&
  ((ch.dirFind r.line).isSome ||
    (let mine := ch.dirMine r.line r.owner
     mine.length < ch.ways r.owner || mine.any fun y => !y.pin))

/-- Evictions, which a home takes at any time. -/
def ReqKind.evicts : ReqKind → Bool
  | .evd | .evn => true
  | _ => false

/-- Whether a request waits behind one of those ahead of it: requests to one line, and to one set and partition, are taken in arrival order
(R275, R279). -/
def Chan.waitsBehind (ch : Chan) (r : Req) (ahead : List Req) : Bool :=
  !r.kind.evicts && ahead.any fun q => !q.kind.evicts
    && (q.line == r.line || (ch.sameSet q.line r.line && (!ch.parted || q.owner == r.owner)))

/-- The value of a line where the home finds it: the L3. -/
def Chan.l3Data (ch : Chan) (line : Nat) : Option (BitVec 512 × BitVec 4 × Bool × Bool) :=
  (ch.l3Find line).map fun x => (x.data, x.tags, x.dirty, x.poison)

/-- Bytes of a 512-bit line replaced from byte `off`, tags of the touched granules cleared or set. -/
def patchLine (data : BitVec 512) (tags : BitVec 4) (off : Nat) (bytes : List Byte) (tag : Bool) : BitVec 512 × BitVec 4 :=
  let old := leBytes data.toNat 64
  let new := old.take off ++ bytes ++ old.drop (off + bytes.length)
  let touched : BitVec 4 := ofBits 4 fun i => off < 16 * (i + 1) && 16 * i < off + bytes.length
  (BitVec.ofNat 512 (leNat new), if tag then tags ||| touched else tags &&& ~~~touched)

/-- Whether the expander answers a write with an error completion, where no command of its own brings that: free (R302; log 16). -/
def Chan.refuses (ch : Chan) (line : Nat) : Bool := ch.linkUp && ch.pick (7200 + line) 2 == 1

/-- The line written where the home found it: in the L3 if it is there, else in CXL memory, whose expander may refuse (R267, R302). Poison leaves
an L3 line only when all four granules are healed at once (R281). -/
def Chan.homeWrite (ch : Chan) (r : Req) (off : Nat) (bytes : List Byte) (tag : Bool) (heal : BitVec 4) : Chan :=
  let ch := ch.loseResv none r.line
  match ch.l3Find r.line with
  | some x => let (d, t) := patchLine x.data x.tags off bytes tag
              { ch with l3 := { x with data := d, tags := t, dirty := true, poison := x.poison && heal != 0xF#4 } :: (ch.l3Drop r.line).l3 }
  | none =>
    let ch := ch.passReq (ch.pool r.owner)
    if ch.refuses r.line then ch.noteRefused r.line else ch.cxlWritePart (r.line * 64 + off) bytes tag heal

/-- A line poisoned where its home finds it. -/
def Chan.poisonHome (ch : Chan) (line : Nat) : Chan :=
  match ch.l3Find line with
  | some x => { ch with l3 := { x with poison := true } :: (ch.l3Drop line).l3 }
  | none => { ch with cxlPois := spSet 0#4 ch.cxlPois line 0xF#4 }

/-- A home access performed once every copy is recalled: AMO, UCR, UCW (R259, R267). A parity error in its operand leaves the line poisoned
(R282). -/
def Chan.homePerform (ch : Chan) (r : Req) (data : BitVec 512) (tags : BitVec 4) (poison : Bool) : Chan :=
  let poison := poison || r.harm == .data
  let ch := if r.harm = .data then ch.poisonHome r.line else ch
  match r.kind with
  | .amo op d pa src cmp =>
    let n := if d then 8 else 4
    let old := BitVec.ofNat 64 (leNat (lineBytes data (pa % 64) n))
    let res : HomeRes := { w := r.w, line := r.line, value := zx old |>.zeroExtend 128, tag := false, poison := poison }
    let ch := { ch with results := ch.results ++ [res] }
    if poison then ch else
    match amoNew op d old src cmp with
    | none => ch
    | some v => ch.homeWrite r (pa % 64) (leBytes v.toNat n) false 0#4
  | .ucr pa n =>
    { ch with results := ch.results ++ [⟨r.w, r.line, BitVec.ofNat 128 (leNat (lineBytes data (pa % 64) n)), tags.getLsbD (pa / 16 % 4), poison⟩] }
  | .ucw pa n v tag heal => ch.homeWrite r (pa % 64) (leBytes v.toNat n) tag heal
  | _ => ch

/-- The end of a transaction whose answers and data are all in (R275 to R277): the grant, the directory entry, the unpin. Dirty data of a read,
and any of an eviction that crossed it, enters the L3. A prefetch that meets poison fills nothing (R269). -/
def Chan.finish (ch : Chan) (t : Tx) : Chan :=
  let r := t.req
  let e := (ch.dirFind r.line).getD ⟨r.line, false, 0#8, r.owner, false, false⟩
  let me : BitVec 8 := BitVec.ofNat 8 (2 ^ r.w.val)
  let ch := ch.txDrop r.line
  let (data, tags, dirty, poison) := t.data.getD (0#512, 0#4, false, false)
  match r.kind with
  | .rds =>
    let alone := e.sharers &&& ~~~me = 0#8
    let ch := if dirty ∨ e.crossing then ch.l3Merge ⟨r.line, data, tags, dirty, poison, e.owner⟩ else ch
    if r.pf && poison then (ch.dirKeep { e with pin := false, crossing := false }).send (.ack r.w r.line .rds) else
    (ch.dirSet { e with excl := alone, sharers := e.sharers ||| me, pin := false, crossing := false }).send
      (.dat r.w r.line (if alone then .e else .s) data tags poison r.owner)
  | .rdo =>
    (ch.dirSet { e with excl := true, sharers := me, pin := false, crossing := false }).send (.dat r.w r.line .m data tags poison r.owner)
  | .upg =>
    (ch.dirSet { e with excl := true, sharers := me, pin := false, crossing := false }).send (.ack r.w r.line .upg)
  | .evd | .evn => ch
  | _ =>
    let ch := if dirty ∨ e.crossing then ch.l3Merge ⟨r.line, data, tags, dirty, poison, e.owner⟩ else ch
    ((ch.dirDrop r.line).homePerform r data tags poison)

/-- A request that needs no data of its line: UCW. -/
def ReqKind.blind : ReqKind → Bool
  | .ucw .. => true
  | _ => false

/-- A transaction checked for completion: it ends when no answer, no EVD and no CXL data is awaited (R275, R277); a UCW needs no data. -/
def Chan.checkTx (ch : Chan) (line : Nat) : Chan :=
  match ch.txFind line with
  | none => ch
  | some t =>
    if t.held ∨ t.lost ∨ t.snoops ≠ 0#8 ∨ t.evds ≠ 0#8 then ch
    else if t.data.isSome ∨ t.req.kind = .upg ∨ t.req.kind.blind then ch.finish t
    else match ch.l3Data line with
      | some d => ch.finish { t with data := some (d.1, d.2.1, false, d.2.2.2) }
      | none => ch.txSet { t with mem := true }

/-- An EVD consumed: data into the L3, the evictor out of the sharer vector, ACK (R274, R277). One whose L2 a timeout has taken out of the
sharer vector is late: the line stays poisoned (R288). -/
def Chan.takeEvd (ch : Chan) (r : Req) : Chan :=
  let me : BitVec 8 := BitVec.ofNat 8 (2 ^ r.w.val)
  match (ch.core r.w).evb.find? fun x => x.line == r.line with
  | none => ch
  | some x =>
    let e := ch.dirFind r.line
    match ch.txFind r.line with
    | some t =>
      if t.snoops &&& me ≠ 0#8 ∨ t.evds &&& me ≠ 0#8 then
        let ch := (ch.txSet { t with evds := t.evds &&& ~~~me, data := some (x.data, x.tags, x.st == .m, x.poison) }).send
          (.ack r.w r.line .evd)
        let ch := match e with
          | some e => ch.dirSet { e with sharers := e.sharers &&& ~~~me, crossing := true }
          | none => ch
        ch.checkTx r.line
      else (ch.send (.ack r.w r.line .evd)).noteL3dLate
    | none =>
      match e with
      | some e =>
        if e.sharers &&& me = 0#8 then (ch.send (.ack r.w r.line .evd)).noteL3dLate else
        ((ch.l3Merge ⟨r.line, x.data, x.tags, x.st == .m, x.poison, x.owner⟩).dirKeep { e with sharers := e.sharers &&& ~~~me }).send (.ack r.w r.line .evd)
      | none => (ch.send (.ack r.w r.line .evd)).noteL3dLate

/-- An EVN consumed (R274). -/
def Chan.takeEvn (ch : Chan) (r : Req) : Chan :=
  let me : BitVec 8 := BitVec.ofNat 8 (2 ^ r.w.val)
  let ch := match ch.dirFind r.line with
    | some e => ch.dirKeep { e with sharers := e.sharers &&& ~~~me }
    | none => ch
  ch.send (.ack r.w r.line .evn)

/-! What the L2s do with a grant, and evictions (R263, R268, R269, R274, R276). -/

/-- The eviction buffer of an L2 (R269). -/
def evbSize : Nat := 8

/-- An eviction from an L2: the line moves to the eviction buffer and EVD or EVN goes to its home (R274, R276). -/
def Chan.evict (ch : Chan) (w : Fin 8) (x : L2Line) : Chan :=
  let c := ch.core w
  let r : Req := { kind := if x.st = .s then .evn else .evd, w := w, line := x.line, owner := x.owner, pf := false, harm := .none }
  let ch := ch.setCore w { c.l2Drop x.line with evb := c.evb ++ [x] }
  if !ch.rebuilding x.line ∧ ((ch.txFind x.line).isSome ∨ !(ch.homeQ.any fun q => q.line == x.line)) then
    (if x.st = .s then ch.takeEvn r else ch.takeEvd r)
  else { ch with homeQ := ch.homeQ ++ [r] }

/-- The lines of the set of an L2 in which a line would be filled. -/
def Core.l2Rivals (c : Core) (line : Nat) : List L2Line := c.l2.filter fun y => y.line % 1024 == line % 1024 && y.line != line

/-- A line filled into an L2: 8 ways by PA[15:6]; a victim is evicted (R263). One that is there keeps its owner (R284). -/
def Chan.l2Fill (ch : Chan) (w : Fin 8) (x : L2Line) : Chan :=
  let x := match (ch.core w).l2Find x.line with | some y => { x with owner := y.owner } | none => x
  let set := (ch.core w).l2Rivals x.line
  let ch := if set.length < 8 then ch else
    match set[ch.pick 202 set.length]? with
    | none => ch
    | some v => ch.evict w v
  ch.onCore w fun c => c.l2Set x

/-- A DAT at its L2: the grant fills the L2; the miss entry frees (R268, R269, R274). -/
def Chan.datAt (ch : Chan) (w : Fin 8) (line : Nat) (st : L2St) (data : BitVec 512) (tags : BitVec 4) (poison : Bool) (owner : Nat) : Chan :=
  let ch := ch.onCore w fun c => { c with miss := c.miss.filter fun q => q.line != line }
  ch.l2Fill w { line := line, st := st, data := data, tags := tags, poison := poison, owner := owner }

/-- An ACK at its L2: UPG granted, a prefetch that fills nothing, or the eviction-buffer entry freed (R269, R274, R276). -/
def Chan.ackAt (ch : Chan) (w : Fin 8) (line : Nat) (k : ReqKind) : Chan :=
  ch.onCore w fun c =>
    if k.evicts then { c with evb := c.evb.filter fun x => x.line != line } else
    let c := { c with miss := c.miss.filter fun q => q.line != line }
    if k = .upg then (match c.l2Find line with | some x => c.l2Set { x with st := .m } | none => c) else c

/-- A message whose arrival would need an entry of a full eviction buffer waits (R269). -/
def Chan.arrives (ch : Chan) : NetMsg → Bool
  | .dat w line _ _ _ _ _ =>
    let c := ch.core w
    decide ((c.l2Rivals line).length < 8) || decide (c.evb.length < evbSize)
  | _ => true

/-! A line taken back by its home (R267, R276, R278). -/

/-- The evictions of a line that wait at its home are consumed. -/
def Chan.takeEvictions (ch : Chan) (line : Nat) : Chan :=
  (ch.homeQ.filter fun r => r.line == line && r.kind.evicts).foldl (fun (ch : Chan) r =>
    let ch := { ch with homeQ := ch.homeQ.erase r }
    if r.kind = .evd then ch.takeEvd r else ch.takeEvn r) ch

/-- What an L2 gives up of a line: the line it holds, or a grant under way to it, which the snoop follows. -/
def Chan.surrender (ch : Chan) (w : Fin 8) (line : Nat) : Chan :=
  let c := ch.core w
  let granted := ch.net.findSome? fun x => match x with
    | .dat v l st d t p o => if v = w ∧ l = line then some (L2Line.mk l st d t p o) else none
    | _ => none
  let raised := ch.net.any fun x => x == .ack w line .upg
  let held := match granted with
    | some x => some x
    | none => (c.l2Find line).map fun (x : L2Line) => if raised then { x with st := L2St.m } else x
  let ch := { ch with net := ch.net.filter fun x => match x with
    | .dat v l _ _ _ _ _ => !(v == w && l == line)
    | .ack v l .upg => !(v == w && l == line)
    | _ => true }
  let ch := ch.onCore w fun c =>
    { c.l2Drop line with miss := if granted.isSome ∨ raised then c.miss.filter (fun q => q.line != line) else c.miss }
  match held with
  | some x => if x.st = .m then ch.l3Merge ⟨line, x.data, x.tags, true, x.poison, x.owner⟩ else ch
  | none => ch

/-- A line recalled from every L2 into the L3: a directory victim's back-invalidation (R278), and what a coherent uncached access does first
(R267). An eviction-buffer entry still waits for its ACK (R276). -/
def Chan.recall (ch : Chan) (line : Nat) : Chan :=
  ((List.finRange 8).foldl (fun (ch : Chan) w => ch.surrender w line) (ch.takeEvictions line)).dirDrop line

/-- A directory entry made room for in its owner's ways of the set (R278). -/
def Chan.dirRoom (ch : Chan) (line owner : Nat) : Chan :=
  let mine := ch.dirMine line owner
  if mine.length < ch.ways owner then ch else
  let free := mine.filter fun y => !y.pin
  match free[ch.pick 201 free.length]? with
  | none => ch
  | some v => ch.recall v.line

/-! Requests at their home (R275, R279, R286, R289). -/

/-- A request admitted by its slice, counted while a window runs (R289). -/
def Chan.countAdmitted (ch : Chan) (line : Nat) : Chan :=
  if ch.fld 0x70080 0 16 = 0 then ch else
  let i : Fin 8 := ⟨ch.slice line % 8, Nat.mod_lt _ (by decide)⟩
  { ch with admitted := ch.admitted.set i (ch.admitted[i] + 1) }

/-- The snoops of an open transaction go out (R275). -/
def Chan.startTx (ch : Chan) (t : Tx) : Chan :=
  let r := t.req
  let me : BitVec 8 := BitVec.ofNat 8 (2 ^ r.w.val)
  let e := (ch.dirFind r.line).getD ⟨r.line, false, 0#8, r.owner, true, false⟩
  let others := e.sharers &&& ~~~me
  let (inv, who) := match r.kind with
    | .rds => (false, if e.excl then others else 0#8)
    | .rdo => (true, others)
    | .upg => (true, others)
    | _ => (true, e.sharers)
  let k := match r.kind with
    | .upg => if e.sharers &&& me = 0#8 then .rdo else .upg
    | k => k
  let ch := (ch.txSet { t with req := { r with kind := k }, snoops := who, held := false }).snoop inv r.line who
  ch.checkTx r.line

/-- A request accepted by its home: the transaction opens and its snoops go out (R275); one that a hold delays waits with the transaction open
(R288); of one whose header was lost the transaction ends by its timeout (R282). -/
def Chan.openReq (ch : Chan) (r : Req) : Chan :=
  match r.kind with
  | .evd => ch.takeEvd r
  | .evn => ch.takeEvn r
  | _ =>
    let ch := if (ch.dirFind r.line).isSome then ch else ch.dirRoom r.line r.owner
    let e := (ch.dirFind r.line).getD ⟨r.line, false, 0#8, r.owner, true, false⟩
    let ch := (ch.dirSet { e with pin := true }).countAdmitted r.line
    let t : Tx := ⟨r, 0#8, 0#8, none, false, ch.fld 0x70000 0 13, ch.delayed r, r.harm == .header⟩
    if t.held || t.lost then ch.txSet t else ch.startTx t

/-- A transaction that no hold delays any longer goes on (R288). -/
def Chan.resumeTx (ch : Chan) : Chan :=
  match ch.txs.find? fun t => t.held && !t.lost && !ch.delayed t.req with
  | some t => ch.startTx t
  | none => ch

/-- A transaction for which everything awaited has come ends. -/
def Chan.settleTx (ch : Chan) : Chan :=
  match ch.txs.find? fun t => t.data.isSome && !t.held && !t.lost && !t.mem && t.snoops == 0#8 && t.evds == 0#8 with
  | some t => ch.checkTx t.req.line
  | none => ch

/-- Whether the home takes a request that has `ahead` before it now: an eviction always, another when it can open its transaction; neither while
its set is rebuilt. -/
def Chan.ripe (ch : Chan) (r : Req) (ahead : List Req) : Bool :=
  !ch.rebuilding r.line && (r.kind.evicts || (ch.canOpen r && !ch.waitsBehind r ahead))

/-- The next request of the home queues that the home takes (R275, R279). -/
def Chan.nextReq (ch : Chan) : Option Req := (ch.homeQ.zipIdx.find? fun x => ch.ripe x.1 (ch.homeQ.take x.2)).map (·.1)

/-- The home-queue entries of a slice that a partition owner may use: 4 for each of its slots, in GALE all 64 (R279, R286). -/
def Chan.queueSlots (ch : Chan) (owner : Nat) : Nat :=
  if !ch.parted then 64 else 4 * (ch.plan.slots.filter fun x => x == owner).length

/-- Whether a request finds a free entry in its home queue (R279). -/
def Chan.queueRoom (ch : Chan) (r : Req) : Bool :=
  decide ((ch.homeQ.filter fun q => ch.slice q.line == ch.slice r.line && (!ch.parted || q.owner == r.owner)).length < ch.queueSlots r.owner)

/-- Whether a request of an L2, as an atomic or an uncached access of a core is not, waits in a miss entry (R269, R279). -/
def ReqKind.ofL2 : ReqKind → Bool
  | .rds | .rdo | .upg => true
  | _ => false

/-- A request on its way: taken at once, or queued at its home; an L2's waits in its miss entry while the queue has no entry for it. -/
def Chan.submit (ch : Chan) (r : Req) : Chan :=
  if ch.ripe r ch.homeQ then ch.openReq r
  else if r.kind.ofL2 && !ch.queueRoom r then ch
  else { ch with homeQ := ch.homeQ ++ [r] }

/-- A request in a miss entry that has not been sent yet: no home holds it, and no grant is under way to its L2 (R279). -/
def Chan.unsent (ch : Chan) (r : Req) : Bool :=
  !(ch.homeQ.any fun q => q.w == r.w && q.line == r.line) && !(ch.txs.any fun t => t.req.w == r.w && t.req.line == r.line)
    && !(ch.net.any fun m => match m with | .dat w l _ _ _ _ _ => w == r.w && l == r.line | .ack w l _ => w == r.w && l == r.line | _ => false)

/-- The first request that waits in a miss entry and can be sent now (R279). -/
def Chan.sendable (ch : Chan) : Option Req :=
  (ch.cores.toList.flatMap fun c => c.miss).find? fun r => ch.unsent r && (ch.ripe r ch.homeQ || ch.queueRoom r)

/-- Miss entries of an L2, and those that prefetches may hold (R269). -/
def missEntries : Nat := 40
def prefetchEntries : Nat := 24

/-- Whether an L2 may ask for a line: none of its requests is open for it, no EVD or EVN of it waits for its ACK (R276), and a miss entry is
free. -/
def Chan.canAsk (ch : Chan) (w : Fin 8) (line : Nat) (pf : Bool) : Bool :=
  let c := ch.core w
  !(c.evb.any fun x => x.line == line) && !(c.miss.any fun q => q.line == line) && decide (c.miss.length < missEntries)
    && (!pf || decide ((c.miss.filter fun q => q.pf).length < prefetchEntries))

/-- A request a core or its L2 sends. An L2's takes a miss entry; one that waits in its miss entry is sent when it can be (R269, R276). -/
def Chan.request (ch : Chan) (r : Req) : Chan :=
  let c := ch.core r.w
  if !r.kind.ofL2 then ch.submit r
  else if ch.canAsk r.w r.line r.pf then (ch.setCore r.w { c with miss := c.miss ++ [r] }).submit r
  else match c.miss.find? fun q => q.line == r.line with
    | some q => if ch.unsent q then ch.submit q else ch
    | none => ch

/-- A snoop answered by an L2 (R276): RSP_X for a line whose EVD it awaits the ACK of; the EVN of a line in S needs none (R277). One for an ATCAS
that fails takes no reservation (R257). -/
def Chan.snoopAt (ch : Chan) (w : Fin 8) (line : Nat) (inv : Bool) : Chan :=
  let c := ch.core w
  match c.l2Find line with
  | some x =>
    let spares : Bool := match ch.txFind line with | some t => !ch.reqWrites t.req.kind | none => false
    let ch := ch.setCore w (if inv then { c.l2Drop line with resv := if spares then c.resv else (c.l2Drop line).resv } else c.l2Set { x with st := .s })
    if x.st = .s then ch.send (.rspN w line) else ch.send (.rspD w line x.data x.tags (x.st == .m) x.poison)
  | none => if c.evb.any fun x => x.line == line && x.st != .s then ch.send (.rspX w line) else ch.send (.rspN w line)

/-- A snoop answer at the home (R275, R277); one without a transaction is late (R280). -/
def Chan.snoopAnswer (ch : Chan) (w : Fin 8) (line : Nat) (data : Option (BitVec 512 × BitVec 4 × Bool × Bool)) (crossing : Bool) : Chan :=
  let me : BitVec 8 := BitVec.ofNat 8 (2 ^ w.val)
  match ch.txFind line with
  | none => ch.noteL3dLate
  | some t =>
    if t.snoops &&& me = 0#8 then ch.noteL3dLate else
    let e := ch.dirFind line
    let got := (e.map (·.crossing)).getD false && t.data.isSome
    let evds := if crossing ∧ !got then t.evds ||| me else t.evds
    let t := { t with snoops := t.snoops &&& ~~~me, evds := evds, data := if data.isSome then data else t.data }
    let inv := t.req.kind ≠ .rds
    let ch := match e with
      | some e =>
        let sh := if inv ∨ (data.isNone ∧ e.excl) then e.sharers &&& ~~~me else e.sharers
        ch.dirSet { e with crossing := e.crossing || crossing, excl := false, sharers := sh }
      | none => ch
    (ch.txSet t).checkTx line

/-- CXL data at the home for its transaction (R275); without one it is late (R280). -/
def Chan.memData (ch : Chan) (line : Nat) (d : BitVec 512 × BitVec 4 × Bool) : Chan :=
  match ch.txFind line with
  | none => ch.noteL3dLate
  | some t => if t.mem && !t.lost then ((ch.txSet { t with mem := false, data := some (d.1, d.2.1, false, d.2.2) }).checkTx line) else ch.noteL3dLate

/-- What an L2 holds of a line, its eviction buffer and a grant under way to it included: whether in E or M, and its owner. -/
def Chan.holds (ch : Chan) (w : Fin 8) (line : Nat) : Option (Bool × Nat) :=
  let c := ch.core w
  match (c.l2 ++ c.evb).find? fun x => x.line == line with
  | some x => some (x.st != .s, x.owner)
  | none => ch.net.findSome? fun m => match m with
    | .dat v l st _ _ _ o => if v = w ∧ l = line then some (st != .s, o) else none
    | _ => none

/-- The entries of a set written from the reports of every L2 (R283): one for each line held, and one for each line with an open
transaction, which stays pinned. -/
def Chan.rewritten (ch : Chan) (slice set : Nat) : List DirEnt :=
  let held := ch.cores.toList.flatMap fun c => (c.l2 ++ c.evb).map fun x => x.line
  let sent := ch.net.filterMap fun m => match m with | .dat _ l _ _ _ _ _ => some l | _ => none
  let lines := (held ++ sent ++ ch.txs.map fun t => t.req.line).eraseDups.filter fun l => setOf l == set && ch.slice l == slice
  lines.map fun l =>
    let who := (List.finRange 8).filterMap fun w => ch.holds w l
    let old := (ch.dirFind l).getD ⟨l, false, 0#8, 0, false, false⟩
    { line := l, excl := who.any fun x => x.1, sharers := ofBits 8 fun i => if h : i < 8 then (ch.holds ⟨i, h⟩ l).isSome else false,
      owner := match who with | x :: _ => x.2 | [] => old.owner, pin := (ch.txFind l).isSome, crossing := old.crossing }

/-- The home rewrites the set and the rebuild ends; an L2 of `silent` has not reported (R283). -/
def Chan.endRebuild (ch : Chan) (r : Rebuild) (silent : BitVec 8) : Chan :=
  let new := (ch.rewritten r.slice r.set).map fun e => { e with sharers := e.sharers &&& ~~~silent }
  { ch with
    rebuild := none,
    dir := ch.dir.filter (fun e => !(setOf e.line == r.set && ch.slice e.line == r.slice)) ++ new.filter fun e => e.sharers != 0#8 || e.pin }

/-- SNQ answered by an L2: after the last report the set is rewritten (R283). -/
def Chan.report (ch : Chan) (w : Fin 8) (slice set : Nat) : Chan :=
  match ch.rebuild with
  | none => ch
  | some r =>
    if r.slice ≠ slice ∨ r.set ≠ set then ch else
    let left := r.wait &&& ~~~(BitVec.ofNat 8 (2 ^ w.val))
    if left ≠ 0#8 then { ch with rebuild := some { r with wait := left } } else ch.endRebuild r 0#8

/-- A directory parity error in a set (R282, R283): counted, every entry pinned, SNQ to every L2 in scope. -/
def Chan.dirParity (ch : Chan) (slice set : Nat) : Chan :=
  let scope := (List.finRange 8).filter fun w => !ch.fixedCore w
  if ch.rebuild.isSome ∨ scope = [] then ch else
  let ch := ch.l3dErr 0x70014 0 2 2
  { ch with
    rebuild := some ⟨slice, set, ofBits 8 fun i => scope.any fun w => w.val == i⟩,
    dir := ch.dir.map fun e => if setOf e.line = set ∧ ch.slice e.line = slice then { e with pin := true } else e,
    net := ch.net ++ scope.map fun w => NetMsg.snq w slice set }

/-- A rebuild whose SNQ was lost ends under R280: the L2s that have not answered leave the set (R282, R283). -/
def Chan.rebuildTimeout (ch : Chan) : Chan :=
  match ch.rebuild with
  | none => ch
  | some r => if ch.net.any (fun x => match x with | .snq .. => true | _ => false) then ch else (ch.endRebuild r r.wait).l3dErr 0x70014 16 3 3

/-- The evictors of a line whose message was lost have their answer too: no eviction of theirs waits at the home, and no ACK is under way. -/
def Chan.answerEvs (ch : Chan) (line : Nat) : Chan :=
  (List.finRange 8).foldl (fun (ch : Chan) w =>
    let told := ch.net.any fun x => match x with | .ack v l k => v == w && l == line && k.evicts | _ => false
    if !((ch.core w).evb.any fun x => x.line == line) || told || (ch.homeQ.any fun q => q.w == w && q.line == line && q.kind.evicts) then ch
    else ch.send (.ack w line .evd)) ch

/-- A home timeout (R280): the line is poisoned in the L3, the waiting requester answered with poison, and who did not answer a snoop leaves
the sharer vector. -/
def Chan.homeTimeout (ch : Chan) (line : Nat) : Chan :=
  match ch.txFind line with
  | none => if ch.rebuilding line then ch.rebuildTimeout else ch
  | some t =>
    let me : BitVec 8 := BitVec.ofNat 8 (2 ^ t.req.w.val)
    let ch := ch.l3dAddr 4 line (ch.slice line) 0
    let ch := (ch.txDrop line).l3Put ⟨line, 0#512, 0#4, true, true, t.req.owner⟩
    let ch := if (ch.dirFind line).isSome then ch else ch.dirRoom line t.req.owner
    let e := (ch.dirFind line).getD ⟨line, false, 0#8, t.req.owner, false, false⟩
    let e := { e with sharers := e.sharers &&& ~~~(t.snoops ||| t.evds), pin := false, crossing := false }
    let ch := match t.req.kind with
      | .rds =>
        if t.req.pf then (ch.dirKeep e).send (.ack t.req.w line .rds) else
        (ch.dirSet { e with excl := e.sharers &&& ~~~me == 0#8, sharers := e.sharers ||| me }).send
          (.dat t.req.w line (if e.sharers &&& ~~~me = 0#8 then .e else .s) 0#512 0#4 true t.req.owner)
      | .rdo | .upg => (ch.dirSet { e with excl := true, sharers := me }).send (.dat t.req.w line .m 0#512 0#4 true t.req.owner)
      | .evd => (ch.dirKeep { e with sharers := e.sharers &&& ~~~me }).send (.ack t.req.w line .evd)
      | .evn => (ch.dirKeep { e with sharers := e.sharers &&& ~~~me }).send (.ack t.req.w line .evn)
      | _ =>
        let r : HomeRes := ⟨t.req.w, line, 0#128, false, true⟩
        { ch.dirKeep e with results := ch.results ++ [r] }
    (ch.answerEvs line).l3dErr 0x70014 16 3 3

/-- Delivery of one message (R274). -/
def Chan.deliver (ch : Chan) : NetMsg → Chan
  | .sns w line => ch.snoopAt w line false
  | .sni w line => ch.snoopAt w line true
  | .snq w sl set => ch.report w sl set
  | .rspD w line data tags dirty poison => ch.snoopAnswer w line (some (data, tags, dirty, poison)) false
  | .rspN w line => ch.snoopAnswer w line none false
  | .rspX w line => ch.snoopAnswer w line none true
  | .dat w line st data tags poison owner => ch.datAt w line st data tags poison owner
  | .ack w line k => ch.ackAt w line k

/-- The L2 that a message of its home goes to, and the line: between one home and one L2 messages about a line keep their order. -/
def NetMsg.toL2 : NetMsg → Option (Fin 8 × Nat)
  | .sns w l | .sni w l | .dat w l _ _ _ _ _ | .ack w l _ => some (w, l)
  | _ => none

/-- Whether a message under way can be delivered now: its L2 has room for it, and none for the same L2 and line is ahead of it. -/
def Chan.deliverable (ch : Chan) (x : NetMsg) : Bool :=
  ch.arrives x && (x.toL2.isNone || (ch.net.find? fun y => y.toL2 == x.toL2) == some x)

/-- The first deliverable message under way that `p` selects, taken off the network and delivered; nothing when there is none. -/
def Chan.deliverIf (ch : Chan) (p : NetMsg → Bool) : Chan :=
  match ch.net.find? fun x => p x && ch.deliverable x with
  | none => ch
  | some m => ({ ch with net := ch.net.erase m } : Chan).deliver m

/-- What is left of a hold passes on the core that has it, and the hold reaches its limit (R258). -/
def Core.holdOut (c : Core) (line : Nat) : Core :=
  match c.hold with
  | some h => if h.line = line then { c with hold := none, resv := none, cyc := c.cyc + h.cycles } else c
  | none => c

/-- CXL data for a transaction that awaits it: by the read that is under way, or by one made now (R296). -/
def Chan.fetchData (ch : Chan) (t : Tx) : Chan :=
  let line := t.req.line
  let mine := fun (q : CxlReq) => q.line == line && q.kind == .read
  let ch := if ch.cxlReqs.any mine then ({ ch with cxlReqs := ch.cxlReqs.filter fun q => !mine q } : Chan).mayBeLate line
    else ch.passReq (ch.pool t.req.owner)
  let (ch, d) := ch.cxlRead line
  ch.memData line d

/-- Happenings behind a core that waits, one at a time, until `stop` holds: messages first, then what a hold no longer delays, CXL data, waiting
requests; a transaction whose message was lost times out (R280, R282); a hold that alone is left runs out. The freeze of R95 lasts until the
line's home has answered; `fuel` bounds the happenings. -/
def Chan.pump (stop : Chan → Bool) (ch : Chan) : Nat → Chan
  | 0 => ch
  | n + 1 =>
    if stop ch then ch else
    let next : Option Chan :=
      match ch.net.find? ch.deliverable with
      | some x => some (({ ch with net := ch.net.erase x } : Chan).deliver x)
      | none =>
      if ch.txs.any fun t => t.held && !t.lost && !ch.delayed t.req then some ch.resumeTx
      else if ch.txs.any fun t => t.data.isSome && !t.held && !t.lost && !t.mem && t.snoops == 0#8 && t.evds == 0#8 then some ch.settleTx
      else match ch.txs.find? fun t => t.mem && !t.lost with
      | some t => some (ch.fetchData t)
      | none =>
      match ch.nextReq with
      | some r => some (({ ch with homeQ := ch.homeQ.erase r } : Chan).openReq r)
      | none =>
      match ch.sendable with
      | some r => some (ch.submit r)
      | none =>
      match ch.txs.find? fun t => !t.held || t.lost with
      | some t => some (ch.homeTimeout t.req.line)
      | none =>
      match ch.txs with
      | t :: _ => some { ch with cores := ch.cores.map fun (c : Core) => c.holdOut t.req.line }
      | [] => if ch.rebuild.isSome then some ch.rebuildTimeout else none
    match next with
    | some ch => Chan.pump stop ch n
    | none => ch

/-- The happenings one pump may need: each request on its way takes at most a few dozen messages. -/
def Chan.fuel (ch : Chan) : Nat := 64 * (2 + ch.homeQ.length + ch.txs.length + ch.net.length + (ch.cores.toList.map fun c => c.miss.length).sum)

/-- Happenings until `stop` holds. -/
def Chan.pumpTo (ch : Chan) (stop : Chan → Bool) : Chan := ch.pump stop ch.fuel

/-- Everything under way brought to an end. -/
def Chan.pumpAll (ch : Chan) : Chan := ch.pumpTo fun _ => false

/-- A line brought into an L2 for a read (R268, R275); the line as the L2 then holds it. -/
def Chan.l2Read (ch : Chan) (w : Fin 8) (owner line : Nat) : Chan × Option L2Line :=
  match (ch.core w).l2Find line with
  | some x => (ch, some x)
  | none =>
    let here := fun (ch : Chan) => ((ch.core w).l2Find line).isSome
    let ch := ch.pumpTo fun ch => here ch || ch.canAsk w line false
    let ch := if here ch then ch else (ch.request { kind := .rds, w := w, line := line, owner := owner, pf := false, harm := .none }).pumpTo here
    (ch, (ch.core w).l2Find line)

/-- Whether an L2 holds a line in state M. -/
def Core.l2Mine (c : Core) (line : Nat) : Bool := (c.l2Find line).any fun x => x.st == .m

/-- A line brought into an L2 in state M (R268): silently from E, by UPG from S, by RDO otherwise. -/
def Chan.l2Own (ch : Chan) (w : Fin 8) (owner line : Nat) : Chan × Option L2Line :=
  let mine := fun (ch : Chan) => (ch.core w).l2Mine line
  if mine ch then (ch, (ch.core w).l2Find line) else
  let ch := if (ch.core w).miss.any (fun q => q.line == line) || ((ch.core w).l2Find line).isNone then ch.pumpTo fun ch => ch.canAsk w line false else ch
  match (ch.core w).l2Find line with
  | some x =>
    if x.st = .s then
      let ch := (ch.request { kind := .upg, w := w, line := line, owner := owner, pf := false, harm := .none }).pumpTo mine
      (ch, (ch.core w).l2Find line)
    else (ch.onCore w fun c => c.l2Set { x with st := .m }, some { x with st := .m })
  | none =>
    let ch := (ch.request { kind := .rdo, w := w, line := line, owner := owner, pf := false, harm := .none }).pumpTo mine
    (ch, (ch.core w).l2Find line)

/-- A home access made by a core that waits for its result: UCR, UCW, AMO (R259, R267). An ATCAS that fails takes no reservation (R257); a UCW
reads nothing. -/
def Chan.homeAccess (ch : Chan) (r : Req) : Chan × Option HomeRes :=
  let was := ch.pumpAll.countAdmitted r.line
  let ch := was.recall r.line
  let ch := if was.reqWrites r.kind then ch else
    { ch with cores := ch.cores.mapFinIdx fun i (c : Core) h => { c with resv := (was.core ⟨i, h⟩).resv } }
  let ch := { ch with results := [] }
  let done := fun (ch : Chan) => (({ ch with results := [] } : Chan), ch.results.head?)
  match ch.l3Data r.line with
  | some d => done (ch.homePerform r d.1 d.2.1 d.2.2.2)
  | none =>
    if r.kind.blind then done (ch.homePerform r 0#512 0#4 false) else
    let (ch, d) := (ch.passReq (ch.pool r.owner)).cxlRead r.line
    done (ch.homePerform r d.1 d.2.1 d.2.2)

end Sys2Proof.Machine
end

