-- ==== Sys2Proof/Machine/Trace.lean ====
section
/-! DEFINITION. Trace: what is traced, the packets, the buffer, trigger and stop (R441 to R454). -/

namespace Sys2Proof.Machine

/-- TRC_STAT.STATE (R454). -/
def Chan.trcState (ch : Chan) : Nat := ch.fld 0x200004 0 2

/-- TRC_CTL.PORT (R447). -/
def Chan.trcPort (ch : Chan) : Nat := ch.fld 0x200000 1 2

/-- A filter of R433: does the Mantle `mt` pass FILT with the filter Mantle `sel`? -/
def filtOk (m : MantleTable) (filt : Nat) (sel mt : BitVec 12) : Bool :=
  match filt with
  | 0 => true
  | 1 => inParty m mt sel
  | _ => !inParty m mt sel

/-- Whether the class of a Mantle is in the scope of the debug authorisation (R418, R422, R441). -/
def Chan.inScope (m : MantleTable) (ch : Chan) (mt : BitVec 12) : Bool := ch.bit 0x300000 (2 + clsOf m mt)

/-- Whether an instruction of a Mantle is traced (R441). -/
def Chan.traced (m : MantleTable) (ch : Chan) (w : Fin 8) (mt : BitVec 12) : Bool :=
  let ctl := pcr w 0x2000
  (ch.trcState == 1 || ch.trcState == 2) && ch.bit ctl 0
    && filtOk m (ch.fld ctl 16 2) (BitVec.ofNat 12 (ch.fld ctl 4 12)) mt
    && (clsOf m mt == 0 || (ch.fld 0x300000 0 2 != 0 && ch.inScope m mt))

/-- Bytes in the buffer. -/
def Chan.trcUsed (ch : Chan) : Nat := (ch.trcBuf.map fun p => p.bytes.length).sum

/-- The newest whole packets that fit in `room` bytes (R447). -/
def trimBuf (room : Nat) : List Pkt → List Pkt
  | [] => []
  | p :: t => if ((p :: t).map fun q => q.bytes.length).sum ≤ room then p :: t else trimBuf room t

/-- A packet placed in the buffer, or dropped when it does not fit or its source is dropping (R447, R451). -/
def Chan.emit (ch : Chan) (w : Option (Fin 8)) (b : List Byte) : Chan × Bool :=
  let dropping : Bool := match w with | some w => (ch.core w).trcDrop | none => false
  if ch.trcPort ≠ 0 ∧ (dropping ∨ 65536 < ch.trcUsed + b.length) then
    let ch := (ch.setReg 0x200018 (BitVec.ofNat 32 (sticky 0xFFFFFFFF (ch.reg 0x200018).toNat b.length))).setBit 0x200004 4
    let ch := { ch with trcDrops := ch.trcDrops + b.length }
    (match w with
     | some w => (ch.onCore w fun c => { c with trcDrop := true, trcSync := true }).setBit (pcr w 0x2004) 1
     | none => ch, false)
  else
    let ch := { ch with trcBuf := trimBuf 65536 (ch.trcBuf ++ [⟨b⟩]), trcHead := ch.trcHead + b.length }
    (match w with
     | some w => ch.onCore w fun c => { c with trcSince := c.trcSince + b.length }
     | none => ch, true)

/-- 7 bits a byte, lowest group first (R442). -/
def leb : Nat → Nat → List Byte
  | 0, _ => []
  | n + 1, v => if v < 128 then [BitVec.ofNat 8 v] else BitVec.ofNat 8 (128 + v % 128) :: leb n (v / 128)

/-- A packet of a core whose event is in core clock cycle `t` (R442). -/
def Chan.pktCore (ch : Chan) (w : Fin 8) (typ t : Nat) (payload : List Byte) : Chan :=
  let cyc := min (2 ^ 35 - 1) (match (ch.core w).trcLast with | none => 0 | some l => t - l)
  let (ch, sent) := ch.emit (some w) (BitVec.ofNat 8 (typ * 8 + w.val) :: leb 5 cyc ++ payload)
  if sent then ch.onCore w fun c => { c with trcLast := some t } else ch

/-- The pending outcomes emitted as BR or REP (R443, R445). -/
def Chan.flushBr (ch : Chan) (w : Fin 8) : Chan :=
  let c := ch.core w
  let n := c.trcBr.length
  if n = 0 then ch else
  let ch := ch.setCore w { c with trcBr := [] }
  if n ≤ 5 then
    let bits := (c.trcBr.zipIdx.map fun x => if x.1 then 2 ^ (3 + x.2) else 0).sum
    ch.pktCore w 2 c.trcBrAt [BitVec.ofNat 8 (n + bits)]
  else ch.pktCore w 3 c.trcBrAt (BitVec.ofNat 8 (b2n (c.trcBr.headD false)) :: leb 5 n)

/-- The outcome of a conditional branch issued in cycle `t`; how outcomes are grouped is a free choice (R445). -/
def Chan.noteBranch (ch : Chan) (w : Fin 8) (t : Nat) (taken : Bool) : Chan :=
  let c := ch.core w
  if !c.trcOn then ch else
  let ch := if 5 ≤ c.trcBr.length ∧ !(c.trcBr.all fun b => b == taken) then ch.flushBr w else ch
  let ch := ch.onCore w fun c => { c with trcBr := c.trcBr ++ [taken], trcBrAt := t }
  if ch.pick 220 2 = 1 ∨ 2 ^ 32 - 1 ≤ (ch.core w).trcBr.length then ch.flushBr w else ch

/-- An ADDR field and the address register it leaves (R444): any K that gives the address may be used. -/
def Chan.addrField (ch : Chan) (reg : BitVec 48) (a : W64) : List Byte × BitVec 48 :=
  let a : BitVec 48 := a.truncate 48
  let fits := below 7 fun k => reg.toNat / 2 ^ (8 * k) == a.toNat / 2 ^ (8 * k)
  let k := nth 6 fits (ch.pick 221 fits.length)
  (BitVec.ofNat 8 k :: leBytes a.toNat k, a)

/-- The mode as CHN_MODE_REQ.MODE encodes it, in trace packets (R443). -/
def Chan.syncPayload (ch : Chan) (pc : W64) (mt : BitVec 12) : List Byte :=
  leBytes ch.ptb.toNat 8 ++ leBytes (pc.toNat % 2 ^ 48) 6 ++ leBytes (mt.toNat + 4096 * ch.mode) 2

/-- What trace emits before an instruction of a core, at `pc` under Mantle `mt`, issued in cycle `t` (R446). -/
def Chan.traceStep (m : MantleTable) (ch : Chan) (w : Fin 8) (pc : W64) (mt : BitVec 12) (t : Nat) : Chan :=
  let c := ch.core w
  if ch.traced m w mt then
    if c.trcDrop then ch.onCore w fun c => { c with trcOn := true, trcMtl := mt } else
    if c.trcSync ∨ !c.trcOn ∨ c.trcMtl ≠ mt ∨ 2 ^ (ch.fld 0x200000 4 4 + 10) ≤ c.trcSince then
      let ch := (ch.flushBr w).pktCore w 1 t (ch.syncPayload pc mt)
      let ch := ch.onCore w fun c => { c with trcOn := true, trcSync := false, trcSince := 0, trcMtl := mt, trcAddr := pc.truncate 48 }
      ch.putF (pcr w 0x2004) 0 1 0
    else ch
  else if c.trcOn then
    let ch := ((ch.flushBr w).pktCore w 6 t []).putF (pcr w 0x2004) 0 1 1
    ch.onCore w fun c => { c with trcOn := false, trcSync := true }
  else ch

/-- IND: the target of a JLR, TJUMP or RETX (R443). -/
def Chan.traceInd (ch : Chan) (w : Fin 8) (t : Nat) (target : W64) : Chan :=
  if !(ch.core w).trcOn then ch else
  let ch := ch.flushBr w
  let (b, a) := ch.addrField (ch.core w).trcAddr target
  (ch.pktCore w 4 t b).onCore w fun c => { c with trcAddr := a }

/-- EXC (R443, R446): `shown` tells whether the handler is traced. -/
def Chan.traceExc (ch : Chan) (w : Fin 8) (vec : Nat) (saved handler : W64) (shown : Bool) : Chan :=
  if !(ch.core w).trcOn then ch else
  let ch := ch.flushBr w
  let (b, a) := ch.addrField (ch.core w).trcAddr saved
  let (b2, a) := if shown then ch.addrField a handler else ([0x80#8], a)
  (ch.pktCore w 5 (ch.core w).cyc (BitVec.ofNat 8 vec :: b ++ b2)).onCore w fun c => { c with trcAddr := a }

/-- POWER, before a traced core stops (R453); SYNC follows when it resumes (R446). -/
def Chan.tracePower (ch : Chan) (tgt : Nat) : Chan :=
  (List.finRange 8).foldl (fun (ch : Chan) w =>
    let c := ch.core w
    let ch := if c.trcOn ∧ (ch.trcState = 1 ∨ ch.trcState = 2) then (ch.flushBr w).pktCore w 7 c.cyc [BitVec.ofNat 8 tgt] else ch
    ch.onCore w fun c => { c with trcSync := true }) ch

/-- The stop of trace (R452): pending outcomes are emitted, STATE becomes stopped. -/
def Chan.traceHalt (ch : Chan) : Chan :=
  if ch.trcState ≠ 1 ∧ ch.trcState ≠ 2 then ch else
  let ch := (List.finRange 8).foldl (fun (ch : Chan) w => (ch.flushBr w).onCore w fun c => { c with trcOn := false, trcSync := true }) ch
  ({ ch with postLeft := none, stall := false } : Chan).setBit 0x200004 3 |>.putF 0x200004 0 2 3

/-- RUN set: an empty buffer, running (R452). -/
def Chan.traceStart (ch : Chan) : Chan :=
  let ch := { ch with
    trcBuf := [], trcHead := 0, trcDrops := 0, postLeft := none, stall := false,
    cores := ch.cores.map fun (c : Core) =>
      { c with trcLast := none, trcBr := [], trcOn := false, trcSync := true, trcSince := 0, trcAddr := 0#48, trcDrop := false } }
  (ch.setReg 0x200018 0#32).putF 0x200004 0 2 1

/-- A trigger event of a source with its argument (R452). -/
def Chan.trigger (ch : Chan) (src arg : Nat) : Chan :=
  let sel := ch.fld 0x20000C 0 3
  let mine := sel == src && (src == 1 || (if src == 4 then ch.fld 0x20000C 4 3 == arg else ch.fld 0x20000C 4 6 == arg))
  if ch.trcState ≠ 1 ∨ !mine then ch else
  let (ch, _) := ch.emit none (0x48#8 :: leBytes ch.ptb.toNat 8)
  (({ ch with postLeft := some (ch.reg 0x200010).toNat } : Chan).setBit 0x200004 2).putF 0x200004 0 2 2

/-- Room returns (R451): with 4 KB free the collector inserts OVF and every source that dropped emits SYNC next. -/
def Chan.traceRoom (ch : Chan) : Chan :=
  if 65536 < ch.trcUsed + 4096 ∨ !(ch.cores.toList.any fun c => c.trcDrop) then ch else
  let n := ch.trcDrops
  let ch := { ch with trcDrops := 0, cores := ch.cores.map fun (c : Core) => if c.trcDrop then { c with trcDrop := false, trcSync := true } else c }
  (ch.emit none (0x40#8 :: leb 5 n)).1

/-- n bytes sent through the port, oldest first (R447). -/
def drainPkts : List Pkt → Nat → List Pkt
  | [], _ => []
  | p :: t, n =>
    if n = 0 then p :: t
    else if p.bytes.length ≤ n then drainPkts t (n - p.bytes.length) else ⟨p.bytes.drop n⟩ :: t

/-- A word of TRC_BUF (R447, R454): what the buffer does not hold is a free value. -/
def Chan.trcWord (ch : Chan) (off : Nat) : W32 :=
  if ch.trcState = 1 ∨ ch.trcState = 2 then 0#32 else
  let bytes := (ch.trcBuf.map fun p => p.bytes).flatten
  let old := ch.trcHead - bytes.length
  let pos := ch.fld 0x20001C 0 1 * 32768 + off
  BitVec.ofNat 32 (leNat ((List.range 4).map fun i =>
    let d := (pos + i + 65536 - old % 65536) % 65536
    if d < bytes.length then nth 0#8 bytes d else (ch.draw (2000 + pos + i)).truncate 8))

end Sys2Proof.Machine
end

