-- ==== Sys2Proof/Machine/Pmu.lean ====
section
/-! DEFINITION. The performance counters (R432 to R440). -/

namespace Sys2Proof.Machine

/-- The 48-bit counter *b* of a core (R440). -/
def Chan.counter (ch : Chan) (w : Fin 8) (b : Nat) : Nat :=
  ch.fld (pcr w (0x1104 + b * 8)) 0 16 * 2 ^ 32 + (ch.reg (pcr w (0x1100 + b * 8))).toNat

/-- What an overflow does (R437, R452). -/
def Chan.overflow (ch : Chan) (w : Fin 8) (b : Nat) : Chan :=
  let ch := ch.setBit (pcr w 0x1004) b
  let ch := if ch.bit (pcr w 0x1000) 1 then ch.putF (pcr w 0x1000) 0 1 0 else ch
  ch.trigger 4 w.val

/-- A counter advanced by n (R437). -/
def Chan.bump (ch : Chan) (w : Fin 8) (b n : Nat) : Chan :=
  if n = 0 ∨ !ch.bit (pcr w 0x1000) 0 then ch else
  let v := ch.counter w b + n
  let ch := (ch.setReg (pcr w (0x1100 + b * 8)) (BitVec.ofNat 32 v)).setReg (pcr w (0x1104 + b * 8)) (BitVec.ofNat 32 (v / 2 ^ 32 % 2 ^ 16))
  if 2 ^ 48 ≤ v then ch.overflow w b else ch

/-- A fixed counter, 8 to 13, advanced by n when `en` of PMU_FIXCFG is 1 and its filter admits the PCC's Mantle (R433, R436). -/
def Chan.bumpFix (m : MantleTable) (ch : Chan) (w : Fin 8) (en b n : Nat) : Chan :=
  let cfg := pcr w 0x100C
  if ch.bit cfg en && filtOk m (ch.fld cfg 16 2) (BitVec.ofNat 12 (ch.fld cfg 4 12)) (ch.core w).pcc.mantle then ch.bump w b n else ch

/-- PMC*i* counts EVENT `e` for the PCC's Mantle (R433, R434). -/
def Chan.pmcOn (m : MantleTable) (ch : Chan) (w : Fin 8) (i e : Nat) : Bool :=
  let cfg := pcr w (0x1040 + i * 4)
  ch.bit cfg 15 && ch.fld cfg 0 8 == e
    && filtOk m (ch.fld cfg 28 2) (BitVec.ofNat 12 (ch.fld cfg 16 12)) (ch.core w).pcc.mantle

/-- n events (R434). -/
def Chan.events (m : MantleTable) (ch : Chan) (w : Fin 8) (e n : Nat) : Chan :=
  (List.range 8).foldl (fun ch i => if ch.pmcOn m w i e then ch.bump w i n else ch) ch

/-- One event (R434). -/
def Chan.event (m : MantleTable) (ch : Chan) (w : Fin 8) (e : Nat) : Chan := ch.events m w e 1

/-- n cycles of one episode of a condition that ends (events 0x0D to 0x11 and 0x18): with EDGE, one (R435). -/
def Chan.episode (m : MantleTable) (ch : Chan) (w : Fin 8) (e n : Nat) : Chan :=
  (List.range 8).foldl (fun ch i =>
    if ch.pmcOn m w i e then ch.bump w i (if ch.bit (pcr w (0x1040 + i * 4)) 14 then min n 1 else n) else ch) ch

/-- A condition of those events begins: with EDGE, one (R435). -/
def Chan.episodeOn (m : MantleTable) (ch : Chan) (w : Fin 8) (e : Nat) : Chan :=
  (List.range 8).foldl (fun ch i => if ch.pmcOn m w i e && ch.bit (pcr w (0x1040 + i * 4)) 14 then ch.bump w i 1 else ch) ch

/-- n cycles of such a condition that has begun: without EDGE, as many (R435). -/
def Chan.episodeRun (m : MantleTable) (ch : Chan) (w : Fin 8) (e n : Nat) : Chan :=
  (List.range 8).foldl (fun ch i => if ch.pmcOn m w i e && !ch.bit (pcr w (0x1040 + i * 4)) 14 then ch.bump w i n else ch) ch

/-- Whether a level condition of R434 holds for PMC*i*: a window runs, or an occupancy above THR. -/
def Chan.pmuLevel (ch : Chan) (w : Fin 8) (i : Nat) : Option Bool :=
  let c := ch.core w
  let thr := ch.fld (pcr w (0x1040 + i * 4)) 8 6
  match ch.fld (pcr w (0x1040 + i * 4)) 0 8 with
  | 0x19 => some c.wact
  | 0x20 => some (decide (thr < (c.loq.toList.filter fun e => e.st ≠ .free).length))
  | 0x21 => some (decide (thr < c.miss.length))
  | 0x22 => some (decide (thr < (c.sb.filter fun e => e.part.n != 0).length))
  | 0x23 => some (decide (thr < c.evb.length))
  | _ => none

/-- n core clock cycles pass on an executing core: CYC, event 0x01, and the level conditions (R432, R434, R435). -/
def Chan.pmuTick (m : MantleTable) (ch : Chan) (w : Fin 8) (n : Nat) : Chan :=
  let ch := (ch.bumpFix m w 0 8 n).events m w 1 n
  (List.range 8).foldl (fun ch i =>
    match ch.pmuLevel w i with
    | none => ch
    | some now =>
      let before := nth false (ch.core w).pmuCond i
      let ch := if now && ch.pmcOn m w i (ch.fld (pcr w (0x1040 + i * 4)) 0 8) then
          ch.bump w i (if ch.bit (pcr w (0x1040 + i * 4)) 14 then (if before then 0 else 1) else n) else ch
      ch.onCore w fun c => { c with pmuCond := (c.pmuCond ++ List.replicate (8 - c.pmuCond.length) false).set i now }) ch

/-- The slots of an instruction's cycles: retired, wasted, front, back (R436). -/
def Chan.pmuSlots (m : MantleTable) (ch : Chan) (w : Fin 8) (ret waste front back : Nat) : Chan :=
  (((ch.bumpFix m w 2 10 ret).bumpFix m w 2 11 waste).bumpFix m w 2 12 front).bumpFix m w 2 13 back

/-! The window (R216). -/

/-- The window reaches its limit: overrun. -/
def Chan.windowLimit (ch : Chan) (w : Fin 8) : Chan :=
  if !(ch.core w).wact then ch else
  let off := 0x41004 + w.val * 0x40
  (ch.onCore w fun c => { c with wact := false, wrem := 0, wovr := true }).count16 off 0 off 16

/-- n cycles of the window pass, counted from its first instruction. A count of 0 left is the limit cycle, in which a RETX may still issue
without overrun (R216, R222). -/
def Chan.windowTick (ch : Chan) (w : Fin 8) (n : Nat) : Chan :=
  let c := ch.core w
  if !c.wact || c.wnew then ch else if n ≤ c.wrem then ch.setCore w { c with wrem := c.wrem - n } else ch.windowLimit w

/-! Cycles that pass beside the issue of instructions. -/

/-- Slots of a core clock cycle (R436). -/
def Chan.slotsPer (ch : Chan) (w : Fin 8) : Nat := if ch.fixedCore w then 1 else 2

/-- n core clock cycles of the hold of an LL pass; at its limit the reservation goes with it (R257, R258). -/
def Core.holdPass (c : Core) (n : Nat) : Core :=
  match c.hold with
  | none => c
  | some h => if h.cycles ≤ n then { c with hold := none, resv := none } else { c with hold := some { h with cycles := h.cycles - n } }

/-- n core clock cycles pass on an executing core, none of whose slots retires an instruction. -/
def Chan.elapse (m : MantleTable) (ch : Chan) (w : Fin 8) (n : Nat) : Chan :=
  let ch := (ch.pmuTick m w n).pmuSlots m w 0 0 0 (ch.slotsPer w * n)
  ch.onCore w fun c => ({ c with cyc := c.cyc + n } : Core).holdPass n

/-- n bubbles while the front end waits for a fetch (R90, R436). -/
def Chan.fetchWait (m : MantleTable) (ch : Chan) (w : Fin 8) (n : Nat) : Chan :=
  let ch := (ch.pmuTick m w n).pmuSlots m w 0 0 (ch.slotsPer w * n) 0
  (ch.onCore w fun c => ({ c with cyc := c.cyc + n } : Core).holdPass n).windowTick w n

/-! Freezes (R90, R95). -/

/-- n cycles frozen from cycle b on: they count in no distance, and every stage keeps its instruction; what comes before b is done. Of the
cycles that an instruction costs where costs are fixed, a load from the control-register region, an SC and an AMO issue as a load of the Calm
store does, in 2 issue cycles; the others are frozen (R115; log 36). -/
def Core.frozenPart (c : Core) (b n : Nat) : Core :=
  if n = 0 then c else
  let at' := fun (x : Nat) => if b ≤ x then x + n else x
  { c with
    pend := c.pend.map fun p => { p with due := at' p.due },
    flight := c.flight.map fun f => if b ≤ f.at' + 6 then { f with at' := f.at' + n } else f,
    ices := c.ices.map fun i => if b < i.at' then { i with at' := i.at' + n } else i,
    pred := { c.pred with late := c.pred.late.map fun u => { u with at' := at' u.at' } },
    loq := c.loq.map fun e => { e with
      start := if e.st = .pending then at' e.start else e.start, dead := e.dead.map fun d => (at' d.1, at' d.2) } }

/-- n frozen cycles from cycle b on pass: they count in CYC and in a window. -/
def Chan.freeze (m : MantleTable) (ch : Chan) (w : Fin 8) (b n : Nat) : Chan :=
  ((ch.onCore w fun c => c.frozenPart b n).elapse m w n).windowTick w n

/-- A freeze of n cycles that an instruction in IS causes: it begins at once (R95). It is counted under the event of its cause. -/
def Chan.frozeNow (m : MantleTable) (ch : Chan) (w : Fin 8) (ev n : Nat) : Chan :=
  if n = 0 then ch else ((ch.episode m w 0x0D n).episode m w ev n).freeze m w (ch.core w).cyc n

/-- A freeze of n cycles that the instruction issuing now causes when it is in E3, three cycles later (R89, R95). -/
def Chan.frozeFor (ch : Chan) (w : Fin 8) (ev n : Nat) : Chan :=
  if n = 0 then ch else ch.onCore w fun c => { c with ices := c.ices ++ [⟨c.cyc + 3, ev, n⟩] }

/-- A freeze whose length the manual leaves open: a free number of cycles (log 16). -/
def Chan.froze (ch : Chan) (w : Fin 8) (ev : Nat) : Chan := ch.frozeFor w ev (1 + ch.choice (600 + ev))

/-- The first k of the freezes to come pass, as far as they have begun by cycle `back` before this one; with `all`, whether they have begun or not. -/
def Chan.meltN (m : MantleTable) (ch : Chan) (w : Fin 8) (all : Bool) (back : Nat) : Nat → Chan
  | 0 => ch
  | k + 1 =>
    match (ch.core w).ices with
    | [] => ch
    | i :: rest =>
      if !all && decide ((ch.core w).cyc - back < i.at') then ch else
      let ch := ch.onCore w fun c => { c with ices := rest }
      Chan.meltN m ((((ch.episode m w 0x0D i.n).episode m w i.ev i.n)).freeze m w i.at' i.n) w all back k

/-- The freezes that have begun by the time an instruction would issue pass before it does (R95). -/
def Chan.melt (m : MantleTable) (ch : Chan) (w : Fin 8) (back : Nat) : Chan := ch.meltN m w false back (ch.core w).ices.length

/-- The freezes of the instructions already issued pass while these commit. -/
def Chan.meltAll (m : MantleTable) (ch : Chan) (w : Fin 8) : Chan := ch.meltN m w true 0 (ch.core w).ices.length

/-- Issue cycles until every instruction already issued has committed: the last reaches W six cycles after its issue; `reach` is 7 when
what follows begins after that cycle, 6 when it is itself taken in it (R94, R109). -/
def Core.drainLeft (c : Core) (reach : Nat) : Nat := (c.flight.map fun f => f.at' + reach - c.cyc).foldl max 0

/-- The wait for the instructions already issued: a window runs on (R94, R109, R216). -/
def Chan.drain94 (m : MantleTable) (ch : Chan) (w : Fin 8) (reach : Nat) : Chan :=
  let ch := ch.meltAll m w
  let n := (ch.core w).drainLeft reach
  (ch.elapse m w n).windowTick w n

end Sys2Proof.Machine
end

