-- ==== Sys2Proof/Machine/Buffer.lean ====
section
/-! DEFINITION. What happens to memory while cores go on: the Calm store controller (R265), far accesses at their instant (R242, R243, R255,
R267, R298), posted stores (R250), holds (R258), and the stores that leave a store buffer for memory or uncached HDM (R241, R245 to R251). -/

namespace Sys2Proof.Machine

def laps (a n b k : Nat) : Bool := a < b + k && b < a + n

/-- The presence record of a Calm line (R263, R265). -/
def Chan.presence (ch : Chan) (line : Nat) : BitVec 8 := spGet 0#8 ch.calmPres line

/-- A write at the Calm store controller: other cores' L1D copies and reservations on the line go, tags of the touched granules
clear unless a Taper's tag is given, poison leaves only by a whole-line element (R198, R257, R265, R281). -/
def Chan.calmWrite (ch : Chan) (by' : Option (Fin 8)) (pa : Nat) (bytes : List Byte) (tag clean : Bool) : Chan :=
  let line := pa / 64
  let me : BitVec 8 := match by' with | some w => BitVec.ofNat 8 (2 ^ w.val) | none => 0#8
  let ch := ch.loseResv by' line
  let ch := if ch.presence line &&& ~~~me = 0#8 then ch else
    { ch with cores := ch.cores.mapFinIdx fun i c hi =>
        if some (⟨i, hi⟩ : Fin 8) ≠ by' then { c with l1d := setDel c.l1d line } else c }
  let gs := (List.range ((pa + bytes.length + 15) / 16 - pa / 16)).map fun i => pa / 16 + i
  { ch with
    calm := writeBytes ch.calm pa bytes,
    calmTag := gs.foldl (fun t g => setPut t g tag) ch.calmTag,
    calmPois := if clean then setDel ch.calmPois line else ch.calmPois,
    calmPres := spSet 0#8 ch.calmPres line (ch.presence line &&& me) }

/-! Uncached HDM (R241, R242, R267). -/

/-- A part read past the core: bytes, its granule's tag, poison. -/
def Chan.farRead (m : MantleTable) (ch : Chan) (w : Fin 8) (p : Part) : Chan × List Byte × Bool × Bool :=
  match p.attr with
  | .calm => (ch, readBytes ch.calm p.pa p.n, setHas ch.calmTag (p.pa / 16), setHas ch.calmPois (p.pa / 64))
  | .unc01 | .farHome =>
    match ch.homeAccess ⟨.ucr p.pa p.n, w, p.pa / 64, ch.ownerOf m w, false, .none⟩ with
    | (ch, some r) => (ch, leBytes r.value.toNat p.n, r.tag, r.poison)
    | (ch, none) => (ch, leBytes 0 p.n, false, true)
  | _ =>
    let ch := if p.attr = .farLane then ch else ch.passReq (ch.pool (ch.ownerOf m w))
    let (ch, d) := ch.cxlRead (p.pa / 64)
    (ch, lineBytes d.1 (p.pa % 64) p.n, d.2.1.getLsbD (p.pa / 16 % 4), d.2.2)

/-- A part written past the core's store buffer, for an owner; `by'` is the core whose own reservation stays (R257). -/
def Chan.farWrite (ch : Chan) (w : Fin 8) (owner : Nat) (by' : Option (Fin 8)) (p : Part) (bytes : List Byte) (tag : Bool) (heal : BitVec 4) : Chan :=
  match p.attr with
  | .calm => ch.calmWrite (some w) p.pa bytes tag false
  | .unc01 | .farHome => (ch.homeAccess ⟨.ucw p.pa p.n (BitVec.ofNat 128 (leNat bytes)) tag heal, w, p.pa / 64, owner, false, .none⟩).1
  | _ =>
    let ch := if p.attr = .farLane then ch else ch.passReq (ch.pool owner)
    (ch.loseResv by' (p.pa / 64)).cxlWritePart p.pa bytes tag heal

/-! Holds (R258). -/

/-- A hold ended by its limit: the reservation goes with it (R257). -/
def Chan.endHold (ch : Chan) (v : Fin 8) : Chan := ch.onCore v fun c => { c with hold := none, resv := none }

/-- What is left of a core's hold passes, and the hold reaches its limit (R258). -/
def Chan.outlast (m : MantleTable) (ch : Chan) (v : Fin 8) : Chan :=
  match (ch.core v).hold with
  | none => ch
  | some h => ((ch.elapse m v h.cycles).windowTick v h.cycles).endHold v

/-- A write or ownership request of a core that stands frozen for it, with another core's hold on the line: it waits. A command is whole, so
within it a hold can end by its limit only; a hold that its own core ends first is the order of commands in which that core's come first
(log 57). -/
def Chan.waitHold (m : MantleTable) (ch : Chan) (w : Fin 8) (line : Nat) : Chan :=
  (List.finRange 8).foldl (fun (ch : Chan) _ => match ch.heldBy w line with | some v => ch.outlast m v | none => ch) ch

/-! Far accesses (R255, R298). -/

def Chan.loqSet (ch : Chan) (w : Fin 8) (i : Fin 32) (e : LoqEnt) : Chan := ch.onCore w fun c => { c with loq := c.loq.set i e }

/-- Pending entries in issue order. -/
def Core.loqOrder (c : Core) : List (Fin 32) :=
  ((List.finRange 32).filter fun i => (c.loq[i]).st = .pending).mergeSort fun i j => (c.loq[i]).seq ≤ (c.loq[j]).seq

/-- Whether every part has been performed. -/
def FarAcc.over (f : FarAcc) : Bool := decide (f.parts.length ≤ f.done)

/-- The poison that the next part of an STF removes: that of the granule it writes, or whose upper half it writes (R302). -/
def FarAcc.heal (f : FarAcc) : BitVec 4 :=
  match f.parts, f.done with
  | [p], 0 => if p.n = 16 ∧ p.pa % 16 = 0 then BitVec.ofNat 4 (2 ^ (p.pa / 16 % 4)) else 0#4
  | [lo, hi], 1 => if lo.n = 8 ∧ hi.n = 8 ∧ lo.pa % 16 = 0 then BitVec.ofNat 4 (2 ^ (hi.pa / 16 % 4)) else 0#4
  | _, _ => 0#4

/-- The next part of a pending far access performed at its instant (R242, R243, R255). -/
def Chan.farPart (m : MantleTable) (ch : Chan) (w : Fin 8) (i : Fin 32) : Chan :=
  let e := (ch.core w).loq[i]
  match e.far with
  | none => ch
  | some f =>
    match f.parts[f.done]? with
    | none => ch
    | some p =>
      let off := ((f.parts.take f.done).map fun q => q.n).sum
      if f.write then
        let ch := (ch.waitHold m w (p.pa / 64)).farWrite w (ch.ownerOf m w) none p (((leBytes e.value.toNat 16).drop off).take p.n) false f.heal
        ch.loqSet w i { e with far := some { f with done := f.done + 1 } }
      else
        let (ch, b, _, q) := ch.farRead m w p
        ch.loqSet w i { e with
          value := e.value ||| BitVec.ofNat 128 (leNat b * 2 ^ (8 * off)), far := some { f with done := f.done + 1, poison := f.poison || q } }

/-- The parts of its core's older far accesses that come before the first k parts of entry i: those to a line that is touched, and with a
part the parts of the same access below it (R243, R255). Oldest first. -/
def Core.farBefore (c : Core) (i : Fin 32) (k : Nat) : List (Fin 32 × Nat) :=
  let lines := fun (j : Fin 32) (n : Nat) => match (c.loq[j]).far with | some f => (f.parts.take n).map fun p => p.pa / 64 | none => []
  let older := (c.loqOrder.filter fun j => (c.loq[j]).seq < (c.loq[i]).seq).reverse
  (older.foldl (fun (x : List Nat × List (Fin 32 × Nat)) j =>
    match (c.loq[j]).far with
    | none => x
    | some f =>
      let n := f.parts.length - (f.parts.reverse.takeWhile fun p => !x.1.contains (p.pa / 64)).length
      (x.1 ++ lines j n, (j, n) :: x.2)) (lines i k, [])).2

/-- The first k parts of a pending far access performed, after what comes before them. -/
def Chan.farGo (m : MantleTable) (ch : Chan) (w : Fin 8) (i : Fin 32) (k : Nat) : Chan :=
  ((ch.core w).farBefore i k ++ [(i, k)]).foldl (fun (ch : Chan) x =>
    let done := match ((ch.core w).loq[x.1]).far with | some f => f.done | none => x.2
    (List.range (x.2 - done)).foldl (fun (ch : Chan) _ => ch.farPart m w x.1) ch) ch

/-- A pending far access performed. -/
def Chan.farDo (m : MantleTable) (ch : Chan) (w : Fin 8) (i : Fin 32) : Chan :=
  match ((ch.core w).loq[i]).far with
  | some f => ch.farGo m w i f.parts.length
  | none => ch

/-- Whether a far access can be performed now: on the far lane it holds a token (R296, R299), and no hold delays it (R258). -/
def Chan.farFree (ch : Chan) (w : Fin 8) (i : Fin 32) : Bool :=
  match ((ch.core w).loq[i]).far with
  | none => true
  | some f =>
    (!(f.parts.any fun p => p.attr == .farLane) ||
      ((ch.poolReqs farPool).take (ch.tokens farPool)).any fun q => q.kind == .far w i) &&
    !(f.write && f.parts.any fun p => (ch.heldBy w (p.pa / 64)).isSome)

/-- A far access that is no longer pending: its token goes to the next (R296, R300). -/
def Chan.farGone (ch : Chan) (w : Fin 8) (i : Fin 32) : Chan := { ch with cxlReqs := ch.cxlReqs.filter fun q => q.kind != .far w i }

/-- The far accesses pending on the channel that touch n bytes at pa. -/
def Chan.farPending (ch : Chan) (pa n : Nat) : List (Fin 8 × Fin 32) :=
  (List.finRange 8).flatMap fun w => (List.finRange 32).filterMap fun i =>
    match ((ch.core w).loq[i]).far with
    | some f => if ((ch.core w).loq[i]).st = .pending ∧ !f.over ∧ f.parts.any (fun p => laps p.pa p.n pa n) then some (w, i) else none
    | none => none

/-- Before an access to n bytes at pa: of each pending far access of those bytes some first parts may already have been performed (R255). -/
def Chan.settleFar (m : MantleTable) (ch : Chan) (pa n : Nat) : Chan :=
  (ch.farPending pa n).foldl (fun (ch : Chan) x =>
    match ((ch.core x.1).loq[x.2]).far with
    | some f => if ch.farFree x.1 x.2 then ch.farGo m x.1 x.2 (f.done + ch.pick (300 + 32 * x.1.val + x.2.val) (f.parts.length - f.done + 1)) else ch
    | none => ch) ch

/-! Posted stores (R241, R250). -/

/-- How many happenings the leaving of some stores takes. -/
def stepsOf (es : List SbEnt) : Nat := (es.map fun e => e.part.halves.length).sum

/-- Every posted store of a core performed (R252). -/
def Chan.postAll (ch : Chan) (w : Fin 8) : Chan := (List.range (stepsOf (ch.core w).posted)).foldl (fun ch _ => ch.postOne w) ch

/-! Stores that leave a buffer (R245 to R250). -/

/-- The oldest entry of a store buffer leaves it for memory or uncached HDM, or its lower half does; one for a control register stays. All
of uncached HDM has one identifier, so a confirmed store comes after the core's posted ones (R249). -/
def Chan.drainMem (m : MantleTable) (ch : Chan) (w : Fin 8) : Chan :=
  match (ch.core w).sb with
  | [] => ch
  | e :: rest =>
    let p := e.part
    let line := p.pa / 64
    let out := fun (ch : Chan) => ch.onCore w fun c => { c with sb := rest }
    let owner := ch.ownerFor m e.mantle
    let bytes := leBytes e.data.toNat p.n
    match p.attr with
    | .device => ch
    | .calm => (((out ch).waitHold m w line).settleFar m p.pa p.n).calmWrite (some w) p.pa bytes e.tag e.clean
    | .cacheable =>
      match (((out ch).waitHold m w line).settleFar m p.pa p.n).l2Own w owner line with
      | (ch, some x) =>
        let (d, t) := patchLine x.data x.tags (p.pa % 64) bytes e.tag
        (ch.loseResv (some w) line).onCore w fun c => c.l2Set { x with st := .m, data := d, tags := t, poison := x.poison && !e.clean }
      | (ch, none) => ch
    | .unc10 =>
      if p.n = 0 then (out ch).postAll w
      else (((out ch).takeToken (ch.pool owner)).onCore w fun c => { c with posted := c.posted ++ [e] }).putReq ⟨line, ch.pool owner, .posted w, none, false⟩
    | _ =>
      let (e, more) := e.halve
      let ch := (ch.postAll w).onCore w fun c => { c with sb := more.toList ++ rest }
      let ch := if p.attr = .unc01 then ch.waitHold m w line else ch
      (ch.settleFar m e.part.pa e.part.n).farWrite w owner (some w) e.part (leBytes e.data.toNat e.part.n) e.tag e.heal

/-- Whether the oldest entry of a buffer can leave on its own: no hold delays it, and where the costs are fixed its time has come (R115, R258). -/
def Chan.mayLeave (ch : Chan) (w : Fin 8) : Bool :=
  match (ch.core w).sb with
  | [] => false
  | e :: _ =>
    !(ch.fixedCore w && decide ((ch.core w).cyc < e.leave))
      && !((e.part.attr == .calm || e.part.attr == .cacheable || e.part.attr == .unc01) && (ch.heldBy w (e.part.pa / 64)).isSome)

/-- Between two accesses of one instruction, stores of any core may leave their buffers for memory, a free number of each (R240, R242, R243). -/
def Chan.meanwhile (m : MantleTable) (ch : Chan) (salt : Nat) : Chan :=
  ((List.finRange 8).filter fun v => !(ch.core v).sb.isEmpty).foldl (fun (ch : Chan) v =>
    (List.range (ch.pick (2000 + 8 * salt + v.val) (stepsOf (ch.core v).sb + 1))).foldl (fun (ch : Chan) _ =>
      if ch.mayLeave v then ch.drainMem m v else ch) ch) ch

end Sys2Proof.Machine
end

