-- ==== Sys2Proof/Machine/Access.lean ====
section
/-! DEFINITION. The checks every access passes, in the order of R227: Taper (R197), alignment and size (R10, R244), translation
through the TLBs and the tables (R224 to R236), page permission, physical region (R29 to R37, R85, R232, R256). -/

namespace Sys2Proof.Machine

/-- A precise exception: vector (R207), REASON (R215, R233), ADDR of the frame (R213). -/
structure Exc where
  vec    : Nat
  reason : Nat
  addr   : W64
  deriving DecidableEq, Repr

/-- What an access is: data read, data write, fetch, LL/SC/AMO, Taper access, far access, STPH. -/
structure Access where
  rd   : Bool
  wr   : Bool
  ifch : Bool
  atom : Bool
  cap  : Bool
  far  : Bool
  stph : Bool
  deriving DecidableEq, Repr

def accLoad : Access := ⟨true, false, false, false, false, false, false⟩
def accStore : Access := ⟨false, true, false, false, false, false, false⟩
def accFetch : Access := ⟨false, false, true, false, false, false, false⟩
def accLL : Access := ⟨true, false, false, true, false, false, false⟩
def accSC : Access := ⟨false, true, false, true, false, false, false⟩
def accAmo : Access := ⟨true, true, false, true, false, false, false⟩
def accTld : Access := ⟨true, false, false, false, true, false, false⟩
def accTst : Access := ⟨false, true, false, false, true, false, false⟩
def accLdf : Access := ⟨true, false, false, false, false, true, false⟩
def accStf : Access := ⟨false, true, false, false, false, true, false⟩
def accStph : Access := ⟨false, true, false, false, false, false, true⟩

/-- Reasons of Data Abort (R215). -/
def daUnmapped : Nat := 1
def daCalmDirect : Nat := 2
def daPartition : Nat := 3
def daReserved : Nat := 4
def daStphTarget : Nat := 5
def daPoison : Nat := 6
def daAlignment : Nat := 7
def daRegion : Nat := 8
def daSize : Nat := 9
def daUntagged : Nat := 10

/-- The permissions an access needs (R196): Load, Store, LoadCap, StoreCap by bit number. -/
def Access.perms (a : Access) : List Nat :=
  (if a.rd then [0] else []) ++ (if a.wr then [1] else []) ++ (if a.cap && a.rd then [3] else []) ++ (if a.cap && a.wr then [4] else [])

/-- Checks 1 to 3 of R197: the reason of the first that fails. -/
def taperOwn (m : MantleTable) (pm : BitVec 12) (t : Taper) : Option Nat :=
  if !t.tag then some 1 else if t.latch ≠ 0 then some 2 else if !inParty m t.mantle pm then some 3 else none

/-- The five checks of R197 on n bytes at an address. -/
def taperCheck (m : MantleTable) (pm : BitVec 12) (t : Taper) (a : W64) (n : Nat) (perms : List Nat) : Option Nat :=
  match taperOwn m pm t with
  | some r => some r
  | none => if !t.covers a.toNat n then some 4 else if perms.all t.has then none else some 5

/-! Physical regions (R29). -/

def calmEnd : Nat := 0x200000
def saveBase : Nat := 0x1FC000
def ctrlBase : Nat := 0xF0000000
def inCalm (pa : Nat) : Bool := pa < calmEnd
def inCtrl (pa : Nat) : Bool := ctrlBase ≤ pa && pa < ctrlBase + 0x1000000
/-- Inside the HDM window as established at training (R30, R293). -/
def Chan.inHdm (ch : Chan) (pa : Nat) : Bool := hdmBase ≤ pa && pa < hdmBase + ch.hdmSize

/-- The split in force in HAZE (R36, R50). -/
def Chan.split (ch : Chan) : Nat := (ch.fld 0x24 8 2 + 1) * 0x80000

/-- Step 5 of R227 for one part whose page has attribute `attr` (R232): a Data Abort reason, or how the access goes. -/
def Chan.region (ch : Chan) (w : Fin 8) (a : Access) (pa attr : Nat) : Except Nat Attr :=
  if !inCalm pa && !inCtrl pa && !ch.inHdm pa then .error daUnmapped
  else if inCalm pa then
    if saveBase ≤ pa then .error daReserved
    else if ch.mode = 5 ∧ w.val < 4 ∧ ch.split ≤ pa then .error daPartition
    else if a.stph then .error daStphTarget
    else .ok .calm
  else if inCtrl pa then
    if a.ifch || a.atom || a.far then .error daRegion else .ok .device
  else if ch.fixedCore w && !a.far then .error daCalmDirect
  else if a.stph then .error daStphTarget
  else if (a.ifch || a.atom) && attr ≠ 0 then .error daRegion
  else if a.far then .ok (if ch.fixedCore w then .farLane else if attr = 0 then .farHome else .unc01)
  else .ok (match attr with | 0 => .cacheable | 1 => .unc01 | 2 => .unc10 | _ => .unc11)

/-! Translation. -/

/-- The contexts, TTBASE with ASID, that a core has been in, newest first, back to the one before the pending writes (R92, R225). -/
def contextsOf : List Pend → W64 × W64 → List (W64 × W64)
  | [], x => [x]
  | p :: older, x =>
    x :: contextsOf older (if p.reg = .sr 2 then (p.old.truncate 64, x.2) else (x.1, p.old.truncate 64))

/-- A core's writes of TTBASE and ASID whose distance has not passed, newest first. -/
def Core.ctxPend (c : Core) : List Pend := (c.pend.filter fun p => (p.reg = .sr 2 ∨ p.reg = .sr 3) ∧ c.cyc < p.due).reverse

/-- The contexts in which an access issued now may be translated (R225). -/
def Core.contexts (c : Core) : List (W64 × W64) := contextsOf c.ctxPend (c.ttbase, c.asid)

/-- An access for the choice of its context: a load, a store, the fetch of an address. -/
def accSalt (va : Nat) (wr ifch : Bool) : Nat := if ifch then 2 ^ 20 + va else 82 + b2n wr

/-- The context in which an access issued now is translated: within the distance of an SRW the old or the new one, never a mixture; each access
has its own (R225, R240). -/
def Chan.context (ch : Chan) (w : Fin 8) (salt : Nat) : W64 × W64 :=
  let c := ch.core w
  nth (c.ttbase, c.asid) c.contexts (match c.contexts with | [_] => 0 | cs => ch.pick salt cs.length)

/-- Whether a core translates in a context (R224). -/
def Chan.translates (ch : Chan) (w : Fin 8) (ctx : W64 × W64) : Bool := runMode ch.mode && !ch.fixedCore w && ctx.1 != 0#64

/-- Whether a TLB entry matches (R235). -/
def TlbEnt.hits (e : TlbEnt) (va : Nat) (asid : BitVec 12) : Bool :=
  e.vpn == va / 2 ^ e.size && (e.asid == asid || e.leaf.getLsbD 7)

/-- The ways of the L2 TLB that serve a core (R236): in GALE all eight serve every Mantle, elsewhere those of the class of its PCC's Mantle. -/
def Chan.tlbWays (m : MantleTable) (ch : Chan) (w : Fin 8) : List Nat :=
  if ch.mode = 1 then [0, 1, 2, 3, 4, 5, 6, 7] else
  match clsOf m (ch.core w).pcc.mantle with
  | 0 => [0, 1, 2, 3]
  | 1 => [4, 5]
  | _ => [6, 7]

/-- An entry added to a fully associative L1 TLB of 64 entries (R235). -/
def tlbAdd (ch : Chan) (l : List TlbEnt) (e : TlbEnt) : List TlbEnt :=
  let l := l.filter fun x => x ≠ e
  if l.length < 64 then e :: l else e :: l.eraseIdx (ch.pick 210 64)

/-- An entry added to the L2 TLB: 256 sets of 8 ways for the three page sizes together, the set being the low 8 bits of its page number; it
takes a way that is free among those it may use, or replaces one (R235, R236). -/
def tlbAdd2 (ch : Chan) (l : List TlbEnt) (e : TlbEnt) (ways : List Nat) : List TlbEnt :=
  let here := fun (i : Nat) (x : TlbEnt) => x.vpn % 256 == e.vpn % 256 && x.way == i
  let i := (ways.find? fun i => !(l.any (here i))).getD (nth 0 ways (ch.pick 211 ways.length))
  { e with way := i } :: l.filter fun x => !here i x

/-- One 8-byte physical read by the walker (R234): the entry, or whether its line is poisoned. -/
def Chan.walkRead (m : MantleTable) (ch : Chan) (w : Fin 8) (pa : Nat) : Chan × Option W64 :=
  if inCalm pa then
    (ch, if setHas ch.calmPois (pa / 64) then none else some (BitVec.ofNat 64 (leNat (readBytes ch.calm pa 8))))
  else
    let (ch, l) := ch.l2Read w (ch.ownerOf m w) (pa / 64)
    match l with
    | none => (ch, none)
    | some x => (ch, if x.poison then none else some (BitVec.ofNat 64 (leNat (lineBytes x.data (pa % 64) 8))))

/-- Whether a table may be read where it lies (R233, walk address). -/
def Chan.walkable (ch : Chan) (pa : Nat) : Bool := (pa < saveBase) || ch.inHdm pa

/-- A format error of a table entry at a level (R231, R232): a bit that must be 0 or 1 is not. -/
def badFormat (level : Nat) (e : W64) : Bool :=
  let l := e.getLsbD 1
  let leaf := level == 4 || (level == 3 && l)
  e >>> 48 != 0#64 || (l && level < 3) || (!l && level == 4) || (e.getLsbD 2 && level < 4)
    || (!leaf && (e.getLsbD 3 || e.getLsbD 4))
    || (leaf && level == 3 && e.toNat / 2 ^ 12 % 2 ^ 9 != 0) || (leaf && level == 4 && e.getLsbD 2 && e.toNat / 2 ^ 12 % 16 != 0)

/-- The walk from a level's table (R230): the leaf with its level and page size in offset bits, or KIND and LEVEL of R233. Each level is read on
its own, and stores may drain between two of them (R240). -/
def Chan.walk (m : MantleTable) (ch : Chan) (w : Fin 8) (va table : Nat) : List Nat → Chan × Except (Nat × Nat) (W64 × Nat × Nat)
  | [] => (ch, .error (2, 4))
  | level :: rest =>
    if !ch.walkable table then (ch, .error (3, level)) else
    let ch := if level = 1 then ch else ch.meanwhile m level
    let pa := table + va / 2 ^ (48 - 9 * level) % 512 * 8
    match ch.walkRead m w pa with
    | (ch, none) => (ch, .error (4, level))
    | (ch, some e) =>
      if !e.getLsbD 0 then (ch, .error (1, level))
      else if badFormat level e then (ch, .error (2, level))
      else if e.getLsbD 1 then (ch, .ok (e, level, if level = 3 then 21 else if e.getLsbD 2 then 16 else 12))
      else ch.walk m w va (e.toNat / 2 ^ 12 % 2 ^ 36 * 4096) rest

/-- Step 4 of R227 on a leaf, and what it translates to: the physical address, ATTR, and the REASON of a Translation Fault when the page does
not permit the access (R232, R233). -/
def judge (va : Nat) (wr ifch : Bool) (leaf : W64) (size : Nat) : Nat × Nat × Option Nat :=
  let at' := 16 * (if size = 21 then 3 else 4) + (if ifch then 0x80 else 0)
  let no : Option Nat :=
    if ifch && !leaf.getLsbD 6 then some (7 + at')
    else if wr && !leaf.getLsbD 5 then some (5 + at')
    else if wr && !leaf.getLsbD 8 then some (6 + at') else none
  (leaf.toNat / 2 ^ size % 2 ^ (48 - size) * 2 ^ size + va % 2 ^ size, leaf.toNat / 8 % 4, no)

/-- Step 3 of R227, with the verdict of step 4: the translation of a virtual address, or the REASON of the Translation Fault that ends it
(R233). -/
def Chan.translate (m : MantleTable) (ch : Chan) (w : Fin 8) (va : Nat) (wr ifch : Bool) : Chan × Except Nat (Nat × Nat × Option Nat) :=
  let ctx := ch.context w (accSalt va wr ifch)
  if !ch.translates w ctx then (ch, .ok (va % 2 ^ 48, 0, none)) else
  let va := va % 2 ^ 48
  let asid : BitVec 12 := ctx.2.truncate 12
  let c := ch.core w
  let fill := fun (ch : Chan) (e : TlbEnt) => ch.onCore w fun c =>
    if ifch then { c with itlb := tlbAdd ch c.itlb e } else { c with dtlb := tlbAdd ch c.dtlb e }
  match (if ifch then c.itlb else c.dtlb).find? fun e => e.hits va asid with
  | some e => (ch, .ok (judge va wr ifch e.leaf e.size))
  | none =>
    let ways := ch.tlbWays m w
    let ch := ch.event m w 0x0B
    match c.l2tlb.find? fun e => e.hits va asid && ways.contains e.way with
    | some e =>
      let ch := fill ch { e with way := 0 }
      (if ifch then ch.frozeNow m w 0xFF 2 else ch.frozeFor w 0xFF 2, .ok (judge va wr ifch e.leaf e.size))
    | none =>
      let ch := ch.event m w 0x0C
      let ch := if ifch then ch.frozeNow m w 0xFF (1 + ch.choice 623) else ch.froze w 0xFF
      match ch.walk m w va (ctx.1.toNat / 4096 % 2 ^ 36 * 4096) [1, 2, 3, 4] with
      | (ch, .error (kind, level)) => (ch, .error (kind + 16 * level + (if ifch then 0x80 else 0)))
      | (ch, .ok (leaf, _, size)) =>
        let e : TlbEnt := { size := size, vpn := va / 2 ^ size, asid := asid, leaf := leaf, way := 0 }
        let ch := ch.onCore w fun c => { c with l2tlb := tlbAdd2 ch c.l2tlb e ways }
        (fill ch e, .ok (judge va wr ifch leaf size))

/-- Steps 2 to 5 of R227 for one part. The size rule of R10 needs the physical address: it is judged on the translation the
part would get (log 10). `split`: the access is not one naturally aligned part of its own. -/
def Chan.checkPart (m : MantleTable) (ch : Chan) (w : Fin 8) (a : Access) (va : W64) (n : Nat) (split : Bool) : Chan × Except Exc Part :=
  let mis := va.toNat % n ≠ 0
  if (a.atom || a.stph || a.cap) && mis then (ch, .error ⟨5, daAlignment, va⟩) else
  match ch.translate m w va.toNat a.wr a.ifch with
  | (ch, .error r) => (ch, .error ⟨3, r, va⟩)
  | (ch, .ok (pa, attr, no)) =>
    if inCtrl pa && a.cap then (ch, .error ⟨5, daUntagged, va⟩)
    else if inCtrl pa && !a.ifch && !a.stph && (n ≠ 4 || mis || split) then (ch, .error ⟨5, daSize, va⟩)
    else match no with
      | some r => (ch, .error ⟨3, r, va⟩)
      | none => match ch.region w a pa attr with
        | .error r => (ch, .error ⟨5, r, va⟩)
        | .ok at' => (ch, .ok ⟨pa, n, at'⟩)

/-- The parts of an access (R228, R243): split at the first multiple of its size above its address; an element at a page. -/
def splitAt' (va : W64) (n : Nat) (elem : Bool) : List (W64 × Nat) :=
  let blk := if elem then 4096 else n
  let lo := blk - va.toNat % blk
  if lo < n then [(va, lo), (va + BitVec.ofNat 64 lo, n - lo)] else [(va, n)]

/-- Every part checked, the lower first; a fault in one leaves all unperformed (R228). -/
def Chan.checkParts (m : MantleTable) (ch : Chan) (w : Fin 8) (a : Access) (split : Bool) : List (W64 × Nat) → Chan × Except Exc (List Part)
  | [] => (ch, .ok [])
  | (va, n) :: rest =>
    match ch.checkPart m w a va n split with
    | (ch, .error e) => (ch, .error e)
    | (ch, .ok p) =>
      match Chan.checkParts m ch w a split rest with
      | (ch, .error e) => (ch, .error e)
      | (ch, .ok ps) => (ch, .ok (p :: ps))

/-- The whole check of a data access of n bytes at a virtual address under a Taper (R197, R227). -/
def Chan.check (m : MantleTable) (ch : Chan) (w : Fin 8) (t : Taper) (a : Access) (va : W64) (n : Nat) (elem : Bool) : Chan × Except Exc (List Part) :=
  match taperCheck m (ch.core w).pcc.mantle t va n a.perms with
  | some r => (ch, .error ⟨4, r, va⟩)
  | none =>
    let whole := va.toNat % n ≠ 0
    if (a.atom || a.cap || a.stph) && whole then (ch, .error ⟨5, daAlignment, va⟩)
    else ch.checkParts m w a (whole || (elem && n ≠ 4)) (splitAt' va n elem)

/-- The check of an instruction fetch at an address under PCC (R70, R197, R229): the physical address of the word. -/
def Chan.checkFetchAt (m : MantleTable) (ch : Chan) (w : Fin 8) (pc : W64) : Chan × Except Exc Nat :=
  let c := ch.core w
  match taperCheck m c.pcc.mantle c.pcc pc 4 [] with
  | some r => (ch, .error ⟨4, r, pc⟩)
  | none =>
    if !c.pcc.has 2 then (ch, .error ⟨4, 8, pc⟩) else
    match ch.checkPart m w accFetch pc 4 false with
    | (ch, .error e) => (ch, .error e)
    | (ch, .ok p) => (ch, .ok p.pa)

/-- How many instructions may have been fetched when one issues (R237). -/
def fetchReach : Nat := 12

/-- Whether the L1 TLB translates the fetch of an address in a context, or nothing has to (R111, R235). -/
def Chan.fetchKnown (ch : Chan) (w : Fin 8) (pc : W64) : Bool :=
  let ctx := ch.context w (accSalt pc.toNat false true)
  !ch.translates w ctx || (ch.core w).itlb.any fun e => e.hits (pc.toNat % 2 ^ 48) (ctx.2.truncate 12)

/-- Whether any fetch can be known before its walk: in a context that does not translate, or with something in the L1 TLB. -/
def Chan.fetchLocal (ch : Chan) (w : Fin 8) : Bool := (ch.core w).contexts.any (fun x => !ch.translates w x) || !(ch.core w).itlb.isEmpty

/-- An instruction that can only commit or be refused for want of System: a fetch that follows it is on the correct path (R111). -/
def steady (word : W32) : Bool :=
  majorOf word ≤ 0x0A || majorOf word == 0x0D || (majorOf word == 0x33 && [2, 3, 5, 6].contains (fnOf word))

/-- Where fetch may go on behind an address: in sequence, to a target that the predictor holds, or to the target of a branch that D1 has decoded,
which is free here since a word is known only when its command comes (R89, R106). -/
def Chan.fetchNext (ch : Chan) (w : Fin 8) (pc : W64) (i : Nat) : W64 :=
  let p := (ch.core w).pred
  let ts := (pc + 4#64) :: (p.btb.map (·.target) ++ p.ras ++ [align4 ((ch.draw (9500 + i)).truncate 64)])
  nth (pc + 4#64) ts (ch.pick (661 + i) ts.length)

/-- A word fetched ahead: checked when its fetch block is fetched, and what the check found kept (R229). -/
def Chan.fetchOne (m : MantleTable) (ch : Chan) (w : Fin 8) (pc : W64) : Chan :=
  if (ch.core w).fetched.any fun x => x.pc == pc then ch else
  let ctx := ch.context w (accSalt pc.toNat false true)
  let (ch, r) := ch.checkFetchAt m w pc
  let x : Fetched := match r with | .ok pa => ⟨pc, ctx, pa, 0, 0⟩ | .error e => ⟨pc, ctx, 0, e.vec, e.reason⟩
  ch.onCore w fun c => { c with fetched := (c.fetched ++ [x]).drop (c.fetched.length + 1 - fetchReach) }

/-- n more words fetched behind an address. Outside GALE a walk is held until every older instruction can no longer fail to commit, so that it
comes ahead of time only behind a word that cannot (R111, R235). -/
def Chan.fetchPath (m : MantleTable) (ch : Chan) (w : Fin 8) (sure : Bool) (pc : W64) : Nat → Chan
  | 0 => ch
  | n + 1 =>
    let next := ch.fetchNext w pc n
    if ch.mode == 1 || ch.fetchKnown w next || (sure && next == pc + 4#64) then Chan.fetchPath m (ch.fetchOne m w next) w false next n
    else ch

/-- The words that have been fetched when the one of `word` at PC issues, a free number of them: each is checked when it is fetched, and what the
check found is kept until it issues or is fetched again (R229, R237). Behind the one instruction of a debugger's step nothing is fetched
(DESIGN CHOICE, log 60). -/
def Chan.fetchAhead (m : MantleTable) (ch : Chan) (w : Fin 8) (word : W32) : Chan :=
  let c := ch.core w
  let sure := steady word && c.pcc.has 5
  if c.stepping || !(ch.mode == 1 || sure || ch.fetchLocal w) then ch
  else ch.fetchPath m w sure c.pc (ch.pick 660 (fetchReach + 1))

/-- The check of the instruction at PC: that made when it was fetched ahead, in a context that is still one of those in force (R225), else one
made now. What was fetched for another place is gone. -/
def Chan.checkFetch (m : MantleTable) (ch : Chan) (w : Fin 8) : Chan × Except Exc Nat :=
  let c := ch.core w
  match c.fetched.find? fun x => x.pc == c.pc && c.contexts.contains x.ctx with
  | some x =>
    (ch.onCore w fun c => { c with fetched := c.fetched.filter fun y => y.pc != c.pc },
     if x.vec = 0 then .ok x.pa else .error ⟨x.vec, x.reason, c.pc⟩)
  | none => (ch.onCore w fun c => { c with fetched := [] }).checkFetchAt m w c.pc

end Sys2Proof.Machine
end

