-- ==== Sys2Proof/Machine/Flare.lean ====
section
/-! DEFINITION. The Flare controller: which sources are pending and which one each core is offered (R219 to R223). -/

namespace Sys2Proof.Machine

/-- A pulse source: the alarm slots and the software interrupts (R219). -/
def pulseKind (v : Nat) : Bool := (32 ≤ v && v < 96) || (160 ≤ v && v < 192)

/-- A vector that names a source (R219). -/
def isSource (v : Nat) : Bool := (32 ≤ v && v < 138) || (160 ≤ v && v < 192)

/-- Bits of a status register masked by an enable register. -/
def Chan.anyOn (ch : Chan) (stat ien mask : Nat) : Bool := (ch.reg stat &&& ch.reg ien &&& BitVec.ofNat 32 mask) != 0#32

/-- UART TXIDLE: FIFO empty and line idle (R169). -/
def Uart.idle (u : Uart) : Bool := u.tx.isEmpty && u.on.isNone

/-- The condition of a level source (R219). -/
def Chan.levelCond (ch : Chan) (v : Nat) : Bool :=
  if 96 ≤ v ∧ v < 100 then ch.anyOn (0x10118 + (v - 96) * 0x40) (0x1011C + (v - 96) * 0x40) 0x3F0
  else if 100 ≤ v ∧ v < 116 then ch.anyOn (0x2001C + (v - 100) * 0x100) (0x20020 + (v - 100) * 0x100) 0x1FF0F
  else if 130 ≤ v ∧ v < 138 then ch.anyOn (0x101004 + (v - 130) * 0x10000) (0x101008 + (v - 130) * 0x10000) 0x3FFF
  else match v with
    | 116 => ch.bit 0x50014 0
    | 117 => ch.anyOn 0x30130 0x30138 0xFFFFFFFF || ch.anyOn 0x30134 0x3013C 0xFFFFFFFF
    | 118 => uartCond ch 0
    | 119 => uartCond ch 1
    | 120 => (ch.bit 0x51000C 0 && !ch.io.spiRx.isEmpty) || (ch.bit 0x51000C 1 && ch.io.spiTx.isEmpty && ch.io.spiOn.isNone)
        || (ch.bit 0x51000C 2 && (ch.bit 0x510008 17 || ch.bit 0x510008 18))
    | 121 => (ch.bit 0x520010 0 && ch.io.i2cCmd.isEmpty && !ch.io.i2cBus) || (ch.bit 0x520010 1 && !ch.io.i2cRx.isEmpty)
        || (ch.bit 0x520010 2 && (ch.bit 0x52000C 17 || ch.bit 0x52000C 18 || ch.bit 0x52000C 19))
    | 122 => (ch.bit 0x530010 0 && ch.bit 0x53000C 9) || (ch.bit 0x530010 1 && ch.fld 0x530018 0 14 != ch.fld 0x53001C 0 14)
        || (ch.bit 0x530010 2 && ch.bit 0x53000C 11)
    | 123 => ch.bit 0x400000 1 && !ch.mbxIn.isEmpty
    | 124 => ch.bit 0x400000 2 && (ch.bit 0x400008 24 || ch.bit 0x400004 26)
    | 125 => (ch.bit 0x18 0 && ch.bit 0x14 29) || (ch.bit 0x18 1 && ch.bit 0x14 28)
    | 126 => ch.anyOn 0x60010 0x60014 0x1FF
    | 127 => ch.anyOn 0x70004 0x70008 0xDF
    | 128 => ch.anyOn 0x200004 0x200008 0x3C
    | 129 => ch.anyOn 0x300004 0x300008 0xF
    | _ => false
where
  /-- The condition of a UART source (R169). -/
  uartCond (ch : Chan) (u : Fin 2) : Bool :=
    let b := 0x500000 + u.val * 0x1000
    let x := ch.io.uart[u]
    (ch.bit (b + 0x10) 0 && (ch.fld (b + 0x10) 8 7 ≤ x.rx.length || ch.bit (b + 0xC) 19))
      || (ch.bit (b + 0x10) 1 && x.tx.length ≤ ch.fld (b + 0x10) 16 7) || (ch.bit (b + 0x10) 2 && x.idle)
      || (ch.bit (b + 0x10) 3 && (ch.bit (b + 0xC) 17 || ch.bit (b + 0xC) 18))

/-- Whether a vector is active on the channel (R206). -/
def Chan.active (ch : Chan) (v : Nat) : Bool := ch.activ.getLsbD v

/-- Whether a source is pending (R220). -/
def Chan.pendingSrc (ch : Chan) (v : Nat) : Bool :=
  if pulseKind v then ch.pulse.getLsbD v else isSource v && ch.levelCond v && !ch.active v

/-- FLR_CFGv (R223). -/
def flrCfg (v : Nat) : Nat := 0x40400 + v * 4

/-- The pulse latch of a source set (R220). -/
def Chan.pulseSrc (ch : Chan) (v : Nat) : Chan := { ch with pulse := ch.pulse ||| BitVec.ofNat 256 (2 ^ v) }

/-- The MASK arbitration uses: an SRW governs from its distance (R222). -/
def Core.maskNow (c : Core) : Nat :=
  match c.pend.find? fun p => p.reg = .sr 0 && c.cyc < p.due with
  | some p => p.old.toNat % 8
  | none => c.mask.toNat

/-- Whether a source is ready to offer: R39, and R221 but for the core. -/
def Chan.ready (ch : Chan) (v : Nat) : Bool :=
  ch.bit 0x40000 0 && ch.pendingSrc v && !ch.active v && ch.fld (flrCfg v) 0 3 != 0 && ch.fld (flrCfg v) 4 8 != 0

/-- The source offered to a core: highest PRIO above its MASK, then the lower vector (R221). -/
def Chan.offered (ch : Chan) (w : Fin 8) : Option Nat :=
  let mask := (ch.core w).maskNow
  let ok := (List.range 192).filter fun v =>
    ch.ready v && ch.bit (flrCfg v) (4 + w.val) && mask < ch.fld (flrCfg v) 0 3
  ok.foldl (fun best v =>
    match best with
    | none => some v
    | some b => if ch.fld (flrCfg b) 0 3 < ch.fld (flrCfg v) 0 3 then some v else some b) none

end Sys2Proof.Machine
end

