-- ==== Sys2Proof/Machine/Mbx.lean ====
section
/-! DEFINITION. The mailbox of a channel (R24 to R28) and the channel watchdog (R160 to R164). -/

namespace Sys2Proof.Machine

/-- The result of a message recorded for its sender (R26, R28): 0 DELIVERED, 1 DEST_DOWN, 2 DEST_FULL, 3 BADDEST. -/
def Chan.mbxResult (ch : Chan) (seq res : Nat) : Chan :=
  let r := 0x400008
  let fresh := !ch.bit r 24
  let ch := (ch.putF r 0 8 seq).putF r 8 2 res
  if res = 0 then ch else
  let ch := if fresh then ch.putF r 16 8 seq else ch
  ch.setBit r 24

/-- The 16 staged words. -/
def Chan.mbxStaged (ch : Chan) : List W32 := (List.range 16).map fun i => ch.reg (0x400040 + 4 * i)

/-- A write of MBX_TXGO under a Mantle (R25). With TXFREE 0 the write enqueues nothing and sets TXOVF whatever its destination says: no BADDEST is
recorded (DESIGN CHOICE, log 52). A BADDEST result is shown at the write itself, before the results of messages enqueued earlier, which
wait for the sender's slot (DESIGN CHOICE, log 52). -/
def Chan.mbxGo (ch : Chan) (mantle : BitVec 12) : Chan :=
  if !ch.bit 0x400000 0 then ch
  else if 16 ≤ ch.mbxOut.length then ch.setBit 0x400004 26
  else
    let h := ch.reg 0x400040
    let dst := getF h 0 4
    if 4 ≤ dst ∧ dst ≠ 15 then ch.mbxResult (getF h 8 8) 3
    else { ch with mbxOut := ch.mbxOut ++ [{ words := ch.mbxStaged, mantle := mantle }] }

/-- A write of MBX_RXPOP (R28). -/
def Chan.mbxPop (ch : Chan) : Chan := { ch with mbxIn := ch.mbxIn.tail }

/-- A word of the head inbound message (R28). -/
def Chan.mbxRx (ch : Chan) (i : Nat) : W32 := match ch.mbxIn with | [] => 0#32 | x :: _ => nth 0#32 x i

/-- Whether a channel can take a message now (R26). -/
def Chan.mbxDown (ch : Chan) : Bool := ch.life != .up || ch.mode == 8 || !ch.bit 0x400000 0

/-- Bytes of the boot image moved into the Calm store, at most n (R21). -/
def Chan.bulkMove (ch : Chan) (n : Nat) : Chan :=
  let now := ch.bulk.take n
  { ch with calm := writeBytes ch.calm ch.bulkAt now, bulk := ch.bulk.drop n, bulkAt := ch.bulkAt + now.length }

/-! The watchdog. -/

/-- FROZEN (R163). -/
def Chan.wdtFrozen (ch : Chan) : Bool := ch.bit 0x50000 1 && (List.finRange 8).any fun w => ch.fld (0x300020 + w.val * 4) 0 2 == 2

/-- A write of WDT_CTL (R160, R164). -/
def Chan.wdtCtl (ch : Chan) (v : W32) : Chan :=
  if ch.bit 0x50000 4 then ch else
  let en := ch.bit 0x50000 0
  let ch := ch.setReg 0x50000 (regWritten 0x50000 (ch.reg 0x50000) (if en then v ||| 1#32 else v))
  if !en && v.getLsbD 0 then ch.setReg 0x5000C (ch.reg 0x50004) else ch

/-- More than 1 ms has passed since the first key (R161). -/
def Chan.wdtLate (ch : Chan) : Bool :=
  match ch.svcKey with | none => false | some t => decide (600000 < (ch.ptb - BitVec.ofNat 64 t).toNat)

/-- More than 1 ms after the first key: SVCERR, and the sequence restarts (R161). -/
def Chan.wdtGap (ch : Chan) : Chan :=
  match ch.svcKey with
  | none => ch
  | some _ => ({ ch with svcKey := none } : Chan).setBit 0x50014 2

/-- A write of WDT_SVC (R161). The time of the first key is kept in PTB cycles, 600 a µs. A completed service reloads COUNT while it is held, too
(EN 0, FROZEN, at rest in THAW): DESIGN CHOICE (log 62): R160 and R163 say that COUNT holds then. -/
def Chan.wdtService (ch : Chan) (v : W32) : Chan :=
  let ch := if ch.wdtLate then ch.wdtGap else ch
  match ch.svcKey with
  | none => if v = 0xAC1D#32 then { ch with svcKey := some ch.ptb.toNat } else ch.setBit 0x50014 2
  | some _ =>
    if v = 0x53E2#32 then ({ ch with svcKey := none } : Chan).setReg 0x5000C (ch.reg 0x50004)
    else if v = 0xAC1D#32 then ({ ch with svcKey := some ch.ptb.toNat } : Chan).setBit 0x50014 2
    else ({ ch with svcKey := none } : Chan).setBit 0x50014 2

/-- Whether COUNT runs (R160, R163): not while the channel rests in THAW. -/
def Chan.wdtRuns (ch : Chan) : Bool :=
  ch.life == .up && ch.bit 0x50000 0 && !(ch.mode == 8 && ch.trans.isNone) && !ch.wdtFrozen

/-- COUNT raised to at least 1,000, where a hold ends (R160, R163). -/
def Chan.wdtRaise (ch : Chan) : Chan :=
  if (ch.reg 0x5000C).toNat < 1000 then ch.setReg 0x5000C 1000#32 else ch

/-- One µs of the watchdog: whether it expires (R160, R162). -/
def Chan.wdtTick (ch : Chan) : Chan × Bool :=
  if !ch.wdtRuns then (ch, false) else
  let c := (ch.reg 0x5000C).toNat - 1
  let ch := ch.setReg 0x5000C (BitVec.ofNat 32 c)
  let ch := if (ch.reg 0x50008).toNat = c ∧ c ≠ 0 then ch.setBit 0x50014 0 else ch
  (ch, c == 0)

/-- COUNT reaches WARN (R160). -/
def Chan.wdtWarn (ch : Chan) : Chan :=
  let warn := ch.reg 0x50008
  if ch.wdtRuns ∧ warn ≠ 0#32 ∧ warn.toNat ≤ (ch.reg 0x5000C).toNat then (ch.setReg 0x5000C warn).setBit 0x50014 0 else ch

end Sys2Proof.Machine
end

