-- ==== Sys2Proof/Machine/Mode.lean ====
section
/-! DEFINITION. Mode requests: the request register, acceptance and rejection, and wake events in DEW (R39, R43 to R50). -/

namespace Sys2Proof.Machine

/-- DBG_COREw_STAT (R431). -/
def dbgStat (w : Fin 8) : Nat := 0x300020 + w.val * 4

/-- A core halted by debug (R423). -/
def Chan.halted (ch : Chan) (w : Fin 8) : Bool := ch.fld (dbgStat w) 0 2 == 2

/-- Some core of the channel is halted by debug. -/
def Chan.anyHalted (ch : Chan) : Bool := (List.finRange 8).any ch.halted

/-- The run mode a channel in DEW, FROST or THAW goes through first in a chain: PREV, BREEZE if there is none (R48). That a chain from THAW to DEW,
which the graph does not list, passes through it is a DESIGN CHOICE (log 63). -/
def Chan.prevMode (ch : Chan) : Nat := let p := ch.fld 0x14 12 4; if runMode p then p else 2

/-- Whether a transition between two modes passes through THAW or ends in it (R48, R50). -/
def viaThaw (cur prev tgt : Nat) : Bool :=
  let src := if cur = 6 then prev else cur
  tgt == 8 || (cur != 8 && runMode src && runMode tgt && src != tgt && (4 ≤ src || 4 ≤ tgt))

/-- A transition begun (R44, R50). One that leaves a rest in THAW ends the watchdog's hold (R160). -/
def Chan.beginTrans (ch : Chan) (tgt : Nat) (tag : BitVec 8) (lamp back : Bool) : Chan :=
  let ch := if ch.mode = 8 ∧ tgt ≠ 8 ∧ ch.trans.isNone then ch.wdtRaise else ch
  let ch := { ch with trans := some { tgt := tgt, tag := tag, lamp := lamp, back := back } }
  ((ch.putF 0x14 4 4 tgt).putF 0x14 8 1 1).putF 0x14 9 1 (b2n (viaThaw ch.mode ch.prevMode tgt))

/-- The reason for which a request is rejected, if any (R44, R46): 1 BUSY, 2 ILLEGAL, 3 HALTED, 4 LLDOWN, 5 SNUFFED. -/
def Chan.rejects (ch : Chan) (tgt : Nat) (lamp : Bool) : Option Nat :=
  if ch.trans.isSome || ch.life == .starting || ch.life == .reset then some 1
  else if (tgt == 8 && !lamp) || (tgt == 6 && ch.life == .frost) then some 2
  else if ch.anyHalted then some 3
  else if ch.snuff.isSome && !(lamp && tgt == 7) then some 5
  else if ch.llDown && viaThaw ch.mode ch.prevMode tgt then some 4
  else none

/-- The outcome of a rejection (R44). -/
def Chan.rejectMode (ch : Chan) (code : Nat) : Chan := (ch.putF 0x14 24 4 code).setBit 0x14 28

/-- A mode request of a powered channel (R44). One for the current mode while a core is halted is rejected with HALTED: DESIGN CHOICE (log 63): the
rule also says that a request for the current mode is accepted. The answer: the channel, and the reason when it is rejected. Both paths feed the one request register,
whose MODE is the last value that made a request (R43, R50). -/
def Chan.requestMode (ch : Chan) (tgt : Nat) (tag : BitVec 8) (lamp : Bool) : Chan × Option Nat :=
  let ch := ch.putF 0x10 0 4 tgt
  match ch.rejects tgt lamp with
  | some code => (ch.rejectMode code, some code)
  | none =>
    let tag := if lamp then 0#8 else tag
    let ch := ch.putF 0x14 16 8 tag.toNat
    if tgt = ch.mode then (ch.setBit 0x14 29, none) else (ch.beginTrans tgt tag lamp false, none)

/-- The write of CHN_MODE_REQ by a core (R43, R50): an unlisted MODE makes no request. -/
def Chan.writeModeReq (ch : Chan) (v : W32) : Chan :=
  let mode := getF v 0 4
  let ch := ch.putF 0x10 8 8 (getF v 8 8)
  if mode = 0 ∨ 8 < mode then ch else (ch.requestMode mode (BitVec.ofNat 8 (getF v 8 8)) false).1

/-- A wake event (R39, R47): in DEW it starts the wake; during entry to DEW it is held. -/
def Chan.wakeEvent (ch : Chan) : Chan :=
  match ch.trans with
  | some t => if t.tgt = 6 then { ch with wakeHeld := true } else ch
  | none => if ch.life = .up ∧ ch.mode = 6 then ch.beginTrans ch.prevMode 0#8 true true else ch

/-- Whether a Flare source wakes a channel in DEW (R39). -/
def Chan.sourceWakes (ch : Chan) (v : Nat) : Bool :=
  ch.bit 0x20 1 && ch.ready v && ch.fld 0x20 4 3 < ch.fld (flrCfg v) 0 3

end Sys2Proof.Machine
end

