-- ==== Sys2Proof/Machine/Pin.lean ====
section
/-! DEFINITION. The 64 GPIO of a channel: what drives a ball, the level that PIO_IN and an input function see, and PIO_EVT
(R165 to R167). -/

namespace Sys2Proof.Machine

/-- PIO_PINp_CFG.FUNC, .SEL (R166). -/
def Chan.pinFunc (ch : Chan) (p : Nat) : Nat := ch.fld (0x30000 + p * 4) 0 4
def Chan.pinSel (ch : Chan) (p : Nat) : Nat := ch.fld (0x30000 + p * 4) 4 6

/-- What the device puts on a ball: nothing, a level, or the level of a serial line whose bits this model does not follow. -/
inductive Drive | z | lvl (b : Bool) | any
  deriving DecidableEq, Repr

/-- A bit of a register pair _LO / _HI. -/
def Chan.pairBit (ch : Chan) (off p : Nat) : Bool := ch.bit (off + p / 32 * 4) (p % 32)

/-- The signal of a pin's function before INV and OD (R165, R166). The serial lines carry frames whose bits are not followed:
their level is open while a frame is on them, else idle. -/
def Chan.signal (ch : Chan) (p : Nat) : Drive :=
  let sel := ch.pinSel p
  match ch.pinFunc p with
  | 0 => if ch.pairBit 0x30120 p then .lvl (ch.pairBit 0x30100 p) else .z
  | 1 => .lvl (ch.pairBit 0x30100 p)
  | 2 => .lvl ((ch.tmr[(⟨sel / 4 % 16, Nat.mod_lt _ (by decide)⟩ : Fin 16)]).outs.getLsbD (sel % 4))
  | 4 =>
    let u := ch.io.uart[(⟨sel % 2, Nat.mod_lt _ (by decide)⟩ : Fin 2)]
    (match sel / 2 with
     | 0 => if u.on.isSome then .any else .lvl true
     | 2 => .lvl u.de
     | _ => .z)
  | 5 =>
    let busy := ch.io.spiOn.isSome
    (match sel with
     | 0 => if busy then .any else .lvl (nbit (ch.fld 0x510000 1 2) 1)
     | 1 => .any
     | 2 => .z
     | n => .lvl !((busy || (ch.bit 0x510000 11 && !ch.io.spiTx.isEmpty)) && ch.fld 0x510000 9 2 == n - 3))
  | 6 => if ch.io.i2cBus then .any else .z
  | 7 => if ch.bit 0x530024 11 then .any else if sel = 0 then .lvl false else .z
  | _ => .z

/-- The level the device drives a ball to, with INV and OD (R166). OD is forced for both lines of I²C and for the MDIO line; MDC is driven both ways:
DESIGN CHOICE (log 62): "for I²C and MDIO" may mean FUNC 0x7 whole. -/
def Chan.drive (ch : Chan) (p : Nat) : Drive :=
  let cfg := 0x30000 + p * 4
  let od := ch.bit cfg 13 || ch.pinFunc p == 6 || (ch.pinFunc p == 7 && ch.pinSel p == 1)
  match ch.signal p with
  | .lvl b => let b := b != ch.bit cfg 10; if od && b then .z else .lvl b
  | d => d

/-- A level at a ball, if the device, the outside or a pull defines it (R165). -/
def Chan.ball (ch : Chan) (p : Nat) : Option Bool :=
  let ext := ch.pinExt.getLsbD p
  let lv := ch.pinIn.getLsbD p
  match ch.drive p with
  | .lvl b => if ext && lv != b then none else some b
  | .any => none
  | .z => if ext then some lv else
      match ch.fld (0x30000 + p * 4) 11 2 with | 1 => some false | 2 => some true | _ => none

/-- A sample of a ball after INV: a ball of no defined level reads 0 or 1 (R165). -/
def Chan.sample (ch : Chan) (p : Nat) : Bool :=
  (match ch.ball p with | some b => b | none => ch.pick (400 + p) 2 == 1) != ch.bit (0x30000 + p * 4) 10

/-- PIO_IN: what the second stage of the synchroniser holds (R165, R166). -/
def Chan.pioIn (ch : Chan) (hi : Bool) : W32 := (ch.pinSync.1 >>> (if hi then 32 else 0)).truncate 32

/-- One cycle of the 300 MHz clock of the synchroniser (R165). -/
def Chan.pinClock (ch : Chan) : Chan := { ch with pinSync := (ch.pinSync.2, ofBits 64 ch.sample) }

/-- A ball driven from both sides (R165). -/
def Chan.contested (ch : Chan) (p : Nat) : Bool :=
  ch.pinExt.getLsbD p && (match ch.drive p with | .lvl b => ch.pinIn.getLsbD p != b | .any => true | .z => false)

/-- The pin an input function sees: the lowest-numbered that selects it (R165). -/
def Chan.inputPin (ch : Chan) (func sel : Nat) : Option Nat :=
  (List.range 64).find? fun p => ch.pinFunc p == func && ch.pinSel p == sel

/-- PIO_EVT bits for pins whose level, after INV, moved between two conditions of the channel (R165, R166): a pin without a defined level
may show an edge; nothing but PIO_IN and the input functions depends on one that is driven from both sides. -/
def Chan.pinsMoved (old new : Chan) : Chan :=
  (List.range 64).foldl (fun (ch : Chan) p =>
    let cfg := 0x30000 + p * 4
    let e := ch.fld cfg 14 2
    if e = 0 ∨ old.contested p ∨ new.contested p ∨ ((new.ball p).isSome ∧ old.ball p = new.ball p ∧ old.bit cfg 10 = new.bit cfg 10) then ch else
    let a := old.sample p
    let b := new.sample p
    if a = b then ch else
    if (b && nbit e 0) || (!b && nbit e 1) then ch.setBit (0x30130 + p / 32 * 4) (p % 32) else ch) new

/-- The output latch changed (R166). -/
def Chan.setOut (ch : Chan) (hi : Bool) (f : W32 → W32) : Chan :=
  let off := if hi then 0x30104 else 0x30100
  ch.pinsMoved (ch.setReg off (f (ch.reg off)))

/-- A phase alarm slot's pin action: set, clear or toggle a pin that the PTB owns (R137, R165). -/
def Chan.pinAction (ch : Chan) (p op : Nat) : Chan :=
  if ch.pinFunc p ≠ 1 then ch else
  let m : W32 := BitVec.ofNat 32 (2 ^ (p % 32))
  ch.setOut (decide (32 ≤ p)) fun x => match op with | 0 => x ||| m | 1 => x &&& ~~~m | _ => x ^^^ m

end Sys2Proof.Machine
end

