-- ==== Sys2Proof/Machine/Timer.lean ====
section
/-! DEFINITION. The sixteen timers: counting, compares, outputs with dead time, capture (R145 to R159); pin edges and what they
feed (R165). -/

namespace Sys2Proof.Machine

/-- Base of timer *n* (R159). -/
def tb (n : Fin 16) : Nat := 0x20000 + n.val * 0x100

def Chan.tm (ch : Chan) (n : Fin 16) : Tmr := ch.tmr[n]
def Chan.onTm (ch : Chan) (n : Fin 16) (f : Tmr → Tmr) : Chan := { ch with tmr := ch.tmr.set n (f ch.tmr[n]) }

/-- The even timer of a pair, and the odd one. -/
def evenOf (n : Fin 16) : Fin 16 := ⟨n.val / 2 * 2, by omega⟩
def oddOf (n : Fin 16) : Fin 16 := ⟨n.val / 2 * 2 + 1, by omega⟩

def Chan.tmRun (ch : Chan) (n : Fin 16) : Bool := ch.bit (tb n) 0
/-- CHAIN counts on odd timers only (R147). -/
def Chan.chained (ch : Chan) (n : Fin 16) : Bool := n.val % 2 == 1 && ch.bit (tb n) 2
/-- Up-down counting: MODE 1, and not chained (R147). -/
def Chan.updown (ch : Chan) (n : Fin 16) : Bool := ch.bit (tb n) 1 && !ch.chained n
/-- DIR (R159): 0 in up mode. -/
def Chan.tmDir (ch : Chan) (n : Fin 16) : Bool := ch.updown n && (ch.tm n).down
/-- The PER that up-down mode uses (R146). -/
def Chan.perUD (ch : Chan) (n : Fin 16) : Nat := min (max (ch.reg (tb n + 4)).toNat 1) 0x7FFFFFFF
def Chan.cnt (ch : Chan) (n : Fin 16) : Nat := (ch.reg (tb n + 8)).toNat

/-- Output levels for a reference and a FORCE (R151): H, L. -/
def wanted (force : Nat) (ref : Bool) : Bool × Bool :=
  match force with | 0 => (ref, !ref) | 1 => (false, false) | 2 => (true, false) | _ => (false, true)

/-- Outputs brought to their references: a falling edge at once, a rising edge after DT (R151). While RUN is 0 they hold (R145), but for
FORCE 0b01, which puts both low at once (R151; log 56). -/
def Chan.tmOut (ch : Chan) (n : Fin 16) : Chan :=
  let ocfg := tb n + 0x18
  let dt := ch.fld ocfg 8 12
  let t := ch.tm n
  let (ah, al) := wanted (ch.fld ocfg 2 2) t.refA
  let (bh, bl) := wanted (ch.fld ocfg 6 2) t.refB
  let t' := [(0, ah), (1, al), (2, bh), (3, bl)].foldl (fun (t : Tmr) (x : Nat × Bool) =>
    if !ch.tmRun n && ch.fld ocfg (if x.1 < 2 then 2 else 6) 2 != 1 then t
    else if !x.2 then { t with outs := t.outs &&& ~~~(BitVec.ofNat 4 (2 ^ x.1)), rise := t.rise.filter fun r => r.1 != x.1 }
    else if t.outs.getLsbD x.1 ∨ t.rise.any (fun r => r.1 == x.1) then t
    else if dt = 0 then { t with outs := t.outs ||| BitVec.ofNat 4 (2 ^ x.1) }
    else { t with rise := t.rise ++ [(x.1, dt)] }) t
  if t' = t then ch else ch.pinsMoved (ch.onTm n fun _ => t')

/-- A delayed rising edge takes place (R151), while RUN is 1 (R145). -/
def Chan.tmRise (ch : Chan) (n : Fin 16) (o : Nat) : Chan :=
  if ch.tmRun n && (ch.tm n).rise.any fun r => r.1 == o then
    ch.pinsMoved (ch.onTm n fun t => { t with outs := t.outs ||| BitVec.ofNat 4 (2 ^ o), rise := t.rise.filter fun r => r.1 != o })
  else ch

/-- What a tick does to the reference of compare `b` (R150). -/
def refAct (act : Nat) (updown hit zero up ref : Bool) : Bool :=
  match act with
  | 1 => if updown then (if hit then !up else ref) else (if hit then false else if zero then true else ref)
  | 2 => if hit then !ref else ref
  | _ => ref

/-- Compare values that wait for a tick boundary come into force (R152). -/
def Chan.tmLatch (ch : Chan) (n : Fin 16) : Chan :=
  let t := ch.tm n
  let ch := match t.newA with | some v => ch.setReg (tb n + 0x10) v | none => ch
  let ch := match t.newB with | some v => ch.setReg (tb n + 0x14) v | none => ch
  if t.newA.isSome ∨ t.newB.isSome then ch.onTm n fun t => { t with newA := none, newB := none } else ch

/-- One tick: the count, its flags, the matches and the outputs (R146, R149, R150, R155); whether the tick made CNT 0. -/
def Chan.tmStep (ch : Chan) (n : Fin 16) : Chan × Bool :=
  let t := ch.tm n
  let c := ch.cnt n
  let ud := ch.updown n
  let p := ch.perUD n
  let up := !ud || (if t.down then c == 0 else decide (c < p))
  let new :=
    if ud then (if up then c + 1 else c - 1)
    else if t.clr ∨ c = (ch.reg (tb n + 4)).toNat then 0 else (c + 1) % 2 ^ 32
  let zero := new == 0
  let peak := ud && up && decide (p ≤ new)
  let ch := (ch.setReg (tb n + 8) (BitVec.ofNat 32 new)).onTm n fun t => { t with down := ud && (if up then peak else !zero), clr := false }
  let ch := if zero then ch.setBit (tb n + 0x1C) 0 else ch
  let ch := if peak then ch.setBit (tb n + 0x1C) 1 else ch
  let hitA := (ch.reg (tb n + 0x10)).toNat == new
  let hitB := (ch.reg (tb n + 0x14)).toNat == new
  let ch := if hitA then ch.setBit (tb n + 0x1C) 2 else ch
  let ch := if hitB then ch.setBit (tb n + 0x1C) 3 else ch
  let ch := ch.onTm n fun t => { t with
    refA := refAct (ch.fld (tb n + 0x18) 0 2) ud hitA zero up t.refA, refB := refAct (ch.fld (tb n + 0x18) 4 2) ud hitB zero up t.refB }
  (ch.tmOut n, zero)

/-- A tick boundary of one timer: a tick, or a written count in its place (R148); then waiting compare values (R152). -/
def Chan.tmBoundary (ch : Chan) (n : Fin 16) : Chan × Bool :=
  match (ch.tm n).newC with
  | some v => (((ch.setReg (tb n + 8) v).onTm n fun t => { t with newC := none }).tmLatch n, false)
  | none => let (ch, z) := ch.tmStep n; (ch.tmLatch n, z)

/-- A tick boundary of a timer and of the odd timer chained to it, which ticks for each ZERO (R147). -/
def Chan.tmTick (ch : Chan) (n : Fin 16) : Chan :=
  let (ch, zero) := ch.tmBoundary n
  let o := oddOf n
  if zero && n.val % 2 == 0 && ch.chained o && ch.tmRun o then (ch.tmBoundary o).1 else ch

/-! Capture (R155 to R157). -/

/-- A captured value entered into CAP*m* of a timer, with its flags (R156). -/
def Chan.capEnter (ch : Chan) (n : Fin 16) (m : Fin 4) (lo : W32) (hi : Option W32) (dir quiet : Bool) : Chan :=
  let was := ch.bit (tb n + 0x1C) (8 + m.val)
  let ch := (ch.setReg (tb n + 0x30 + m.val * 4) lo).setBit (tb n + 0x1C) (8 + m.val)
  let ch := match hi with | some h => ch.setReg (tb (oddOf n) + 0x30 + m.val * 4) h | none => ch
  let ch := ch.putF (tb n + 0x28) m.val 1 (b2n dir)
  if was && !quiet then ch.setBit (tb n + 0x1C) (12 + m.val) else ch

/-- A capture edge on input *m* (R155 to R157). The odd timer of a chained pair captures nothing of its own. -/
def Chan.capture (ch : Chan) (n : Fin 16) (m : Fin 4) (quiet : Bool) : Chan :=
  if ch.chained n then ch else
  let pair := n.val % 2 == 0 && ch.chained (oddOf n)
  let lo := ch.reg (tb n + 8)
  let hi := if pair then some (ch.reg (tb (oddOf n) + 8)) else none
  let dir := ch.tmDir n
  let ch :=
    if pair && (ch.tm n).half.contains m.val then
      ch.onTm n fun t => { t with held := t.held ++ [{ input := m.val, lo := lo, hi := hi.getD 0#32, dir := dir }] }
    else ch.capEnter n m lo hi dir quiet
  if ch.bit (tb n + 0x24) (8 * m.val + 4) && !ch.updown n then ch.onTm n fun t => { t with clr := true } else ch

/-- Whether CAPCFG of input *m* selects an edge (R155, R159). -/
def Chan.capSel (ch : Chan) (n : Fin 16) (m : Fin 4) (rising : Bool) : Bool :=
  nbit (ch.fld (tb n + 0x24) (8 * m.val) 2) (if rising then 0 else 1)

/-- The glitch filter of input *m*, in 300 MHz cycles (R155). -/
def Chan.capFilt (ch : Chan) (n : Fin 16) (m : Fin 4) : Nat :=
  match ch.fld (tb n + 0x24) (8 * m.val + 2) 2 with | 0 => 0 | 1 => 2 | 2 => 6 | _ => 48

/-- An edge at a capture input: it captures 3 cycles and the filter's width later, and one that ends a pulse narrower than the filter takes the
pulse's first edge back with it (R155). -/
def Chan.capEdge (ch : Chan) (n : Fin 16) (m : Fin 4) (rising : Bool) : Chan :=
  ch.onTm n fun t =>
    match t.edges.reverse.find? fun e => e.input == m.val with
    | some e => if 3 < e.left then { t with edges := t.edges.erase e } else { t with edges := t.edges ++ [⟨m.val, rising, 3 + ch.capFilt n m⟩] }
    | none => { t with edges := t.edges ++ [⟨m.val, rising, 3 + ch.capFilt n m⟩] }

/-- One cycle of the 300 MHz clock in a timer's capture filters: an edge whose time has come captures if EDGE then selects it (R155): DESIGN
CHOICE (log 62): the rule does not say at which instant EDGE counts. -/
def Chan.capClock (ch : Chan) (n : Fin 16) : Chan :=
  let es := (ch.tm n).edges
  if es.isEmpty then ch else
  let ch := ch.onTm n fun t => { t with edges := (es.filter fun e => decide (1 < e.left)).map fun e => { e with left := e.left - 1 } }
  (es.filter fun e => decide (e.left ≤ 1)).foldl (fun (ch : Chan) e =>
    let m : Fin 4 := ⟨e.input % 4, Nat.mod_lt _ (by decide)⟩
    if ch.capSel n m e.rising then ch.capture n m false else ch) ch

/-- One cycle of the 300 MHz clock for one timer (R145, R148, R152): a tick if it falls here. While RUN is 0 the outputs hold. -/
def Chan.tmClock1 (ch : Chan) (n : Fin 16) : Chan :=
  if !ch.tmRun n then
    let ch := match (ch.tm n).newC with
      | some v => (ch.setReg (tb n + 8) v).onTm n fun t => { t with newC := none }
      | none => ch
    ch.tmLatch n
  else if ch.chained n then ch
  else if ch.fld (tb n) 16 16 ≤ (ch.tm n).pre then (ch.onTm n fun t => { t with pre := 0 }).tmTick n
  else ch.onTm n fun t => { t with pre := t.pre + 1 }

/-- The rising edges of a timer that wait out the dead time: those that waited before the cycle's ticks are a cycle nearer (R151). -/
def Chan.tmDead (old ch : Chan) (n : Fin 16) : Chan :=
  let was := (old.tm n).rise
  if was.isEmpty || !ch.tmRun n then ch else
  let waited := fun (r : Nat × Nat) => was.any fun x => x.1 == r.1
  let done := ((ch.tm n).rise.filter fun r => waited r && decide (r.2 ≤ 1)).map fun r => r.1
  let ch := ch.onTm n fun t => { t with rise := t.rise.map fun r => if waited r then (r.1, r.2 - 1) else r }
  done.foldl (fun ch o => ch.tmRise n o) ch

/-- One cycle of the 300 MHz clock: every timer's tick, whichever timer it is chained to, then the dead times, then the captures whose time
has come (R147, R151, R155). -/
def Chan.tmClock (ch : Chan) : Chan :=
  let new := (List.finRange 16).foldl (fun ch n => ch.tmClock1 n) ch
  let new := (List.finRange 16).foldl (fun x n => Chan.tmDead ch x n) new
  (List.finRange 16).foldl (fun ch n => ch.capClock n) new

/-- RUN set or cleared; starting restarts the prescaler, and the outputs follow their references again (R145). -/
def Chan.tmSetRun (ch : Chan) (n : Fin 16) (on : Bool) : Chan :=
  let was := ch.tmRun n
  let ch := ch.putF (tb n) 0 1 (b2n on)
  if on && !was then (ch.onTm n fun t => { t with pre := 0 }).tmOut n else ch

/-- An ordinary read of CAP*m* (R156, R157): the odd half of a chained pair is read first, the even half second. -/
def Chan.capRead (ch : Chan) (n : Fin 16) (m : Fin 4) : Chan × W32 :=
  let v := ch.reg (tb n + 0x30 + m.val * 4)
  if ch.chained n then (ch.onTm (evenOf n) fun t => { t with half := m.val :: t.half.filter (· != m.val) }, v) else
  let ch := ch.putF (tb n + 0x1C) (8 + m.val) 1 0
  let t := ch.tm n
  if !t.half.contains m.val then (ch, v) else
  let mine := t.held.filter fun h => h.input == m.val
  let ch := ch.onTm n fun t => { t with half := t.half.filter (· != m.val), held := t.held.filter fun h => h.input != m.val }
  (mine.foldl (fun ch h => ch.capEnter n m h.lo (some h.hi) h.dir false) ch, v)

/-! Pin edges (R165). -/

/-- The level of a capture input: none while no pin selects it. -/
def Chan.capLevel (ch : Chan) (sel : Nat) : Option Bool := (ch.inputPin 3 sel).map ch.sample

/-- A capture input whose level moved has an edge. -/
def Chan.capFeed (old new : Chan) (sel : Nat) : Chan :=
  match old.capLevel sel, new.capLevel sel with
  | some a, some b =>
    let n : Fin 16 := ⟨sel / 4 % 16, Nat.mod_lt _ (by decide)⟩
    let m : Fin 4 := ⟨sel % 4, Nat.mod_lt _ (by decide)⟩
    if a ≠ b then new.capEdge n m b else new
  | _, _ => new

/-- The outside drives a ball to a level: PIO_EVT, and the input function of the pin (R165). -/
def Chan.pinEdge (ch : Chan) (p : Nat) (level : Bool) : Chan :=
  let bit : BitVec 64 := BitVec.ofNat 64 (2 ^ p)
  let new := { ch with pinExt := ch.pinExt ||| bit, pinIn := if level then ch.pinIn ||| bit else ch.pinIn &&& ~~~bit }
  let new := ch.pinsMoved new
  if ch.pinFunc p = 3 ∧ ch.inputPin 3 (ch.pinSel p) = some p then ch.capFeed new (ch.pinSel p) else new

/-- The pins that no driver and no pull holds show levels that nothing defines: edges in PIO_EVT and at capture inputs may follow from one PTB
cycle to the next (R165). `old` is the channel a cycle before. -/
def Chan.floatEdges (ch old : Chan) : Chan :=
  (List.range 64).foldl (fun (ch : Chan) p =>
    if ch.pinFunc p = 3 ∧ ch.ball p = none ∧ ch.inputPin 3 (ch.pinSel p) = some p then old.capFeed ch (ch.pinSel p) else ch) (old.pinsMoved ch)

/-- Whether SEL is listed for a FUNC (R166). -/
def selListed (func sel : Nat) : Bool :=
  match func with
  | 4 => sel < 6
  | 5 => sel < 7
  | 6 | 7 => sel < 2
  | _ => true

/-- A write of PIO_PINp_CFG: an input function may see another pin, and an edge (R165). -/
def Chan.pinCfg (ch : Chan) (p : Nat) (v : W32) : Chan :=
  let off := 0x30000 + p * 4
  let img := regWritten off (ch.reg off) v
  let img := if selListed (getF img 0 4) (getF img 4 6) then img else setF img 4 6 (ch.fld off 4 6)
  let new := ch.pinsMoved (ch.setReg off img)
  let a := ch.pinSel p
  let b := new.pinSel p
  let was := ch.pinFunc p == 3
  let is := new.pinFunc p == 3
  let one := if was then ch.capFeed new a else new
  if is && !(was && a == b) then ch.capFeed one b else one

end Sys2Proof.Machine
end

