-- ==== Sys2Proof/Machine/Ptb.lean ====
section
/-! DEFINITION. The Phase Timebase: trackers, their sources, alarm slots, and what a firing does (R118 to R144). -/

namespace Sys2Proof.Machine

/-- Bases of tracker *k* and slot *n* (R144). -/
def kb (k : Fin 4) : Nat := 0x10100 + k.val * 0x40
def nb (n : Fin 64) : Nat := 0x11000 + n.val * 0x20

/-- STAT.STATE (R127). -/
def Chan.trkState (ch : Chan) (k : Fin 4) : Nat := ch.fld (kb k + 0x18) 0 3
def Chan.trkSrc (ch : Chan) (k : Fin 4) : Nat := ch.fld (kb k) 0 3
/-- STAT.DIR: true backward (R144). -/
def Chan.trkDir (ch : Chan) (k : Fin 4) : Bool := ch.bit (kb k + 0x18) 3
def Chan.tk (ch : Chan) (k : Fin 4) : Trk := ch.trk[k]
def Chan.onTk (ch : Chan) (k : Fin 4) (f : Trk → Trk) : Chan := { ch with trk := ch.trk.set k (f ch.trk[k]) }
/-- The position TURN × 2^32 + ANGLE (R119). -/
def Chan.pos (ch : Chan) (k : Fin 4) : W64 := ch.reg (kb k + 0x24) ++ ch.reg (kb k + 0x20)
/-- SPEED, in 2^-16 angle units per PTB cycle (R126). -/
def Chan.speed (ch : Chan) (k : Fin 4) : Int := (ch.reg (kb k + 0x28)).toInt
/-- The largest speed, 4,000 turns/s, in SPEED's units (R127): 4000 × 2^48 / (600 × 10^6). -/
def maxSpeed : Nat := 1876499844
/-- The signed distance of R132. -/
def dist (p q : W64) : Int := (q - p).toInt
/-- The position advanced by LEAD × SPEED (R137). -/
def Chan.adv (ch : Chan) (k : Fin 4) : W64 :=
  ch.pos k + BitVec.ofInt 64 (((ch.tk k).frac + ch.fld (kb k + 0x14) 0 16 * ch.speed k) / 65536)
def Chan.setState (ch : Chan) (k : Fin 4) (s : Nat) : Chan := ch.putF (kb k + 0x18) 0 3 s
def Chan.setDir (ch : Chan) (k : Fin 4) (bwd : Bool) : Chan := ch.putF (kb k + 0x18) 3 1 (b2n bwd)
/-- A STAT flag of a tracker: 4 LOCKLOST, 5 REV, 6 JUMP, 7 TURNWRAP, 8 SRCERR, 9 LOCKGAIN. -/
def Chan.trkFlag (ch : Chan) (k : Fin 4) (b : Nat) : Chan := ch.setBit (kb k + 0x18) b
def Chan.setPos (ch : Chan) (k : Fin 4) (p : W64) : Chan :=
  (ch.setReg (kb k + 0x20) (p.truncate 32)).setReg (kb k + 0x24) ((p >>> 32).truncate 32)

/-! Slots. -/

def Chan.armed (ch : Chan) (n : Fin 64) : Bool := ch.bit (nb n) 0
def Chan.slotTrk (ch : Chan) (n : Fin 64) : Fin 4 := ⟨ch.fld (nb n) 1 2 % 4, Nat.mod_lt _ (by decide)⟩
def Chan.periodic (ch : Chan) (n : Fin 64) : Bool := ch.bit (nb n) 3
/-- DIR admits a direction (R134). -/
def Chan.dirOk (ch : Chan) (n : Fin 64) (bwd : Bool) : Bool := let d := ch.fld (nb n) 4 2; d == 2 || d == b2n bwd
/-- The target position of a one-shot slot. -/
def Chan.target (ch : Chan) (n : Fin 64) : W64 := ch.reg (nb n + 0xC) ++ ch.reg (nb n + 8)
def Chan.onSlot (ch : Chan) (n : Fin 64) (f : Slot → Slot) : Chan := { ch with slot := ch.slot.set n (f ch.slot[n]) }
/-- The last position at or behind `p` in a direction that has a slot's ANGLE (R133). -/
def Chan.lastAngle (ch : Chan) (n : Fin 64) (p : W64) (bwd : Bool) : W64 :=
  let a := ch.reg (nb n + 8)
  if bwd then p + zx (a - p.truncate 32 : W32) else p - zx ((p.truncate 32 : W32) - a)

/-- PTB_WRELw_LO / _HI (R144). -/
def wrel (w : Fin 8) (n : Fin 64) : Nat := 0x12000 + w.val * 8 + n.val / 32 * 4
def Chan.relBit (ch : Chan) (w : Fin 8) (n : Fin 64) : Bool := ch.bit (wrel w n) (n.val % 32)
def Chan.clrRel (ch : Chan) (w : Fin 8) (n : Fin 64) : Chan := ch.putF (wrel w n) (n.val % 32) 1 0

/-- The end of a WAITPH that holds issue (R83): status written, PC advanced, a slot A kept for what issues beside it (R61). It costs 2 where
the costs are fixed, and the time until the release, which falls between two PTB cycles at a place that is free (R115; log 16). A recorded
fault comes first: the WAITPH executes again after its handler (R101). -/
def Chan.endWaitph (m : MantleTable) (ch : Chan) (w : Fin 8) (rd : Fin 32) (status : W64) : Chan :=
  let c := ch.core w
  if c.dueFault.isSome then ch else
  let word := encP c.waitP rd.val 0 0 0 0
  let opens := ch.opensPair w c.pc word
  let held := (if ch.fixedCore w then 1 else 0) + ch.choice 612
  let ch := if c.stepping then ch.putF (dbgStat w) 4 3 1 else ch
  let ch := (((ch.elapse m w held).windowTick w held).wg w rd 1 status).onCore w fun (x : Core) =>
    { x with wait := .none, pc := x.pc + 4#64, slotA := if opens then some ⟨c.pc, word⟩ else none, stepping := false }
  let ch := (((ch.pmuTick m w 1).bumpFix m w 1 9 1).events m w 2 1).pmuSlots m w 1 0 0 (ch.slotsPer w - 1 - b2n opens)
  let t := (ch.core w).cyc
  ((ch.onCore w fun (x : Core) => { x with cyc := t + 1, flight := (x.flight.filter fun f => decide (t + 1 < f.at' + 7)) ++ [⟨c.pc, word, t, false⟩] }).windowTick
    w 1).traceStep m w c.pc c.pcc.mantle t

/-- Whether a core stands still for a transition or in a snuffed channel (R45, R47, R209): its WAITPH neither ends nor counts its timeout; it is
executed again, with the release bit as it is then, when the core resumes. -/
def Chan.stands (ch : Chan) (w : Fin 8) : Bool := ch.snuff.isSome || (ch.trans.isSome && !(ch.core w).wact)

/-- The cores that wait at WAITPH on a slot and have no fault to take first. -/
def Chan.waiters (ch : Chan) (n : Fin 64) : List (Fin 8 × Fin 32) :=
  (List.finRange 8).filterMap fun w =>
    match (ch.core w).wait with
    | .waitph s rd _ => if s = n ∧ (ch.core w).dueFault.isNone ∧ !ch.stands w then some (w, rd) else none
    | _ => none

/-- Cancellation (R135): waiting cores complete with status 3, queued writes are discarded and counted. It has no effect on a slot that fires in
the same PTB cycle (R141). -/
def Chan.cancel (m : MantleTable) (ch : Chan) (n : Fin 64) (cause : Nat) : Chan :=
  if ch.fired.contains n then ch else
  let ch := (((ch.putF (nb n) 0 1 0).setBit (nb n + 0x18) 3).putF (nb n + 0x18) 5 2 cause).onSlot n fun s => { s with eval := false }
  let gone := (ch.stph.filter fun e => e.slot = n).length
  let v := sticky 0xFFFF (ch.fld 0x10014 0 16) gone
  let ch := if gone = 0 then ch else
    let ch := ({ ch with stph := ch.stph.filter fun e => e.slot ≠ n } : Chan).putF 0x10014 0 16 v
    if v = 0xFFFF then ch.setBit 0x10014 16 else ch
  (ch.waiters n).foldl (fun ch x => ch.endWaitph m x.1 x.2 3#64) ch

/-- Whether a PTB_TIME has come at another. -/
def dueBy (due now : W64) : Bool := decide (0 ≤ (now - due).toInt)

/-- An action on its way out, after those due no later (R139). -/
def Chan.onRel (ch : Chan) (due : W64) (act : RelAct) : Chan :=
  { ch with rel := ch.rel.takeWhile (fun e => dueBy e.due due) ++ ⟨due, act⟩ :: ch.rel.dropWhile fun e => dueBy e.due due }

/-- Whether the release path can deliver a write to a register in a cycle: at most 8 in one, one to a register (R139). -/
def Chan.relRoom (ch : Chan) (due : W64) (off : Nat) : Bool :=
  let there := ch.rel.filterMap fun e => match e.act with | .write x => if e.due = due then some x.off else none | _ => none
  decide (there.length < 8) && !there.contains off

/-- The first cycle from a due time on that can deliver a write; n bounds the search. A write that waits for its register holds up no later
write to another one: DESIGN CHOICE (log 61). -/
def Chan.relSlot (ch : Chan) (off : Nat) (due : W64) : Nat → W64
  | 0 => due
  | n + 1 => if ch.relRoom due off then due else Chan.relSlot ch off (due + 1#64) n

/-- A queued write released: it takes effect 12 PTB cycles after the cycle that delivers it (R138, R139). -/
def Chan.relWrite (ch : Chan) (e : StphEnt) : Chan :=
  ch.onRel (ch.relSlot e.off (ch.ptb + 12#64) ch.rel.length) (.write e)

/-- A TURN noted in the record of a periodic slot's firings (R134). A run spans 2^31 TURNs at most, so that none is taken for the same TURN
after a wrap (log 55). -/
def noteTurn (t : W32) (bwd : Bool) (l : List (W32 × Nat)) : List (W32 × Nat) :=
  if l.any fun r => decide ((t - r.1).toNat < r.2) then l else
  match l with
  | (s, n) :: rest =>
    if !bwd && t == s + BitVec.ofNat 32 n then (if n < 2 ^ 31 then (s, n + 1) else (s + 1#32, n)) :: rest
    else if bwd && t + 1#32 == s then (t, min (n + 1) (2 ^ 31)) :: rest
    else (t, 1) :: l
  | [] => [(t, 1)]

/-- Whether a periodic slot has fired in a TURN in a direction since it was armed (R134). -/
def Chan.firedIn (ch : Chan) (n : Fin 64) (bwd : Bool) (t : W32) : Bool :=
  (if bwd then ch.slot[n].firedB else ch.slot[n].firedF).any fun r => decide ((t - r.1).toNat < r.2)

/-- The TURN of the last position with a slot's ANGLE at or behind a position in a direction. -/
def Chan.lastTurn (ch : Chan) (n : Fin 64) (p : W64) (bwd : Bool) : W32 := ((ch.lastAngle n p bwd) >>> 32).truncate 32

/-- A firing (R137, R139): its released writes leave the queue of R140 at once, whenever they go out: DESIGN CHOICE (log 61). Actions in their order, then the slot's status. Released writes and the pin action take effect 12 PTB cycles later
(R138), the timer action at the first timer-clock edge from then on (R148). `p` is the position that decides which TURN a periodic slot
fires in. -/
def Chan.fire (m : MantleTable) (ch : Chan) (n : Fin 64) (late byDl bwd : Bool) (p : W64) : Chan :=
  let act := nb n + 4
  let k := ch.slotTrk n
  let at' := ch.adv k
  let ch := if ch.bit act 4 then ch.onRel (ch.ptb + 12#64) (.pin (ch.fld act 5 6) (ch.fld act 11 2)) else ch
  let ch := if ch.bit act 2 then
      (ch.stph.filter fun e => e.slot = n).foldl Chan.relWrite { ch with stph := ch.stph.filter fun e => e.slot ≠ n }
    else ch
  let ch := if ch.bit act 13 then
      ch.onRel (ch.ptb + BitVec.ofNat 64 (12 + ch.subCyc)) (.timer ⟨ch.fld act 14 4 % 16, Nat.mod_lt _ (by decide)⟩ (!ch.bit act 18))
    else ch
  let ch := if ch.bit act 1 then
      let ch := (List.finRange 8).foldl (fun (ch : Chan) w => ch.setBit (wrel w n) (n.val % 32)) ch
      (ch.waiters n).foldl (fun ch x => (ch.clrRel x.1 n).endWaitph m x.1 x.2 0#64) ch
    else ch
  let ch := if ch.bit act 0 then ch.pulseSrc (32 + n.val) else ch
  let ch := if ch.bit act 3 && ch.bit 0x20 0 then ch.wakeEvent else ch
  let st := nb n + 0x18
  let ch := (ch.setBit st 0).putF st 16 16 (at'.toNat / 2 ^ 32)
  let ch := if late then ch.setBit st 1 else ch
  let ch := if byDl then ch.setBit st 2 else ch
  let ch := if ch.periodic n then
      let turn := ch.lastTurn n p bwd
      ch.onSlot n fun s => if bwd then { s with firedB := noteTurn turn true s.firedB } else { s with firedF := noteTurn turn false s.firedF }
    else (ch.putF (nb n) 0 1 0).onSlot n fun s => { s with eval := false }
  ({ ch with fired := n :: ch.fired } : Chan).trigger 3 n.val

/-- A slot that has missed its target, at or before a position (R135). -/
def Chan.missed (m : MantleTable) (ch : Chan) (n : Fin 64) (bwd : Bool) (p : W64) : Chan :=
  if ch.bit (nb n) 6 then ch.cancel m n 2 else ch.fire m n true false bwd p

/-- The evaluation of an armed one-shot slot at arming or at entry to LOCKED (R134): with the advanced position (R137; log 12). -/
def Chan.evalSlot (m : MantleTable) (ch : Chan) (n : Fin 64) : Chan :=
  let k := ch.slotTrk n
  let ch := ch.onSlot n fun s => { s with eval := false }
  let dir := ch.fld (nb n) 4 2
  let bwd := if dir = 2 then ch.trkDir k else dir == 1
  let d := dist (ch.adv k) (ch.target n)
  if (if bwd then decide (0 ≤ d) else decide (d ≤ 0)) then ch.missed m n bwd (ch.adv k) else ch

/-- The deadline has been reached (R136). -/
def Chan.deadlineHit (ch : Chan) (n : Fin 64) : Bool :=
  let dl : W64 := ch.reg (nb n + 0x14) ++ ch.reg (nb n + 0x10)
  ch.bit (nb n) 8 && !ch.periodic n && decide (0 ≤ (ch.ptb - (dl - BitVec.ofNat 64 (ch.fld (kb (ch.slotTrk n) + 0x14) 0 16))).toInt)

/-- An armed one-shot slot fires when its deadline is reached (R136). -/
def Chan.deadline (m : MantleTable) (ch : Chan) (n : Fin 64) : Chan :=
  if ch.armed n && ch.deadlineHit n then ch.fire m n false true (ch.trkDir (ch.slotTrk n)) (ch.adv (ch.slotTrk n)) else ch

/-- Whether a motion of the advanced position from a to b crosses a slot's target: for a periodic slot, a position with its angle that lies
in the motion, which is where the distance of the angles passes zero, and in a TURN it has not yet fired in (R132, R134). -/
def Chan.crosses (ch : Chan) (n : Fin 64) (a b : W64) (bwd : Bool) : Bool :=
  let q := if ch.periodic n then ch.lastAngle n b bwd else ch.target n
  let hit : Bool := if bwd then decide (dist a q < 0 ∧ 0 ≤ dist b q) else decide (0 < dist a q ∧ dist b q ≤ 0)
  hit && !(ch.periodic n && ch.firedIn n bwd ((q >>> 32).truncate 32))

/-- An armed slot of tracker k fires when a motion of the advanced position in a direction crosses its target (R132). -/
def Chan.crossSlot (m : MantleTable) (ch : Chan) (k : Fin 4) (a : W64) (bwd : Bool) (n : Fin 64) : Chan :=
  if ch.armed n && ch.slotTrk n == k && ch.dirOk n bwd && ch.crosses n a (ch.adv k) bwd then ch.fire m n false false bwd (ch.adv k) else ch

/-- Slots that a motion of tracker k's advanced position from a crosses fire, the lower-numbered first (R132, R139). -/
def Chan.cross (m : MantleTable) (ch : Chan) (k : Fin 4) (a : W64) (bwd : Bool) : Chan :=
  (List.finRange 64).foldl (fun (ch : Chan) n => ch.crossSlot m k a bwd n) ch

/-- The direction of a motion between two positions; of one within an angle unit, the direction of the speed (R132). -/
def Chan.moveDir (ch : Chan) (k : Fin 4) (old new : W64) : Bool :=
  if dist old new < 0 then true else if 0 < dist old new then false
  else if ch.speed k < 0 then true else if 0 < ch.speed k then false else ch.trkDir k

/-- A tracker moved to a position, and TURNWRAP when TURN passes its wrap (R119, R120). -/
def Chan.moveTo (ch : Chan) (k : Fin 4) (p : W64) (frac : Nat) : Chan :=
  let old := ch.pos k
  let ch := (ch.setPos k p).onTk k fun t => { t with frac := frac }
  let wraps : Bool := if dist old p < 0 then decide (old.toNat < p.toNat) else decide (p.toNat < old.toNat)
  if wraps then ch.trkFlag k 7 else ch

/-- Motion of a tracker to a position, with SPEED as it then is; `a` is the advanced position before it (R132). -/
def Chan.motion (m : MantleTable) (ch : Chan) (k : Fin 4) (a p : W64) (frac : Nat) : Chan :=
  let bwd := ch.moveDir k (ch.pos k) p
  (ch.moveTo k p frac).cross m k a bwd

/-- A jump to a position sets no TURNWRAP, nor does an entry to LOCKED, wherever it carries TURN: DESIGN CHOICE (log 61; R120). Of a jump (R131, R133) only a forward one passes slots over, those with a target after the old position and not after the
new one. The lead plays no part. -/
def Chan.jump (m : MantleTable) (ch : Chan) (k : Fin 4) (p : W64) : Chan :=
  let old := ch.pos k
  let ch := ((ch.setPos k p).onTk k fun t => { t with frac := 0, slew := 0 }).trkFlag k 6
  if dist old p ≤ 0 then ch else
  (List.finRange 64).foldl (fun (ch : Chan) n =>
    if ch.armed n && ch.slotTrk n == k && ch.dirOk n false && ch.crosses n old p false then ch.missed m n false p else ch) ch

/-- Slots of a tracker with LOSS = 1 are cancelled when it leaves LOCKED, or enters ACQUIRE or OFF (R135). -/
def Chan.lossSlots (m : MantleTable) (ch : Chan) (k : Fin 4) : Chan :=
  (List.finRange 64).foldl (fun (ch : Chan) n => if ch.armed n && ch.slotTrk n == k && ch.bit (nb n) 7 then ch.cancel m n 1 else ch) ch

/-- ACQUIRE or OFF entered (R127, R135). -/
def Chan.toAcquire (m : MantleTable) (ch : Chan) (k : Fin 4) (off : Bool) : Chan :=
  ((ch.setState k (if off then 0 else 1)).onTk k fun t => { t with good := 0, left := 0, slew := 0, rev := false }).lossSlots m k

/-- Loss of lock (R130). -/
def Chan.loseLock (m : MantleTable) (ch : Chan) (k : Fin 4) (srcerr : Bool) : Chan :=
  let ch := ch.trkFlag k 4
  let ch := if srcerr then ch.trkFlag k 8 else ch
  let hold := ch.fld (kb k + 0x10) 0 20
  if hold = 0 then ch.toAcquire m k false else
  ((ch.setState k 3).onTk k fun t => { t with left := hold * 600, good := 0, slew := 0 }).lossSlots m k

/-- LOCKED entered at a position (R129): from HOLDOVER the step is a jump, from ACQUIRE armed one-shot slots are evaluated. -/
def Chan.enterLocked (m : MantleTable) (ch : Chan) (k : Fin 4) (p : W64) : Chan :=
  let was := ch.trkState k
  let ch := ((ch.setState k 2).trkFlag k 9).onTk k fun t => { t with good := 0, left := 0, slew := 0, rev := false }
  if was = 3 then (if ch.pos k = p then ch else ch.jump m k p) else
  let ch := (ch.setPos k p).onTk k fun t => { t with frac := 0 }
  (List.finRange 64).foldl (fun (ch : Chan) n =>
    if ch.armed n && ch.slotTrk n == k && !ch.periodic n then ch.evalSlot m n else ch) ch

/-- The position with an angle nearest a position; of two equally near, the one ahead (R129). -/
def nearest (p : W64) (angle : W32) : W64 :=
  let d : W32 := angle - p.truncate 32
  if d.toNat ≤ 2 ^ 31 then p + zx d else p - zx (p.truncate 32 - angle : W32)

/-- |ERR| against a threshold of 2^-16 turn (R127). -/
def within (err : W32) (thr : Nat) : Bool := err.toInt.natAbs ≤ thr * 65536

/-- A free speed estimate: the loop's coefficients are not published (R125, R128; log 13). -/
def Chan.freeSpeed (ch : Chan) (k : Fin 4) (bwd : Bool) : W32 :=
  let v := (ch.draw (500 + k.val)).toNat % (maxSpeed + 1)
  BitVec.ofInt 32 (if bwd then -(v : Int) else v)

/-- ERR at a source edge that stands for position `q` (R126): against the angle the tracker shows; in ACQUIRE the loop's own prediction, which
no register shows, decides it (free). -/
def Chan.noteErr (ch : Chan) (k : Fin 4) (q : W64) : Chan :=
  ch.setReg (kb k + 0x2C) (if ch.trkState k = 1 then (ch.draw (504 + k.val)).truncate 32 else q.truncate 32 - ch.reg (kb k + 0x20))

/-- The width of the glitch filter CFG.FILT in PTB cycles: what it rejects is narrower, and every edge it passes is as much later (R124). -/
def Chan.filt (ch : Chan) (k : Fin 4) : Nat := match ch.fld (kb k) 4 2 with | 0 => 0 | 1 => 4 | 2 => 12 | _ => 96

/-- Whether a pulse passes the glitch filter (R124). -/
def Chan.passes (ch : Chan) (k : Fin 4) (width : Nat) : Bool := decide (ch.filt k ≤ width)

/-- How far a tracker has moved on at its speed while the filter delayed an edge (R124). -/
def Chan.carried (ch : Chan) (k : Fin 4) : W64 := BitVec.ofInt 64 (ch.filt k * ch.speed k / 65536)

/-- Whether an edge on I is the mark: the rising one, or with INV the falling one, when the level after it passes the filter (R123, R124). -/
def Chan.marks (ch : Chan) (k : Fin 4) (e : MarkEdge) : Bool := (e.rising != ch.bit (kb k) 3) && ch.passes k e.width

/-- An edge or a sample of the pulse, mains or ring source that stands for position `q` (R127 to R130). `q`'s turn is the nearest
one for pulse and mains. -/
def Chan.edge (m : MantleTable) (ch : Chan) (k : Fin 4) (q : W64) (fast slow : Bool) : Chan :=
  let locked := ch.trkState k == 2
  let a := ch.adv k
  let ch := ch.noteErr k q
  let err := ch.reg (kb k + 0x2C)
  if locked && (fast || slow) then ch.loseLock m k true
  else if locked && !within err (ch.fld (kb k + 0xC) 16 16) then ch.loseLock m k false
  else if locked then
    let ch := ch.setReg (kb k + 0x28) (ch.freeSpeed k false)
    let ch := ch.onTk k fun t => { t with slew := (err.toInt) * 65536 }
    ch.cross m k a false
  else if ch.trkState k = 0 then ch
  else
    let good := if within err (ch.fld (kb k + 0xC) 0 16) then (ch.tk k).good + 1 else 0
    let ch := ch.onTk k fun t => { t with good := good }
    if good < ch.fld (kb k) 10 4 then (if ch.trkState k = 1 then ch.setReg (kb k + 0x28) (ch.freeSpeed k false) else ch)
    else (ch.setReg (kb k + 0x28) (ch.freeSpeed k false)).enterLocked m k q

/-- The angle of encoder count `c` after the index position (R124, R129): ⌊c × 2^32 / SCALE⌋. -/
def Chan.countPos (ch : Chan) (k : Fin 4) (c : Int) : W64 :=
  (ch.tk k).pred + BitVec.ofInt 64 (c * 2 ^ 32 / (ch.fld (kb k + 4) 0 24 : Int))

/-- The position at which a count edge is taken: that of the count, with what the filter's delay has added; the position never goes back for
it (R124, R128). -/
def Chan.countEdge (ch : Chan) (k : Fin 4) (q : W64) (back : Bool) : W64 :=
  let q := if ch.filt k = 0 then q else q + ch.carried k
  if ch.filt k ≠ 0 ∧ (if back then 0 < dist (ch.pos k) q else dist (ch.pos k) q < 0) then ch.pos k else q

/-- An A/B change (R124, R126, R128, R130, R131). `dt` is the PTB cycles since the last one. A reversal in HOLDOVER restarts the loop, while the
frozen speed carries the angle on. A reversal that loses lock for its rate first has its effects. An illegal change or one too fast sets
SRCERR outside LOCKED too: DESIGN CHOICE (log 61). -/
def Chan.encCount (m : MantleTable) (ch : Chan) (k : Fin 4) (move : EncMove) (dt : Nat) : Chan :=
  let locked := ch.trkState k == 2
  match move with
  | .illegal => if locked then ch.loseLock m k true else ch.trkFlag k 8
  | mv =>
    let back := (mv == .back) != ch.bit (kb k) 18
    let t := ch.tk k
    let c := if back then t.count - 1 else t.count + 1
    let a := ch.adv k
    let old := ch.pos k
    let rev := back != ch.trkDir k
    let q := ch.countPos k c
    let ch := (ch.noteErr k (q + ch.carried k)).onTk k fun t => { t with count := c, ivl := if rev then 0 else dt, since := 0 }
    if rev then
      let ch := (ch.setDir k back).trkFlag k 5
      let ch := if ch.trkState k = 3 then ch.onTk k fun t => { t with rev := true } else ch.setReg (kb k + 0x28) 0#32
      if !locked then ch else
      let ch := ch.motion m k old q 0
      if dt < 24 then ch.loseLock m k false else ch
    else if ch.trkState k = 3 then ch
    else
      let tooFast := dt * ch.fld (kb k + 4) 0 24 < 150000
      if locked && tooFast then ch.loseLock m k true
      else if locked && decide (dt < 24) then ch.loseLock m k false
      else
        let ch := ch.setReg (kb k + 0x28) (ch.freeSpeed k back)
        if !locked then (if tooFast then ch.trkFlag k 8 else ch) else ch.motion m k a (ch.countEdge k q back) 0

/-- An index edge (R123, R129 to R131): it sets the angle to OFS. In LOCKED it corrects the count by up to IDXTOL counts, or loses lock; a
correction of less than a count, which a new OFS can bring, is a jump too: DESIGN CHOICE (log 61). At a relock after a reversal the loop
goes on from what it has seen since. -/
def Chan.indexEdge (m : MantleTable) (ch : Chan) (k : Fin 4) : Chan :=
  if ch.trkSrc k ≠ 1 ∨ ch.trkState k = 0 then ch else
  let ofs := ch.reg (kb k + 8)
  let on := ch.carried k
  if ch.trkState k ≠ 2 then
    let q := nearest (ch.pos k - on) ofs
    let ch := if ch.trkState k = 3 ∧ (ch.tk k).rev then
        ch.setReg (kb k + 0x28) (if (ch.tk k).ivl = 0 then 0#32 else ch.freeSpeed k (ch.trkDir k)) else ch
    ((ch.noteErr k (q + on)).enterLocked m k (q + on)).onTk k fun t => { t with pred := q, count := 0, since := 0 }
  else
    let here := ch.countPos k (ch.tk k).count
    let q := nearest here ofs
    let d := dist here q
    let off := d.natAbs * ch.fld (kb k + 4) 0 24
    let tol := match ch.fld (kb k) 16 2 with | 0 => 1 | 1 => 2 | 2 => 4 | _ => 8
    let ch := ch.noteErr k (q + on)
    if decide (tol * 2 ^ 32 + ch.fld (kb k + 4) 0 24 < off) then ch.loseLock m k true else
    let ch := ch.onTk k fun t => { t with pred := q, count := 0 }
    if d = 0 then ch else ch.jump m k (q + on)

/-- A pulse or mains edge, `dt` PTB cycles after the last (R123, R129, R130). -/
def Chan.pulseMark (m : MantleTable) (ch : Chan) (k : Fin 4) (src dt : Nat) : Chan :=
  let on := ch.carried k
  let q := nearest (ch.pos k - on) (ch.reg (kb k + 8)) + on
  let (fast, slow) : Bool × Bool := if src = 2 then (decide (dt < 150000), decide (1200000000 < dt)) else (decide (dt * 70 < 600000000), decide (600000000 < dt * 40))
  ((ch.onTk k fun t => { t with ivl := dt, since := 0 })).edge m k q fast slow

/-- What an edge does once its tracker has it. -/
def Chan.sawEdge (m : MantleTable) (ch : Chan) (k : Fin 4) : TrkSaw → Chan
  | .count move dt => ch.encCount m k move dt
  | .index dt => (ch.onTk k fun t => if t.count = 0 then { t with ivl := dt } else t).indexEdge m k
  | .mark src dt => ch.pulseMark m k src dt

/-- An edge that passes the glitch filter: with the filter off it acts at once, else by the filter's width later (R124). -/
def Chan.seeEdge (m : MantleTable) (ch : Chan) (k : Fin 4) (saw : TrkSaw) : Chan :=
  if ch.filt k = 0 then ch.sawEdge m k saw else { ch with edges := ch.edges ++ [⟨k, ch.filt k, saw⟩] }

/-- A PTB cycle of the edges in the glitch filters: those whose delay ends act, in the order in which they came. -/
def Chan.edgesTick (m : MantleTable) (ch : Chan) : Chan :=
  let es := ch.edges.map fun e => { e with left := e.left - 1 }
  (es.filter fun e => e.left = 0).foldl (fun (ch : Chan) e => ch.sawEdge m e.k e.saw) { ch with edges := es.filter fun e => e.left ≠ 0 }

/-- An A/B change at the inputs of an encoder. -/
def Chan.encoder (m : MantleTable) (ch : Chan) (k : Fin 4) (move : EncMove) (width dt : Nat) : Chan :=
  if ch.trkSrc k ≠ 1 || !ch.passes k width then ch else ch.seeEdge m k (.count move dt)

/-- An edge on the index input of an encoder. -/
def Chan.indexMark (m : MantleTable) (ch : Chan) (k : Fin 4) (e : MarkEdge) : Chan :=
  if ch.trkSrc k ≠ 1 || !ch.marks k e then ch else ch.seeEdge m k (.index e.dt)

/-- An edge on the input of a pulse or mains source. -/
def Chan.markEdge (m : MantleTable) (ch : Chan) (k : Fin 4) (src : Nat) (e : MarkEdge) : Chan :=
  if ch.trkSrc k ≠ src || !ch.marks k e then ch else ch.seeEdge m k (.mark src e.dt)

/-- A ring-phase sample, true at PTB_TIME `stamp` (R125, R129, R131): applied at that time, so that at its delivery it stands for a position
further on by the speed times the PTB cycles since. -/
def Chan.ringSample (m : MantleTable) (ch : Chan) (k : Fin 4) (angle turn : W32) (newMaster : Bool) (dt : Nat) (stamp : W64) : Chan :=
  if ch.trkSrc k ≠ 4 ∨ ch.trkState k = 0 then ch else
  let q : W64 := turn ++ angle
  let now : W64 := q + BitVec.ofInt 64 (ch.speed k * (ch.ptb - stamp).toInt / 65536)
  let last := (ch.tk k).pred
  let ch := ch.onTk k fun t => { t with ivl := dt, pred := q, since := 0 }
  if newMaster && ch.trkState k == 2 then (ch.noteErr k now).jump m k now else
  let fast : Bool := dt != 0 && decide (4000 * 2 ^ 32 * (dt : Int) < (dist last q).natAbs * 600000000)
  ch.edge m k now fast false

/-- A SWCMD write (R127 to R131, R144). With EDGE and SET both 1 it acts as SET (DESIGN CHOICE, log 55: the spec gives no order). At a reversal a
crossing is judged from the old position without its lead (DESIGN CHOICE, log 61: which advanced position it starts from is not said). -/
def Chan.swCmd (m : MantleTable) (ch : Chan) (k : Fin 4) (v : W32) : Chan :=
  let edge := v.getLsbD 0
  let set := v.getLsbD 1
  if ch.trkSrc k ≠ 5 ∨ (!edge ∧ !set) then ch else
  let spd := (ch.reg (kb k + 0x38)).toInt
  if maxSpeed < spd.natAbs then ch.trkFlag k 8 else
  let q : W64 := ch.reg (kb k + 0x34) ++ ch.reg (kb k + 0x30)
  let a := ch.adv k
  let old := ch.pos k
  let rev := spd ≠ 0 && (decide (spd < 0) != ch.trkDir k)
  let ch := ch.noteErr k q
  let ch := if rev then (ch.setDir k (decide (spd < 0))).trkFlag k 5 else ch
  let ch := ch.setReg (kb k + 0x28) (BitVec.ofInt 32 spd)
  if ch.trkState k = 1 then ch.enterLocked m k q
  else if ch.trkState k ≠ 2 then ch
  else if set then ch.jump m k q
  else
    let d := dist old q
    let from' := if rev then old else a
    if rev || spd == 0 then
      if d = 0 || decide (d < 0) == ch.trkDir k then (ch.onTk k fun t => { t with slew := 0 }).motion m k from' q 0
      else ch.jump m k q
    else (ch.onTk k fun t => { t with slew := d * 65536 }).cross m k a (ch.trkDir k)

/-- The PTB cycles from an edge on after which the next one is missing: MISSF times the predicted interval, the time to the next edge at the
present speed estimate; none where no interval is predicted, and for an encoder whose interval is 1 ms or longer (R127, R130). For the ring
source, whose samples follow the sweeps, it is the interval between the last two: DESIGN CHOICE (log 61). -/
def Chan.missAt (ch : Chan) (k : Fin 4) : Option Nat :=
  let halves := match ch.fld (kb k) 14 2 with | 0 => 3 | 1 => 4 | 2 => 8 | _ => 16
  let s := (ch.speed k).natAbs
  let turn := 2 ^ 48
  match ch.trkSrc k with
  | 1 =>
    let r := s * ch.fld (kb k + 4) 0 24
    if r = 0 ∨ 600000 * r ≤ turn then none else some (halves * turn / (2 * r))
  | 2 | 3 => if s = 0 then none else some (halves * turn / (2 * s))
  | 4 => let i := (ch.tk k).ivl; if i = 0 then none else some (halves * i / 2)
  | _ => none

/-- No edge within MISSF times the predicted interval (R130): the time goes on to where the edge is missing. -/
def Chan.missingEdge (m : MantleTable) (ch : Chan) (k : Fin 4) : Chan :=
  if ch.trkState k ≠ 2 then ch else
  match ch.missAt k with
  | some n => (ch.onTk k fun t => { t with since := max t.since (n + 1) }).loseLock m k false
  | none => ch

/-- HOLDOVER expires (R130). -/
def Chan.holdExpiry (m : MantleTable) (ch : Chan) (k : Fin 4) : Chan := if ch.trkState k = 3 then ch.toAcquire m k false else ch

/-- A write of PTB_TRKk_CFG: the tracker restarts (R127, R130, R135); a pulse, mains or ring source is forward only (R123). -/
def Chan.trkCfg (m : MantleTable) (ch : Chan) (k : Fin 4) (v : W32) : Chan :=
  let was := ch.trkState k
  let ch := ch.setReg (kb k) (regWritten (kb k) (ch.reg (kb k)) v)
  let ch := if was = 2 then ch.trkFlag k 4 else ch
  let ch := if 2 ≤ ch.trkSrc k ∧ ch.trkSrc k ≤ 4 then ch.setDir k false else ch
  ({ ch.onTk k fun t => { t with ivl := 0, since := 0 } with edges := ch.edges.filter (fun e => e.k ≠ k), samples := ch.samples.filter fun x => x.trk ≠ k } : Chan).toAcquire m k (ch.trkSrc k == 0)

/-- The move of a tracker in one PTB cycle: interpolation, slewing within 0.5 to 1.5 times the speed (R128, R130). It answers the advanced
position before the move and the direction, if the tracker moves. -/
def Chan.trkMove (ch : Chan) (k : Fin 4) : Chan × Option (W64 × Bool) :=
  let st := ch.trkState k
  if st ≠ 2 ∧ st ≠ 3 then (ch, none) else
  let t := ch.tk k
  let s := ch.speed k
  let d : Int := if st = 2 then t.slew.sign * min (ch.pick (510 + k.val) (s.natAbs / 2 + 1)) t.slew.natAbs else 0
  let tot := (t.frac : Int) + s + d
  let p := ch.pos k + BitVec.ofInt 64 (tot / 65536)
  let frac := (tot % 65536).toNat
  let lim := ch.countPos k (if ch.trkDir k then t.count - 1 else t.count + 1) + ch.carried k
  let past := st = 2 ∧ ch.trkSrc k = 1 ∧ (if ch.trkDir k then dist lim p < 0 else 0 < dist lim p)
  let a := ch.adv k
  let ch := ch.onTk k fun t => { t with slew := t.slew - d }
  let bwd := ch.moveDir k (ch.pos k) (if past then lim else p)
  (if past then ch.moveTo k lim 0 else ch.moveTo k p frac, some (a, bwd))

/-- One PTB cycle of a slot: a crossing by its tracker's move, else its deadline (R132, R136). -/
def Chan.slotTick (m : MantleTable) (ch : Chan) (moves : List (Option (W64 × Bool))) (n : Fin 64) : Chan :=
  let ch := match nth none moves (ch.slotTrk n).val with
    | some (a, bwd) => ch.crossSlot m (ch.slotTrk n) a bwd n
    | none => ch
  ch.deadline m n

/-- The end of a tracker's PTB cycle: a missing edge, the end of HOLDOVER (R130). They come after the slots, so that a firing of the cycle wins
over a cancellation (R141). -/
def Chan.trkEnd (m : MantleTable) (ch : Chan) (k : Fin 4) : Chan :=
  match ch.trkState k with
  | 2 =>
    let ch := ch.onTk k fun t => { t with since := t.since + 1 }
    (match ch.missAt k with
    | some n => if n < (ch.tk k).since then ch.loseLock m k false else ch
    | none => ch)
  | 3 => let t := ch.tk k; if t.left ≤ 1 then ch.holdExpiry m k else ch.onTk k fun t => { t with left := t.left - 1 }
  | _ => ch

/-- One PTB cycle of the trackers and slots: all trackers move, then the slots act in their order, whichever tracker they watch (R139), then the
edges that the filters let go. -/
def Chan.ptbTick (m : MantleTable) (ch : Chan) : Chan :=
  let (ch, moves) := (List.finRange 4).foldl (fun (x : Chan × List (Option (W64 × Bool))) k =>
    let (ch, mv) := x.1.trkMove k; (ch, x.2 ++ [mv])) (ch, [])
  let ch := (List.finRange 64).foldl (fun (ch : Chan) n => ch.slotTick m moves n) ch
  let ch := ch.edgesTick m
  (List.finRange 4).foldl (fun (ch : Chan) k => ch.trkEnd m k) ch

/-- A write of PTB_ALARMn_CTL (R134, R135, R144). Arming clears the record of the TURNs in which a periodic slot has fired, so one armed again
may fire again in a TURN (DESIGN CHOICE, log 55: the spec does not say whether the limit survives). -/
def Chan.alarmCtl (m : MantleTable) (ch : Chan) (n : Fin 64) (v : W32) : Chan :=
  let off := nb n
  if ch.armed n then
    if v.getLsbD 0 then ch.setBit (off + 0x18) 4
    else let ch := ch.cancel m n 0; ch.setReg off (regWritten off (ch.reg off) v)
  else
    let ch := ch.setReg off (regWritten off (ch.reg off) v)
    if !v.getLsbD 0 then ch else
    let ch := (List.finRange 8).foldl (fun (ch : Chan) w => ch.clrRel w n) ch
    let ch := (ch.putF (off + 0x18) 0 5 0).onSlot n fun _ => Slot.reset
    let st := ch.trkState (ch.slotTrk n)
    let ch := if ch.periodic n then ch
      else if st = 2 ∨ st = 3 then ch.evalSlot m n
      else ch.onSlot n fun s => { s with eval := true }
    ch.deadline m n

/-- A write of PTB_TRKk_LEAD: of a tracker that moves, the advanced position moves with it, and what it passes in the direction of motion is
crossed (R132, R137): DESIGN CHOICE (log 61). -/
def Chan.trkLead (m : MantleTable) (ch : Chan) (k : Fin 4) (off : Nat) (v : W32) : Chan :=
  let a := ch.adv k
  let ch := ch.setReg off (regWritten off (ch.reg off) v)
  if (ch.trkState k = 2 ∨ ch.trkState k = 3) ∧ ch.speed k ≠ 0 then ch.cross m k a (decide (ch.speed k < 0)) else ch

/-- A write of another slot register: ignored while the slot is armed (R144). -/
def Chan.alarmReg (ch : Chan) (n : Fin 64) (off : Nat) (v : W32) : Chan :=
  if ch.armed n then ch.setBit (nb n + 0x18) 4 else ch.setReg off (regWritten off (ch.reg off) v)

/-- The STPH release queue, 128 writes (R140). -/
def Chan.stphPut (ch : Chan) (e : StphEnt) : Chan × Bool :=
  if 128 ≤ ch.stph.length then (ch.setBit 0x10010 16, false) else
  let ch := { ch with stph := ch.stph ++ [e] }
  (ch.putF 0x10010 8 8 (max (ch.fld 0x10010 8 8) ch.stph.length), true)

end Sys2Proof.Machine
end

