-- ==== Sys2Proof/Machine/Dbg.lean ====
section
/-! DEFINITION. Debug: the authorisation and its end, halt requests, resume, patch units and data watch (R417, R422 to R427,
R430, R431). -/

namespace Sys2Proof.Machine

/-- DBG_AUTH.LEVEL is Full and its SCOPE holds the class of a Mantle (R422). -/
def Chan.haltAuth (m : MantleTable) (ch : Chan) (mt : BitVec 12) : Bool := ch.fld 0x300000 0 2 == 2 && ch.inScope m mt

/-- Base of patch unit *u* (R431). -/
def pu (u : Fin 32) : Nat := 0x300100 + u.val * 16

/-- A core resumes (R425): the instructions it had fetched are discarded, an SC that follows fails. -/
def Chan.resume (ch : Chan) (w : Fin 8) : Chan :=
  if !ch.halted w then ch else
  let ch := (ch.putF (dbgStat w) 0 2 0).onCore w fun c =>
    { c with resv := none, hold := none, slotA := none, wait := .none, skip := true, trcSync := true }
  if ch.bit 0x50000 1 && !ch.anyHalted then ch.wdtRaise else ch

/-- A halt request of a cause (R422, R423), shown as pending. -/
def Chan.haltReq (ch : Chan) (w : Fin 8) (cause unit : Nat) : Chan :=
  if ch.fld (dbgStat w) 0 2 ≥ 2 then ch else
  (ch.onCore w fun c => { c with haltReq := c.haltReq ||| BitVec.ofNat 8 (2 ^ cause), haltUnit := if cause = 2 ∨ cause = 3 then unit else c.haltUnit }).putF
    (dbgStat w) 0 2 1

/-- The cause recorded when several requests are pending: Long-Operation Fault entry, patch unit, data watch, BRK, the wire, the
cross trigger (R423). -/
def firstCause (r : BitVec 8) : Nat := ([6, 2, 3, 4, 0, 5].find? fun c => r.getLsbD c).getD 0

/-- The core is halted (R423): its reservation is lost; other cores of the cross trigger receive a request (R425). DEDUCED (log 60): the
halt that ends a step asked for from the wire counts as one the wire requested. -/
def Chan.nowHalted (ch : Chan) (w : Fin 8) (cause : Nat) : Chan :=
  let c := ch.core w
  let ch := ch.setCore w { c with
    haltReq := 0#8, pend := [], fetched := [], resv := none, hold := none, slotA := none, wait := .none, stepping := false, elem := none, trcSync := true }
  let st := dbgStat w
  let ch := ((ch.putF st 0 2 2).putF st 4 3 cause)
  let ch := if cause = 2 ∨ cause = 3 then ch.putF st 8 5 c.haltUnit else ch
  if cause = 0 ∨ cause = 1 then ch else
  (List.finRange 8).foldl (fun (ch : Chan) v => if v ≠ w ∧ ch.bit 0x30000C (8 + v.val) then ch.haltReq v 5 0 else ch) ch

/-- The end of an authorisation (R417). -/
def Chan.endGrant (ch : Chan) : Chan :=
  if ch.fld 0x300000 0 2 = 0 then ch else
  let ch := (List.finRange 8).foldl (fun (ch : Chan) w =>
    let ch := ch.resume w
    let ch := if ch.fld (dbgStat w) 0 2 = 1 then ch.putF (dbgStat w) 0 2 0 else ch
    ch.onCore w fun c => { c with haltReq := 0#8, stepping := false }) ch
  let ch := (List.finRange 32).foldl (fun (ch : Chan) u => if ch.fld (pu u + 8) 0 2 = 2 then ch.putF (pu u + 8) 0 2 0 else ch) ch
  (({ ch with wire := { ch.wire with life := 0 } } : Chan).setReg 0x30000C (regReset 0x30000C)).setReg 0x300000 0#32 |>.setBit 0x300004 1

/-- Physical address of a patch unit (R431). -/
def Chan.puAddr (ch : Chan) (u : Fin 32) : Nat := ch.fld (pu u + 4) 0 16 * 2 ^ 32 + (ch.reg (pu u)).toNat / 4 * 4

/-- A unit whose DATA makes it a data watch: units 24 to 31 only. -/
def Chan.puData (ch : Chan) (u : Fin 32) : Bool := 24 ≤ u.val && ch.bit (pu u + 8) 2

/-- The fetch units that match a word of a core, in unit order (R426). -/
def Chan.fetchUnits (ch : Chan) (w : Fin 8) (pa : Nat) : List (Fin 32) :=
  (List.finRange 32).filter fun u => !ch.puData u && ch.fld (pu u + 8) 0 2 != 0 && ch.bit (pu u + 8) (16 + w.val) && ch.puAddr u == pa

/-- The word a core receives for the one in memory: that of the lowest-numbered substituting unit (R426). -/
def Chan.substituted (ch : Chan) (us : List (Fin 32)) (word : W32) : W32 :=
  match us.find? fun u => ch.fld (pu u + 8) 0 2 == 1 with
  | some u => ch.reg (pu u + 0xC)
  | none => word

/-- The data watch units that match n bytes at pa (R427). -/
def Chan.watchUnits (ch : Chan) (w : Fin 8) (pa n : Nat) (rd wr : Bool) : List (Fin 32) :=
  (List.finRange 32).filter fun u =>
    let k := 2 ^ (ch.fld (pu u + 8) 8 4 + 2)
    let lo := ch.puAddr u / k * k
    ch.puData u && 2 ≤ ch.fld (pu u + 8) 0 2 && ch.bit (pu u + 8) (16 + w.val) && ((rd && ch.bit (pu u + 8) 4) || (wr && ch.bit (pu u + 8) 3))
      && decide (pa < lo + k) && decide (lo < pa + n)

/-- A write of DBG_PATCHu_CTL (R426, R427, R430, R431): ACT 0b10 only from the wire; ACT 0b01 is not listed for a data unit; the
matched line leaves every L1I. -/
def Chan.patchCtl (ch : Chan) (u : Fin 32) (v : W32) (wire : Bool) : Chan :=
  let off := pu u + 8
  let old := ch.reg off
  let img := regWritten off old v
  let img := if u.val < 24 then setF img 2 1 0 else img
  let keep := (!wire && getF v 0 2 == 2) || (getF img 2 1 == 1 && getF v 0 2 == 1)
  let img := if keep then setF img 0 2 (getF old 0 2) else img
  let ch := ch.setReg off img
  let ch := if !wire && getF v 0 2 == 2 then ch.setBit 0x300004 2 else ch
  { ch with cores := ch.cores.map fun (c : Core) => { c with l1i := setDel c.l1i (ch.puAddr u / 64) } }

end Sys2Proof.Machine
end

