-- ==== Sys2Proof/Machine/Io.lean ====
section
/-! DEFINITION. The local peripherals: UARTs, SPI, I²C, Ethernet MAC (R168 to R172). -/

namespace Sys2Proof.Machine

/-! UART (R169). -/

def ub (u : Fin 2) : Nat := 0x500000 + u.val * 0x1000
def Chan.onUart (ch : Chan) (u : Fin 2) (f : Uart → Uart) : Chan := { ch with io := { ch.io with uart := ch.io.uart.set u (f ch.io.uart[u]) } }

/-- The transmitter takes its next character when it is on and the line is free; with RS485, DE goes high. -/
def Chan.uartKick (ch : Chan) (u : Fin 2) : Chan :=
  let x := ch.io.uart[u]
  match x.tx with
  | [] => ch
  | b :: rest =>
    if ch.bit (ub u) 0 && ch.bit (ub u) 1 && x.on.isNone then ch.onUart u fun _ => { x with tx := rest, on := some b, de := ch.bit (ub u) 6, turn := none }
    else ch

/-- A write of UARTu_DATA. -/
def Chan.uartTx (ch : Chan) (u : Fin 2) (v : W32) : Chan :=
  if 64 ≤ (ch.io.uart[u]).tx.length then ch.setBit (ub u + 0xC) 18
  else (ch.onUart u fun x => { x with tx := x.tx ++ [v.truncate 8] }).uartKick u

/-- The time from the last stop bit until DE falls: TURN bit times of (DIV + 1) / 150 MHz, in PTB cycles. -/
def Chan.uartTurn (ch : Chan) (u : Fin 2) : Nat := ch.fld (ub u) 8 8 * (ch.fld (ub u + 4) 0 20 + 1) * 4

/-- A character has left the line; after the last one DE falls TURN bit times later. -/
def Chan.uartSent (ch : Chan) (u : Fin 2) : Chan :=
  if (ch.io.uart[u]).on.isNone then ch else
  let ch := (ch.onUart u fun x => { x with on := none }).uartKick u
  ch.onUart u fun x =>
    if x.on.isSome || !x.de then x else if ch.uartTurn u = 0 then { x with de := false } else { x with turn := some (ch.uartTurn u) }

/-- One PTB cycle of a UART's DE. -/
def Chan.uartTick (ch : Chan) (u : Fin 2) : Chan :=
  match (ch.io.uart[u]).turn with
  | none => ch
  | some n => if n ≤ 1 then ch.pinsMoved (ch.onUart u fun x => { x with turn := none, de := false }) else ch.onUart u fun x => { x with turn := some (n - 1) }

/-- A read of UARTu_DATA: pops the head. -/
def Chan.uartPop (ch : Chan) (u : Fin 2) : Chan × W32 :=
  match (ch.io.uart[u]).rx with
  | [] => (ch, 0x80000000#32)
  | x :: rest => (ch.onUart u fun y => { y with rx := rest }, x.zeroExtend 32)

/-- Whether some pin selects a function: without one an input reads idle (R165). -/
def Chan.selects (ch : Chan) (func sel : Nat) : Bool := (ch.inputPin func sel).isSome

/-- A character arrives; the receiver ignores RX while DE is high, and has none while no pin selects RX. -/
def Chan.uartRx (ch : Chan) (u : Fin 2) (b : Byte) (par frm brk : Bool) : Chan :=
  let x := ch.io.uart[u]
  if !ch.selects 4 (2 + u.val) || !ch.bit (ub u) 0 || !ch.bit (ub u) 2 || (ch.bit (ub u) 6 && x.de) then ch
  else if 64 ≤ x.rx.length then ch.setBit (ub u + 0xC) 17
  else
    let e : BitVec 11 := BitVec.ofBool brk ++ BitVec.ofBool frm ++ BitVec.ofBool (par && ch.fld (ub u) 3 2 != 0) ++ b
    ch.onUart u fun x => { x with rx := x.rx ++ [e] }

/-- RXTO. -/
def Chan.uartTimeout (ch : Chan) (u : Fin 2) : Chan := if (ch.io.uart[u]).rx.isEmpty then ch else ch.setBit (ub u + 0xC) 19

/-! SPI (R170). -/

def Chan.spiKick (ch : Chan) : Chan :=
  match ch.io.spiTx with
  | [] => ch
  | f :: rest => if ch.bit 0x510000 0 && ch.io.spiOn.isNone then { ch with io := { ch.io with spiTx := rest, spiOn := some f } } else ch

/-- A write of SPI_DATA. -/
def Chan.spiPut (ch : Chan) (v : W32) : Chan :=
  if 16 ≤ ch.io.spiTx.length then ch.setBit 0x510008 18
  else ({ ch with io := { ch.io with spiTx := ch.io.spiTx ++ [v] } } : Chan).spiKick

/-- A read of SPI_DATA. -/
def Chan.spiPop (ch : Chan) : Chan × W32 :=
  match ch.io.spiRx with
  | [] => (ch, 0#32)
  | x :: rest => ({ ch with io := { ch.io with spiRx := rest } }, x)

/-- The frame on the wire ends: each transmitted frame receives one, of zeros while no pin selects MISO (R165). -/
def Chan.spiDone (ch : Chan) (rx : W32) : Chan :=
  if ch.io.spiOn.isNone then ch else
  let v : W32 := if ch.selects 5 2 then BitVec.ofNat 32 (rx.toNat % 2 ^ (ch.fld 0x510000 4 5 + 1)) else 0#32
  let ch := { ch with io := { ch.io with spiOn := none } }
  let ch := if 16 ≤ ch.io.spiRx.length then ch.setBit 0x510008 17 else { ch with io := { ch.io with spiRx := ch.io.spiRx ++ [v] } }
  ch.spiKick

/-! I²C (R171). -/

/-- The unit takes the bus when the command at the front begins with START. -/
def Chan.i2cKick (ch : Chan) : Chan :=
  match ch.io.i2cCmd with
  | c :: _ => if ch.bit 0x520000 0 && c.getLsbD 8 then { ch with io := { ch.io with i2cBus := true } } else ch
  | [] => ch

/-- A write of I2C_CMD; one to a full FIFO is ignored. -/
def Chan.i2cPut (ch : Chan) (v : W32) : Chan :=
  if 16 ≤ ch.io.i2cCmd.length then ch
  else ({ ch with io := { ch.io with i2cCmd := ch.io.i2cCmd ++ [v] } } : Chan).i2cKick

/-- A read of I2C_RXDATA. -/
def Chan.i2cPop (ch : Chan) : Chan × W32 :=
  match ch.io.i2cRx with
  | [] => (ch, 0x80000000#32)
  | b :: rest => ({ ch with io := { ch.io with i2cRx := rest } }, b.zeroExtend 32)

/-- A failure: its flag, STOP if the unit holds the bus, the remaining commands discarded. -/
def Chan.i2cFail (ch : Chan) (flag : Nat) : Chan := ({ ch with io := { ch.io with i2cCmd := [], i2cBus := false } } : Chan).setBit 0x52000C flag

/-- The byte of the command at the front is done. A byte received into a full FIFO is lost (log 14). While no pin selects SDA it reads 1:
no byte sent is acknowledged, and one received is 0xFF (R165). -/
def Chan.i2cDone (ch : Chan) (rx : Byte) (nack : Bool) : Chan :=
  let nack := nack || !ch.selects 6 1
  let rx := if ch.selects 6 1 then rx else 0xFF#8
  match ch.io.i2cCmd with
  | [] => ch
  | c :: rest =>
    if !ch.bit 0x520000 0 then ch
    else if nack && !c.getLsbD 10 then ch.i2cFail 17
    else
      let rxs := if c.getLsbD 10 ∧ ch.io.i2cRx.length < 16 then ch.io.i2cRx ++ [rx] else ch.io.i2cRx
      ({ ch with io := { ch.io with i2cCmd := rest, i2cRx := rxs, i2cBus := ch.io.i2cBus && !c.getLsbD 9 } } : Chan).i2cKick

/-- Whether the unit has work on the bus. -/
def Chan.i2cActive (ch : Chan) : Bool := ch.bit 0x520000 0 && (ch.io.i2cBus || !ch.io.i2cCmd.isEmpty)
/-- Arbitration lost: SDA, which reads 1 while no pin selects it, was seen low (R165). -/
def Chan.i2cLost (ch : Chan) : Chan := if ch.i2cActive && ch.selects 6 1 then ch.i2cFail 18 else ch
/-- A stretch beyond STRTO, 0 sets no limit; SCL reads 1 while no pin selects it (R165). -/
def Chan.i2cStretch (ch : Chan) : Chan := if ch.i2cActive && ch.selects 6 0 && ch.fld 0x520000 16 16 != 0 then ch.i2cFail 19 else ch

/-! Ethernet MAC (R172). -/

/-- A write of ETH_TXCMD. -/
def Chan.ethTx (ch : Chan) (v : W32) : Chan :=
  let len := getF v 12 11
  if len < 14 ∨ 1518 < len then ch
  else if 8 ≤ ch.io.ethQ.length then ch.setBit 0x53000C 10
  else { ch with io := { ch.io with ethQ := ch.io.ethQ ++ [(getF v 0 12, len)] } }

/-- One byte into the frame check sequence of IEEE 802.3. -/
def fcsByte (c : W32) (b : Byte) : W32 :=
  (List.range 8).foldl (fun (x : W32) _ => if x.getLsbD 0 then (x >>> 1) ^^^ 0xEDB88320#32 else x >>> 1) (c ^^^ b.zeroExtend 32)

/-- The FCS of a frame. -/
def fcs (bs : List Byte) : W32 := ~~~(bs.foldl fcsByte 0xFFFFFFFF#32)

/-- The frame of a queued command: its bytes from the transmit buffer, byte 0 of a word in bits [7:0], offsets modulo 16,384; padded with
zeros to 60; the FCS after it (R172). -/
def Chan.ethFrame (ch : Chan) (wofs len : Nat) : List Byte :=
  let bs := (List.range len).map fun i => BitVec.ofNat 8 (ch.fld (0x540000 + (4 * wofs + i) % 16384 / 4 * 4) (8 * (i % 4)) 8)
  let bs := bs ++ List.replicate (60 - len) 0#8
  bs ++ leBytes (fcs bs).toNat 4

/-- The frame at the front of the queue was sent. -/
def Chan.ethSent (ch : Chan) : Chan :=
  match ch.io.ethQ with
  | [] => ch
  | x :: rest =>
    if ch.bit 0x530000 0 && ch.bit 0x530000 1 && ch.bit 0x53000C 0 then
      ({ ch with io := { ch.io with ethQ := rest, ethLast := ch.ethFrame x.1 x.2 } } : Chan).setBit 0x53000C 9
    else ch

/-- RXERR or RXDROP counted; at 0xFFFF its saturation bit. -/
def Chan.ethCount (ch : Chan) (lo sat : Nat) : Chan :=
  let v := sticky 0xFFFF (ch.fld 0x530020 lo 16) 1
  let ch := ch.putF 0x530020 lo 16 v
  if v = 0xFFFF then ch.setBit 0x53000C sat else ch

/-- The destination filter. -/
def Chan.ethAccepts (ch : Chan) (frame : List Byte) : Bool :=
  let dst := frame.take 6
  let own := leBytes (ch.reg 0x530004).toNat 4 ++ leBytes (ch.fld 0x530008 0 16) 2
  ch.bit 0x530000 3 || dst == own || (dst == List.replicate 6 0xFF#8 && ch.bit 0x530000 4)
    || ((dst.headD 0#8).getLsbD 0 && dst != List.replicate 6 0xFF#8 && ch.bit 0x530000 5)

/-- Words written into the receive ring from a byte offset, modulo 16,384. -/
def Chan.ethFill (ch : Chan) (at' : Nat) : List W32 → Chan
  | [] => ch
  | x :: xs => Chan.ethFill (ch.setReg (0x544000 + at' % 16384) x) (at' + 4) xs

/-- Bytes as words, the last padded with zeros. -/
def toWords (bs : List Byte) : List W32 :=
  (List.range ((bs.length + 3) / 4)).map fun i => BitVec.ofNat 32 (leNat ((bs.drop (4 * i)).take 4))

/-- A frame arrives, without its FCS; `ok` tells that FCS and code were good. -/
def Chan.ethRx (ch : Chan) (frame : List Byte) (ok : Bool) : Chan :=
  if !ch.bit 0x530000 0 || !ch.bit 0x530000 2 || !ch.bit 0x53000C 0 then ch
  else if !ok || frame.length < 60 || 1518 < frame.length then ch.ethCount 0 12
  else if !ch.ethAccepts frame then ch
  else
    let head := ch.fld 0x530018 0 14
    let tail := ch.fld 0x53001C 0 14
    let need := 4 + (frame.length + 3) / 4 * 4
    if 16384 ≤ (head + 16384 - tail) % 16384 + need then ch.ethCount 16 13
    else (ch.ethFill head (BitVec.ofNat 32 frame.length :: toWords frame)).putF 0x530018 0 14 ((head + need) % 16384)

/-- ETH_STAT follows ETH_CTL and what the PHY reports: LINK while EN is 1, the link word's speed with ANEN, else CTL's; with a half-duplex PHY
the link stays down and HDX reads 1. -/
def Chan.ethFollow (ch : Chan) : Chan :=
  let x := ch.io
  let now := x.ethUp && !x.ethHdx && ch.bit 0x530000 0
  let was := ch.bit 0x53000C 0
  let sp := if ch.bit 0x530000 6 then x.ethSpd else ch.fld 0x530000 7 2
  let ch := ((ch.putF 0x53000C 0 1 (b2n now)).putF 0x53000C 1 2 sp).putF 0x53000C 3 1 (b2n (x.ethUp && x.ethHdx))
  if now != was then ch.setBit 0x53000C 11 else ch

/-- The SGMII link changes. -/
def Chan.ethLink (ch : Chan) (up : Bool) (speed : BitVec 2) (hdx : Bool) : Chan :=
  ({ ch with io := { ch.io with ethUp := up, ethSpd := speed.toNat, ethHdx := hdx } } : Chan).ethFollow

/-- A write of ETH_MDIO: ignored while GO reads 1. -/
def Chan.mdioGo (ch : Chan) (v : W32) : Chan := if ch.bit 0x530024 11 then ch else ch.setReg 0x530024 (regWritten 0x530024 (ch.reg 0x530024) v)

/-- The MDIO transfer ends; while no pin selects MDIO it reads ones (R165). -/
def Chan.mdioDone (ch : Chan) (data : BitVec 16) : Chan :=
  if !ch.bit 0x530024 11 then ch else
  let ch := ch.putF 0x530024 11 1 0
  if ch.bit 0x530024 10 then ch.putF 0x530024 16 16 (if ch.selects 7 1 then data.toNat else 0xFFFF) else ch

end Sys2Proof.Machine
end

