-- ==== Sys2Proof/Machine/Ctrl.lean ====
section
/-! DEFINITION. Reads and writes of the control-register region (R6 to R12, R31), shared by the cores, the STPH release path and
the debug wire; the permissions they need (R200, R439). -/

namespace Sys2Proof.Machine

/-- Whether a core's store to an offset needs System (R50, R117, R144, R164, R200, R223, R290, R308, R431, R439). -/
def needsSystem (off : Nat) : Bool :=
  off == 0x10 || off == 0x20 || off == 0x24 || (0x10100 ≤ off && off < 0x10200)
    || (0x40000 ≤ off && off < 0x50000 && off != 0x40010)
    || (0x50000 ≤ off && off < 0x80000) || (0x100000 ≤ off && off < 0x180000) || (0x200000 ≤ off && off < 0x210000)
    || (0x300000 ≤ off && off < 0x310000)

/-- Whether a load from an offset needs Gauge (R439). -/
def needsGauge (off : Nat) : Bool := 0x100000 ≤ off && off < 0x180000 && 0x1000 ≤ off % 0x10000 && off % 0x10000 < 0x1200

/-- The core a per-core offset belongs to, and the offset inside its block (R31). -/
def coreOf (off : Nat) : Fin 8 := ⟨(off - 0x100000) / 0x10000 % 8, Nat.mod_lt _ (by decide)⟩

/-- PCR_LOQ_ENTn (R117). -/
def LoqEnt.image (e : LoqEnt) : W32 :=
  let st := match e.st with | .free => 0 | .pending => 1 | .faulted => 2
  let op := match e.op with | .none => 0 | .idiv => 1 | .fdiv => 2 | .fsqrt => 3 | .ldf => 4 | .stf => 5 | .crcb => 6
  let file := match e.file with | some false => 0 | some true => 1 | none => 2
  let cause := if e.st = .faulted then e.cause % 16 else 0
  if e.st = .free then 0#32 else BitVec.ofNat 32 (st + 4 * file + 16 * e.dest.val + 4096 * op + 65536 * cause)

/-- The faulted entry whose operation issued first (R103, R117). -/
def Core.oldFault (c : Core) : Option (Fin 32) :=
  (((List.finRange 32).filter fun i => (c.loq[i]).st = .faulted).mergeSort fun i j => (c.loq[i]).seq ≤ (c.loq[j]).seq).head?

/-- The plan image that L3D and MCX registers hold, for comparison with the active one (R287, R296). -/
def Chan.pendingPlan (ch : Chan) : Plan :=
  { part := ch.reg 0x70030, slots := (List.range 16).map fun i => ch.fld (0x70034 + i / 8 * 4) (i % 8 * 4) 4,
    allot := (List.range 8).map fun i => ch.reg (0x70040 + 4 * i), tok := ch.reg 0x60050,
    tokAl := (List.range 8).map fun i => ch.fld (0x60060 + 4 * i) 0 6 }

/-- Timer of an offset of the TMR block. -/
def timerOf (off : Nat) : Fin 16 := ⟨(off - 0x20000) / 0x100 % 16, Nat.mod_lt _ (by decide)⟩
def slotOf (off : Nat) : Fin 64 := ⟨(off - 0x11000) / 0x20 % 64, Nat.mod_lt _ (by decide)⟩
def trkOf (off : Nat) : Fin 4 := ⟨(off - 0x10100) / 0x40 % 4, Nat.mod_lt _ (by decide)⟩
def uartOf (off : Nat) : Fin 2 := ⟨(off - 0x500000) / 0x1000 % 2, Nat.mod_lt _ (by decide)⟩
def unitOf (off : Nat) : Fin 32 := ⟨(off - 0x300100) / 16 % 32, Nat.mod_lt _ (by decide)⟩

/-- FLR registers computed from the sources and the cores (R223). -/
def Chan.peekFlr (ch : Chan) (off : Nat) : W32 :=
  if 0x40080 ≤ off ∧ off < 0x400A0 then ofBits 32 fun b => ch.pendingSrc ((off - 0x40080) / 4 * 32 + b)
  else if 0x400A0 ≤ off ∧ off < 0x400C0 then ofBits 32 fun b => ch.active ((off - 0x400A0) / 4 * 32 + b)
  else if 0x40480 ≤ off ∧ off < 0x40800 then
    let v := (off - 0x40400) / 4
    if isSource v && pulseKind v then ch.reg off ||| 0x8000#32 else ch.reg off
  else if 0x41000 ≤ off ∧ off < 0x41200 then
    let w : Fin 8 := ⟨(off - 0x41000) / 0x40 % 8, Nat.mod_lt _ (by decide)⟩
    let c := ch.core w
    match off % 0x40 with
    | 0 => BitVec.ofNat 32 (c.mask.toNat + 8 * b2n c.wact + 16 * b2n c.wovr + 256 * (ch.offered w).getD 0 + 65536 * (if c.wact then c.wrem % 65536 else 0))
    | 8 => c.xact
    | _ => ch.reg off
  else ch.reg off

/-- Per-core registers computed from the long-operation queue and the mode (R117). -/
def Chan.peekCore (ch : Chan) (off : Nat) : W32 :=
  let w := coreOf off
  let c := ch.core w
  let o := off % 0x10000
  if o = 0 then
    let used := (c.loq.toList.filter fun e => e.st ≠ .free).length
    match c.oldFault with
    | some e => BitVec.ofNat 32 (used + 256 + 65536 * e.val)
    | none => BitVec.ofNat 32 used
  else if o = 4 then ofBits 32 fun i => (nth LoqEnt.empty c.loq.toList i).st == .faulted
  else if o = 8 then (match c.oldFault with | some e => (c.loq[e]).pc.truncate 32 | none => 0#32)
  else if o = 0xC then (match c.oldFault with | some e => ((c.loq[e]).pc >>> 32).truncate 32 | none => 0#32)
  else if o = 0x18 then
    let off' := ch.fixedCore w
    BitVec.ofNat 32 (b2n (runMode ch.mode && ch.mode != 1 && !off') + 2 * b2n off')
  else if 0x80 ≤ o ∧ o < 0x100 then (nth LoqEnt.empty c.loq.toList ((o - 0x80) / 4)).image
  else regShown off (ch.reg off)

/-- Peripheral registers computed from their FIFOs (R169 to R172). -/
def Chan.peekPer (ch : Chan) (off : Nat) : W32 :=
  if 0x540000 ≤ off then ch.reg off
  else match off with
    | 0x500008 | 0x501008 => (match (ch.io.uart[uartOf off]).rx with | [] => 0x80000000#32 | x :: _ => x.zeroExtend 32)
    | 0x50000C | 0x50100C =>
      let u := ch.io.uart[uartOf off]
      setF (setF (setF (ch.reg off) 0 7 u.tx.length) 8 7 u.rx.length) 16 1 (b2n u.idle)
    | 0x510004 => ch.io.spiRx.headD 0#32
    | 0x510008 => setF (setF (setF (ch.reg off) 0 5 ch.io.spiTx.length) 8 5 ch.io.spiRx.length) 16 1 (b2n ch.io.spiOn.isSome)
    | 0x520008 => (match ch.io.i2cRx with | [] => 0x80000000#32 | b :: _ => b.zeroExtend 32)
    | 0x52000C => setF (setF (setF (ch.reg off) 0 5 ch.io.i2cCmd.length) 8 5 ch.io.i2cRx.length) 16 1 (b2n ch.io.i2cBus)
    | 0x53000C => setF (setF (ch.reg off) 4 4 ch.io.ethQ.length) 8 1 (b2n (ch.fld 0x530018 0 14 != ch.fld 0x53001C 0 14))
    | _ => regShown off (ch.reg off)

/-- What a read of a control register returns, without its side effects: a debug read (R6, R9, R12). -/
def Chan.peekCtrl (ch : Chan) (off : Nat) : W32 :=
  match off / 0x10000 with
  | 0 => if off = 0 then BitVec.ofNat 32 ch.num.val else regShown off (ch.reg off)
  | 1 => (match off with
    | 0x10000 => ch.ptb.truncate 32
    | 0x10004 => (ch.ptb >>> 32).truncate 32
    | 0x10010 => setF (regShown off (ch.reg off)) 0 8 ch.stph.length
    | _ => regShown off (ch.reg off))
  | 2 =>
    if off < 0x21000 ∧ off % 0x100 = 0xC then setF (setF 0#32 0 31 (ch.cnt (timerOf off))) 31 1 (b2n (ch.tmDir (timerOf off)))
    else if off < 0x21000 ∧ off % 0x100 = 0x1C then setF (ch.reg off) 4 1 (b2n (ch.tmDir (timerOf off)))
    else regShown off (ch.reg off)
  | 3 => if off = 0x30128 then ch.pioIn false else if off = 0x3012C then ch.pioIn true else regShown off (ch.reg off)
  | 4 => regShown off (ch.peekFlr off)
  | 5 => if off = 0x50014 then setF (ch.reg off) 1 1 (b2n ch.wdtFrozen) else regShown off (ch.reg off)
  | 6 => if off = 0x60080 then setF (regShown off (ch.reg off)) 0 11 ch.tokensUsed else regShown off (ch.reg off)
  | 7 =>
    if off = 0x70004 then
      setF (setF (setF (ch.reg off) 16 1 (b2n ch.rebuild.isSome)) 17 1 (b2n ch.parted)) 18 1 (b2n (ch.pendingPlan != ch.plan))
    else if 0x70060 ≤ off ∧ off < 0x70078 then 0#32
    else regShown off (ch.reg off)
  | 0x20 => (match off with
    | 0x200004 =>
      let used := ch.trcUsed
      setF (setF (ch.reg off) 6 1 (b2n (ch.trcPort == 1 && (ch.trcState == 1 || ch.trcState == 2 || used != 0)))) 16 13 (used / 16)
    | 0x200020 => BitVec.ofNat 32 (ch.trcHead % 65536 + 65536 * b2n (decide (65536 ≤ ch.trcHead)))
    | 0x200024 => BitVec.ofNat 32 ((ch.trcHead - ch.trcUsed) % 65536)
    | _ => if 0x208000 ≤ off ∧ off < 0x210000 then ch.trcWord (off - 0x208000) else regShown off (ch.reg off))
  | 0x30 => if off = 0x300004 then setF (regShown off (ch.reg off)) 8 1 (b2n ch.wire.awake) else regShown off (ch.reg off)
  | 0x40 =>
    if off = 0x400004 then
      setF (setF (setF (ch.reg off) 0 5 (16 - ch.mbxOut.length)) 8 5 ch.mbxIn.length) 16 1 (b2n !ch.llDown)
    else if 0x4000C0 ≤ off ∧ off < 0x400100 then ch.mbxRx ((off - 0x4000C0) / 4)
    else regShown off (ch.reg off)
  | n =>
    if 0x10 ≤ n ∧ n < 0x18 then (if off % 0x10000 < 0x1000 then ch.peekCore off else regShown off (ch.reg off))
    else if 0x50 ≤ n ∧ n < 0x60 then ch.peekPer off
    else regShown off (ch.reg off)

/-- An ordinary read: its value, and its side effects (R6, R156, R168). -/
def Chan.readCtrl (ch : Chan) (off : Nat) : Chan × W32 :=
  match off with
  | 0x500008 | 0x501008 => ch.uartPop (uartOf off)
  | 0x510004 => ch.spiPop
  | 0x520008 => ch.i2cPop
  | _ =>
    if 0x20000 ≤ off ∧ off < 0x21000 ∧ 0x30 ≤ off % 0x100 ∧ off % 0x100 < 0x40 then
      ch.capRead (timerOf off) ⟨(off % 0x100 - 0x30) / 4 % 4, Nat.mod_lt _ (by decide)⟩
    else (ch.setReg off (regCleared off (ch.reg off)), ch.peekCtrl off)

/-- The generic write of R6 to R8. -/
def Chan.plainWrite (ch : Chan) (off : Nat) (v : W32) : Chan := ch.setReg off (regWritten off (ch.reg off) v)

/-- Writes of the PTB block (R144). -/
def Chan.writePtb (m : MantleTable) (ch : Chan) (off : Nat) (v : W32) : Chan :=
  if off = 0x10010 then
    let ch := ch.plainWrite off v
    if v.getLsbD 31 then ch.putF off 8 8 ch.stph.length else ch
  else if 0x10100 ≤ off ∧ off < 0x10200 then
    match off % 0x40 with
    | 0 => ch.trkCfg m (trkOf off) v
    | 0x3C => ch.swCmd m (trkOf off) v
    | 0x14 => ch.trkLead m (trkOf off) off v
    | _ => ch.plainWrite off v
  else if 0x11000 ≤ off ∧ off < 0x11800 then
    match off % 0x20 with
    | 0 => ch.alarmCtl m (slotOf off) v
    | 4 | 8 | 0xC | 0x10 | 0x14 => ch.alarmReg (slotOf off) off v
    | _ => ch.plainWrite off v
  else ch.plainWrite off v

/-- A write of TMRn_CTL (R145, R147, R159). -/
def Chan.timerCtl (ch : Chan) (n : Fin 16) (v : W32) : Chan :=
  let off := tb n
  let old := ch.reg off
  let new := regWritten off old v
  let new := if n.val % 2 = 0 then setF new 2 1 0 else new
  let changes := (old ^^^ new) &&& 0xFFFF0006#32 ≠ 0#32
  let ch :=
    if ch.tmRun n ∧ changes then ch.setBit (off + 0x1C) 16
    else (ch.setReg off (setF new 0 1 (getF old 0 1))).onTm n fun t => if new.getLsbD 1 then t else { t with down := false }
  ch.tmSetRun n (v.getLsbD 0)

/-- A write of TMR_SYNC: STOP wins over START (R159). -/
def Chan.timerSync (ch : Chan) (v : W32) : Chan :=
  (List.finRange 16).foldl (fun (ch : Chan) n =>
    if v.getLsbD (16 + n.val) then ch.tmSetRun n false else if v.getLsbD n.val then ch.tmSetRun n true else ch) ch

/-- Writes of the TMR block (R148, R152, R159). -/
def Chan.writeTmr (ch : Chan) (off : Nat) (v : W32) : Chan :=
  if off = 0x21000 then ch.timerSync v
  else if 0x21000 < off then ch
  else
    let n := timerOf off
    match off % 0x100 with
    | 0 => ch.timerCtl n v
    | 8 => ch.onTm n fun t => { t with newC := some v }
    | 0x10 => ch.onTm n fun t => { t with newA := some v }
    | 0x14 => ch.onTm n fun t => { t with newB := some v }
    | 0x18 => (ch.plainWrite off v).tmOut n
    | _ => ch.plainWrite off v

/-- Writes of the PIO block (R165, R166). -/
def Chan.writePio (ch : Chan) (off : Nat) (v : W32) : Chan :=
  if off < 0x30100 then ch.pinCfg ((off - 0x30000) / 4) v
  else match off with
    | 0x30100 => ch.setOut false fun _ => v
    | 0x30104 => ch.setOut true fun _ => v
    | 0x30108 => ch.setOut false fun x => x ||| v
    | 0x3010C => ch.setOut true fun x => x ||| v
    | 0x30110 => ch.setOut false fun x => x &&& ~~~v
    | 0x30114 => ch.setOut true fun x => x &&& ~~~v
    | 0x30118 => ch.setOut false fun x => x ^^^ v
    | 0x3011C => ch.setOut true fun x => x ^^^ v
    | 0x30120 | 0x30124 => ch.pinsMoved (ch.plainWrite off v)
    | _ => ch.plainWrite off v

/-- Writes of the FLR block (R220, R223). -/
def Chan.writeFlr (ch : Chan) (off : Nat) (v : W32) : Chan :=
  let word := fun (i : Nat) => BitVec.ofNat 256 (v.toNat * 2 ^ (32 * i))
  if off = 0x40010 then { ch with pulse := ch.pulse ||| word 5 }
  else if 0x40080 ≤ off ∧ off < 0x400A0 then { ch with pulse := ch.pulse &&& ~~~word ((off - 0x40080) / 4) }
  else if 0x400A0 ≤ off ∧ off < 0x400C0 then { ch with activ := ch.activ &&& ~~~word ((off - 0x400A0) / 4) }
  else ch.plainWrite off v

/-- Writes of the WDT block (R164). -/
def Chan.writeWdt (ch : Chan) (off : Nat) (v : W32) : Chan :=
  match off with
  | 0x50000 => ch.wdtCtl v
  | 0x50004 | 0x50008 => if ch.bit 0x50000 4 then ch else ch.plainWrite off v
  | 0x50010 => ch.wdtService v
  | _ => ch.plainWrite off v

/-- Dismissal of faulted entries (R103, R117). -/
def Chan.loqDismiss (ch : Chan) (w : Fin 8) (v : W32) : Chan :=
  ch.onCore w fun c => { c with loq := c.loq.mapFinIdx fun i (e : LoqEnt) _ => if v.getLsbD i ∧ e.st = .faulted then LoqEnt.empty else e }

/-- Writes of per-core blocks (R117, R440). -/
def Chan.writePcr (ch : Chan) (off : Nat) (v : W32) : Chan :=
  match off % 0x10000 with
  | 4 => ch.loqDismiss (coreOf off) v
  | 0x14 =>
    let ch := ch.plainWrite off v
    if v.getLsbD 0 then ch.onCore (coreOf off) fun c => { c with pred := Pred.clear } else ch
  | _ => ch.plainWrite off v

/-- A write of TRC_CTL (R452, R454). -/
def Chan.traceCtl (ch : Chan) (v : W32) : Chan :=
  let old := ch.reg 0x200000
  let new := regWritten 0x200000 old v
  let run := old.getLsbD 0
  let ch :=
    if run ∧ (old ^^^ new) &&& 0xFE#32 ≠ 0#32 then (ch.setBit 0x200004 5).putF 0x200000 0 1 (b2n (new.getLsbD 0)) else ch.setReg 0x200000 new
  if !run && new.getLsbD 0 then ch.traceStart else if run && !new.getLsbD 0 then ch.traceHalt else ch

/-- Writes of the TRC block (R452, R454). -/
def Chan.writeTrc (ch : Chan) (off : Nat) (v : W32) : Chan :=
  match off with
  | 0x200000 => ch.traceCtl v
  | 0x200014 => if v.getLsbD 0 then ch.trigger 1 0 else ch
  | _ => ch.plainWrite off v

/-- DBG_HALTREQ, written from the wire at Full (R422). In DEW a request within the scope wakes the channel, and one outside it is
refused (R321); one met during the entry to DEW is held as a wake (R47). -/
def Chan.dbgHaltReq (m : MantleTable) (ch : Chan) (v : W32) : Chan :=
  (List.finRange 8).foldl (fun (ch : Chan) w =>
    if !v.getLsbD w.val then ch
    else if ch.mode ≠ 6 then (if ch.haltAuth m (ch.core w).pcc.mantle then ch.wakeEvent else ch).haltReq w 0 0
    else if ch.haltAuth m (ch.core w).pcc.mantle then ch.wakeEvent.haltReq w 0 0 else ch) ch
/-- DBG_RESUME, written from the wire at Full (R425). -/
def Chan.dbgResume (ch : Chan) (v : W32) : Chan :=
  (List.finRange 8).foldl (fun (ch : Chan) w => if v.getLsbD w.val then ch.resume w else ch) ch
/-- A step begins (R424): the core executes its next instruction and halts again. -/
def Chan.dbgStep (ch : Chan) (v : W32) : Chan :=
  let w : Fin 8 := ⟨getF v 0 3 % 8, Nat.mod_lt _ (by decide)⟩
  if ch.halted w then ch.onCore w fun c => { c with stepping := true, skip := true } else ch

/-- Writes of the DBG block (R426, R431): a core's writes to the first four registers do nothing. -/
def Chan.writeDbg (m : MantleTable) (ch : Chan) (off : Nat) (v : W32) (wire : Bool) : Chan :=
  match off with
  | 0x30000C => if wire then ch.plainWrite off v else ch
  | 0x300010 => if wire then ch.dbgHaltReq m v else ch
  | 0x300014 => if wire then ch.dbgResume v else ch
  | 0x300018 => if wire then ch.dbgStep v else ch
  | _ => if 0x300100 ≤ off ∧ off < 0x300300 ∧ off % 16 = 8 then ch.patchCtl (unitOf off) v wire else ch.plainWrite off v

/-- Writes of the MBX block (R25, R28). -/
def Chan.writeMbx (ch : Chan) (off : Nat) (v : W32) (mantle : BitVec 12) : Chan :=
  match off with
  | 0x400080 => ch.mbxGo mantle
  | 0x400100 => ch.mbxPop
  | _ => ch.plainWrite off v

/-- Writes of the local peripherals (R168 to R172); a line they drive may move (R166). -/
def Chan.writePer (ch : Chan) (off : Nat) (v : W32) : Chan :=
  if 0x540000 ≤ off ∧ off < 0x548000 then ch.setReg off v
  else ch.pinsMoved <| match off with
    | 0x500000 | 0x501000 => (ch.plainWrite off v).uartKick (uartOf off)
    | 0x500008 | 0x501008 => ch.uartTx (uartOf off) v
    | 0x510000 => (ch.plainWrite off v).spiKick
    | 0x510004 => ch.spiPut v
    | 0x520000 => (ch.plainWrite off v).i2cKick
    | 0x520004 => ch.i2cPut v
    | 0x530000 => (ch.plainWrite off v).ethFollow
    | 0x530014 => ch.ethTx v
    | 0x53001C => ch.plainWrite off (v &&& ~~~3#32)
    | 0x530024 => ch.mdioGo v
    | _ => ch.plainWrite off v

/-- One write at its block (R6 to R9); `mantle` is the PCC's for MBX_TXGO (R24). -/
def Chan.writeOne (m : MantleTable) (ch : Chan) (off : Nat) (v : W32) (mantle : BitVec 12) (wire : Bool) : Chan :=
  match off / 0x10000 with
  | 0 => if off = 0x10 then ch.writeModeReq v else ch.plainWrite off v
  | 1 => ch.writePtb m off v
  | 2 => ch.writeTmr off v
  | 3 => ch.writePio off v
  | 4 => ch.writeFlr off v
  | 5 => ch.writeWdt off v
  | 6 => if off = 0x60080 then (if v.getLsbD 31 then ch.putF off 16 11 ch.tokensUsed else ch) else ch.plainWrite off v
  | 7 => if off = 0x70080 then { ch.plainWrite off v with admitted := Vector.replicate 8 0 } else ch.plainWrite off v
  | 0x20 => ch.writeTrc off v
  | 0x30 => ch.writeDbg m off v wire
  | 0x40 => ch.writeMbx off v mantle
  | n => if 0x10 ≤ n ∧ n < 0x18 then ch.writePcr off v else if 0x50 ≤ n ∧ n < 0x60 then ch.writePer off v else ch

/-- What a firing put on its way out takes effect (R138, R148). -/
def Chan.relAct (m : MantleTable) (ch : Chan) : RelAct → Chan
  | .write e => ch.writeOne m e.off e.data e.mantle false
  | .pin p op => ch.pinAction p op
  | .timer n on => ch.tmSetRun n on

/-- The actions whose time has come take effect, in their order (R138, R139). -/
def Chan.releaseDue (m : MantleTable) (ch : Chan) : Chan :=
  let due := ch.rel.takeWhile fun e => dueBy e.due ch.ptb
  due.foldl (fun (ch : Chan) e => ch.relAct m e.act) { ch with rel := ch.rel.dropWhile fun e => dueBy e.due ch.ptb }

/-- A write to the control-register region by a core's store or the wire. -/
def Chan.writeCtrl (m : MantleTable) (ch : Chan) (off : Nat) (v : W32) (mantle : BitVec 12) (wire : Bool) : Chan :=
  ch.writeOne m off v mantle wire

end Sys2Proof.Machine
end

