-- ==== Sys2Proof/Machine/Mem.lean ====
section
/-! DEFINITION. Loads, stores, the store buffer, far accesses, the long-operation queue and atomics (R96 to R103, R242 to R260,
R265 to R268, R281, R298 to R302). -/

namespace Sys2Proof.Machine

/-- A line that leaves a core's L1D: the controller's record of a Calm line follows (R265). -/
def Chan.l1dDrop (ch : Chan) (w : Fin 8) (line : Nat) : Chan :=
  let ch := ch.onCore w fun c => { c with l1d := setDel c.l1d line }
  { ch with calmPres := spSet 0#8 ch.calmPres line (ch.presence line &&& ~~~(BitVec.ofNat 8 (2 ^ w.val))) }

/-- A line noted in a core's L1D on a load in a cached mode; a Calm line is recorded at the controller too (R264, R265). -/
def Chan.l1dNote (ch : Chan) (w : Fin 8) (pa : Nat) : Chan :=
  let line := pa / 64
  if ch.fixedCore w || (ch.mode = 5 && inCalm pa && pa < ch.split) then ch else
  let c := ch.core w
  let set := c.l1d.filter fun l => l % 64 == line % 64 && l != line
  let ch := if set.length < 8 then ch else match set[ch.pick 203 set.length]? with | some v => ch.l1dDrop w v | none => ch
  let ch := ch.onCore w fun c => { c with l1d := setAdd c.l1d line }
  if inCalm pa then { ch with calmPres := spSet 0#8 ch.calmPres line (ch.presence line ||| BitVec.ofNat 8 (2 ^ w.val)) } else ch

/-! The store buffer (R245 to R251). -/

/-- What FENCE.SS leaves in the buffer outside its 16 entries (R252): no store behind it leaves before every posted store ahead of
it is performed. -/
def ssMark : SbEnt := ⟨⟨0, 0, .unc10⟩, 0#128, false, false, false, 0#12, 0, 0⟩

/-- Store-buffer entries in use (R245). -/
def Core.sbUsed (c : Core) : Nat := (c.sb.filter fun e => e.part.n != 0).length

/-- The freeze of a load from a device region, an SC or an AMO (R95); where costs are fixed it is part of the cost. -/
def Chan.awaitFrozen (ch : Chan) (w : Fin 8) : Chan := if ch.fixedCore w then ch else ch.froze w 0xFF

/-- The oldest entry of a store buffer leaves it (R241, R245): the store is written at its target; of a 16-byte store to uncached HDM the lower
half is written first (R242). -/
def Chan.drainOne (m : MantleTable) (ch : Chan) (w : Fin 8) : Chan :=
  match (ch.core w).sb with
  | [] => ch
  | e :: rest =>
    if e.part.attr = .device then (ch.onCore w fun c => { c with sb := rest }).writeCtrl m (e.part.pa - ctrlBase) (e.data.truncate 32) e.mantle false
    else ch.drainMem m w

/-- n happenings of a drain, oldest entry first. -/
def Chan.drainSteps (m : MantleTable) (ch : Chan) (w : Fin 8) : Nat → Chan
  | 0 => ch
  | n + 1 => Chan.drainSteps m (ch.drainOne m w) w n

/-- The first n entries drained, oldest first. -/
def Chan.drainN (m : MantleTable) (ch : Chan) (w : Fin 8) (n : Nat) : Chan := ch.drainSteps m w (stepsOf ((ch.core w).sb.take n))

/-- The whole buffer drained. -/
def Chan.drainAll (m : MantleTable) (ch : Chan) (w : Fin 8) : Chan := ch.drainN m w (ch.core w).sb.length

/-- The buffer drained up to its last entry that `p` selects (R246, R247, R260). -/
def Chan.drainTo (m : MantleTable) (ch : Chan) (w : Fin 8) (p : SbEnt → Bool) : Chan :=
  let sb := (ch.core w).sb
  ch.drainN m w (sb.length - (sb.reverse.takeWhile fun e => !p e).length)

/-- The cycle in which a store that enters the buffer now has left it, where the costs are fixed: they leave one after another, 2 cycles
each for the Calm store and 12 for a control register (R115). -/
def Core.leaveAt (c : Core) (e : SbEnt) : Nat :=
  (c.sb.map fun x => x.leave).foldl max c.cyc + (if e.part.attr = .device then 12 else 2)

/-- Entries of the buffer up to the last that `p` selects. -/
def Core.upTo (c : Core) (p : SbEnt → Bool) : Nat := c.sb.length - (c.sb.reverse.takeWhile fun e => !p e).length

/-- Cycles until the first k entries have left the buffer, where the costs are fixed (R115, R247, R260). -/
def Core.drainCost (c : Core) (k : Nat) : Nat := (((c.sb.take k).map fun e => e.leave).foldl max 0) - c.cyc

/-- The cycle in which the instruction issuing now is in E3, after the freezes to come before it (R89, R95). -/
def Core.e3 (c : Core) : Nat := c.cyc + 3 + (c.ices.map (·.n)).sum

/-- A freeze of an instruction in E3 until the first k entries have left the buffer: on the fixed schedule where there is one, else of a free
length (R95, R116). -/
def Chan.frozeDrain (m : MantleTable) (ch : Chan) (w : Fin 8) (ev k : Nat) : Chan :=
  let c := ch.core w
  (if ch.fixedCore w then ch.frozeFor w ev (c.cyc + c.drainCost k - c.e3) else ch.froze w ev).drainN m w k

/-- Stores entered into the buffer, each in the next entry, in the cycle of their issue; a full buffer drains first (R95, R245). The storing core's own L1I
copies go (R112). -/
def Chan.enter (m : MantleTable) (ch : Chan) (w : Fin 8) (es : List SbEnt) : Chan :=
  es.foldl (fun (ch : Chan) e =>
    let ch := if 16 ≤ (ch.core w).sbUsed then
        ch.frozeDrain m w 0x0F (1 + ((ch.core w).sb.takeWhile fun y => y.part.n == 0).length) else ch
    let leave := if ch.fixedCore w then (ch.core w).leaveAt e else 0
    ch.onCore w fun c => { c with sb := c.sb ++ [{ e with born := (ch.core w).cyc, leave := leave }], l1i := setDel c.l1i (e.part.pa / 64) }) ch

/-- Where the costs are fixed, the stores whose time has come have left the buffer (R115). -/
def Chan.drainDue (m : MantleTable) (ch : Chan) (w : Fin 8) (now : Nat) : Chan :=
  if ch.fixedCore w then ch.drainN m w ((ch.core w).sb.takeWhile fun e => decide (e.leave ≤ now)).length else ch

/-- The entries of a store of given parts (R243). -/
def storeEnts (ps : List Part) (data : W128) (tag : Bool) (mantle : BitVec 12) : List SbEnt :=
  (ps.foldl (fun (x : List SbEnt × Nat) p =>
    (x.1 ++ [{ part := p, data := data >>> (8 * x.2), tag := tag, fwd := false, clean := false, mantle := mantle, born := 0, leave := 0 }], x.2 + p.n)) ([], 0)).1

/-- The identifier of a device access (R249): uncached HDM is one, each block of R31 is one, each local peripheral is one block. -/
def devId (p : Part) : Nat := if inCtrl p.pa then 1 + (if 0x500000 ≤ p.pa - ctrlBase then 0x50 else (p.pa - ctrlBase) / 0x10000) else 0

/-- Streams that the prefetcher of an L2 follows, and the largest stride of one (R269). -/
def streamCount : Nat := 8
def strideMax : Nat := 2048

/-- The prefetcher trained by a load that commits and that missed in the L1D (R269): it belongs to a stream within the stride limit, or begins
one in place of the oldest; what it asks for ahead of a load is not published, so how many lines that is is free within PFDEPTH (log 17).
Lines of the same 4 KB page only; nothing is waited for, and one that meets poison fills nothing. -/
def Chan.prefetch (m : MantleTable) (ch : Chan) (w : Fin 8) (pa : Nat) : Chan :=
  if !ch.bit 0x70000 16 then ch else
  let near := fun (x : Stream) => x.last / 4096 == pa / 4096 && x.last != pa && decide (((pa : Int) - x.last).natAbs ≤ strideMax)
  let c := ch.core w
  let (x, others) : Stream × List Stream := match c.streams.find? near with
    | some y => (⟨pa, (pa : Int) - y.last⟩, c.streams.erase y)
    | none => (⟨pa, 0⟩, c.streams.take (streamCount - 1))
  let go := (c.streams.find? near).any fun y => y.stride == x.stride
  let ch := ch.onCore w fun c => { c with streams := x :: others }
  if !go then ch else
  (List.range (ch.pick 621 (ch.fld 0x70000 17 3 + 1))).foldl (fun (ch : Chan) i =>
    let a := ((pa : Int) + x.stride * (i + 1)).toNat
    let line := a / 64
    if a / 4096 ≠ pa / 4096 ∨ ((ch.core w).l2Find line).isSome ∨ !ch.canAsk w line true then ch
    else (ch.event m w 0x17).request ⟨.rds, w, line, ch.ownerOf m w, true, .none⟩) ch

/-- The parts of a load that miss in the L1D and are cacheable HDM: what trains the prefetcher. -/
def Chan.l1dMisses (ch : Chan) (w : Fin 8) (ps : List Part) : List Nat :=
  if ch.fixedCore w then [] else
  (ps.filter fun p => p.attr == .cacheable && !setHas (ch.core w).l1d (p.pa / 64)).map fun p => p.pa

/-- The prefetcher trained by the misses of a load that commits. -/
def Chan.trainPrefetch (m : MantleTable) (ch : Chan) (w : Fin 8) (pas : List Nat) : Chan := pas.foldl (fun (ch : Chan) pa => ch.prefetch m w pa) ch

/-- A part of a load of uncached HDM, half by half (R242); stores of other cores may come between. -/
def Chan.readHalves (m : MantleTable) (ch : Chan) (w : Fin 8) : List Part → Chan × List Byte × Bool × Bool
  | [] => (ch, [], false, false)
  | p :: rest =>
    let (ch, b, t, q) := (ch.settleFar m p.pa p.n).farRead m w p
    match rest with
    | [] => (ch, b, q, t)
    | _ =>
      let (ch, b', q', t') := Chan.readHalves m (ch.meanwhile m 5) w rest
      (ch, b ++ b', q || q', t && t')

/-- One part of a load (R246, R247): its bytes, whether it met poison, and its granule's tag. A load of memory is compared with every
buffered store, whatever its attribute. -/
def Chan.loadPart (m : MantleTable) (ch : Chan) (w : Fin 8) (p : Part) (ll : Bool) : Chan × List Byte × Bool × Bool :=
  let memory := p.attr = .calm ∨ p.attr = .cacheable
  if memory then
    let lap := (ch.core w).sb.filter fun e => laps e.part.pa e.part.n p.pa p.n
    match lap.getLast? with
    | some e =>
      if !ll ∧ e.part.pa ≤ p.pa ∧ p.pa + p.n ≤ e.part.pa + e.part.n then
        let ch := ch.onCore w fun c => { c with sb := c.sb.map fun x => if x = e then { x with fwd := true } else x }
        (ch, ((leBytes e.data.toNat 16).drop (p.pa - e.part.pa)).take p.n, false, e.tag && e.part.n = 16)
      else
        mem (ch.frozeDrain m w 0x0E ((ch.core w).upTo fun e => laps e.part.pa e.part.n p.pa p.n))
    | none => mem ch
  else
    let ch := (ch.awaitFrozen w).drainTo m w fun e => (e.part.attr ≠ .calm ∧ e.part.attr ≠ .cacheable) ∧ devId e.part = devId p
    if p.attr = .device then
      let (ch, v) := ch.readCtrl (p.pa - ctrlBase)
      (ch, leBytes v.toNat 4, false, false)
    else (ch.postAll w).readHalves m w p.halves
where
  /-- The read from memory. -/
  mem (ch : Chan) : Chan × List Byte × Bool × Bool :=
    let ch := ch.settleFar m p.pa p.n
    let miss := !ch.fixedCore w && !setHas (ch.core w).l1d (p.pa / 64)
    let ch := if miss then (ch.event m w 9).froze w 0xFF else ch
    if p.attr = .calm then
      let q := setHas ch.calmPois (p.pa / 64)
      ((if q then ch else ch.l1dNote w p.pa), readBytes ch.calm p.pa p.n, q, setHas ch.calmTag (p.pa / 16))
    else
      let ch := if ((ch.core w).l2Find (p.pa / 64)).isSome then ch else ch.event m w 0x0A
      match ch.l2Read w (ch.ownerOf m w) (p.pa / 64) with
      | (ch, some x) => ((if x.poison then ch else ch.l1dNote w p.pa), lineBytes x.data (p.pa % 64) p.n, x.poison, x.tags.getLsbD (p.pa / 16 % 4))
      | (ch, none) => (ch, leBytes 0 p.n, true, false)

/-- A load of given parts, the lower performed first (R243): its bytes, the offset of the part that met poison, its tag. Stores may leave their
buffers between two parts. -/
def Chan.loadParts (m : MantleTable) (ch : Chan) (w : Fin 8) (ll : Bool) : List Part → Nat → Chan × List Byte × Option Nat × Bool
  | [], _ => (ch, [], none, false)
  | p :: rest, off =>
    let (ch, b, q, t) := ch.loadPart m w p ll
    if q then (ch, b, some off, false) else
    match rest with
    | [] => (ch, b, none, t)
    | _ =>
      let (ch, b', q', t') := Chan.loadParts m (ch.meanwhile m (6 + off)) w ll rest (off + p.n)
      (ch, b ++ b', q', t')

/-! The long-operation queue (R96 to R103). -/

/-- A free entry for a long operation (R95). -/
def Core.loqFree (c : Core) : Option (Fin 32) := (List.finRange 32).find? fun i => (c.loq[i]).st = .free

/-- Flags a long operation sets at its completion are kept in `cause`'s place until then: FDIV and FSQRT carry them (R100). -/
def loqFlags (e : LoqEnt) : FFlags := BitVec.ofNat 5 (e.cause / 16)

/-- The unit a long operation occupies: the integer divider, the FP divider, none (R97). -/
def LoqOp.unit : LoqOp → Nat | .idiv => 1 | .fdiv | .fsqrt => 2 | _ => 0

/-- The cycle since which a unit is free of the operations that have left it. -/
def Core.unitAt (c : Core) (u : Nat) : Nat := if u = 1 then c.units.1 else c.units.2

/-- The first and the last cycle in which a pending entry completes, the last where a figure is stated: after its figures, from its commit or from
when its unit has finished the operations issued before it (R97). -/
def Core.window (c : Core) (e : LoqEnt) : Nat × Option Nat :=
  let u := e.op.unit
  if u = 0 then (e.start + e.lo, e.hi.map (e.start + ·)) else
  let x := (c.loqOrder.filter fun i => (c.loq[i]).op.unit == u && decide ((c.loq[i]).seq < e.seq)).foldl
    (fun (x : Nat × Nat) i => let q := c.loq[i]; (max x.1 q.start + q.lo, max x.2 q.start + q.hi.getD 0)) (c.unitAt u, c.unitAt u)
  (max x.1 e.start + e.lo, e.hi.map (max x.2 e.start + ·))

/-- The cycle in which a pending entry completes: within its figures (R97), else after a free number of cycles (log 16). -/
def Chan.doneAt (ch : Chan) (w : Fin 8) (i : Fin 32) : Nat :=
  let c := ch.core w
  let e := c.loq[i]
  match c.window e with
  | (lo, some h) => lo + ch.pick (6130 + i.val) (h - lo + 1)
  | (lo, none) => max c.cyc lo + ch.choice (6130 + i.val)

/-- The write of a result that completes in cycle t to a register (R98): of a later writer, one that has committed leaves it no effect; one whose
distance has not passed keeps its own result last, and until then a reader may obtain this one. A read issued in cycle t obtains old or
new (R92). -/
def Core.land (c : Core) (e : LoqEnt) (r : RegRef) (t : Nat) : Core :=
  let x := e.value.zeroExtend 129
  match e.dead with
  | none =>
    let old := c.raw r
    let c : Core := c.setRaw r x
    { c with pend := (c.pend.filter fun p => p.reg ≠ r) ++ [⟨r, old, c.raw r, t + 1⟩] }
  | some (commit, due) =>
    if commit ≤ t ∨ due ≤ t then c else
    let before := c.pend.takeWhile fun p => !(p.reg == r && decide (t < p.due))
    match c.pend.drop before.length with
    | [] => c
    | p :: rest => { c with pend := before ++ ⟨r, p.old, x, t + 1⟩ :: { p with old := x } :: rest }

/-- The completion of a pending entry in cycle t (R97, R98, R100): the result is written, the entry and its unit are free; or the fault is
recorded. -/
def Chan.completeAt (m : MantleTable) (ch : Chan) (w : Fin 8) (i : Fin 32) (t : Nat) : Chan :=
  if ((ch.core w).loq[i]).st ≠ .pending then ch else
  let came := ((ch.core w).loq[i]).far.any (·.over)
  let ch := ch.farDo m w i
  let c : Core := ch.core w
  let e := c.loq[i]
  let fl := loqFlags e
  let c : Core := if fl = 0#5 then c else { c with fpctl := fpctlSet c.fpctl fl }
  let c : Core := match e.op.unit with
    | 1 => { c with units := (t, c.units.2) }
    | 2 => { c with units := (c.units.1, t) }
    | _ => c
  let poison : Bool := match e.far with | some f => f.poison && !f.write | none => false
  let hdm : Bool := match e.far with | some f => f.parts.any fun p => hdmBase ≤ p.pa | none => false
  let fault := if hdm && !ch.linkUp && !came then 4 else if poison then 2 else if fpTrap c.fpctl fl ≠ 0#5 then 1 else 0
  let ch := ch.farGone w i
  if fault ≠ 0 then (ch.event m w 0x14).setCore w { c with loq := c.loq.set i { e with st := .faulted, cause := fault } } else
  let c : Core := match e.file with
    | some file =>
      let c := c.land e (if file then .v e.dest else .g e.dest) t
      { c with loq := c.loq.map fun (x : LoqEnt) =>
          if x.st = .pending ∧ x.file = e.file ∧ x.dest = e.dest ∧ x.seq < e.seq then { x with dead := some (0, 0) } else x }
    | none => c
  ch.setCore w { c with loq := c.loq.set i LoqEnt.empty }

/-- What must happen before an access of the far lane that waits for a token (R296, R299): the accesses ahead of it complete, whichever core's
they are, until one of the lane's tokens is its own. -/
def Chan.farTurn (m : MantleTable) (ch : Chan) (w : Fin 8) (i : Fin 32) : Chan :=
  let lane := ch.poolReqs farPool
  let ahead := (lane.takeWhile fun q => q.kind != .far w i).length
  if ahead = lane.length then ch else
  (lane.take (ahead + 1 - ch.tokens farPool)).foldl (fun (ch : Chan) q =>
    match q.kind with
    | .far v j => ch.completeAt m v j (ch.core v).cyc
    | _ => ch) ch

/-- Completion of a pending entry now, or in its last cycle when that has passed (R97). -/
def Chan.complete (m : MantleTable) (ch : Chan) (w : Fin 8) (i : Fin 32) : Chan :=
  let c := ch.core w
  let t := match (c.window c.loq[i]).2 with | some h => min h c.cyc | none => c.cyc
  (ch.farTurn m w i).completeAt m w i t

/-- Issue held until an entry completes (R99, R102). -/
def Chan.awaitOne (m : MantleTable) (ch : Chan) (w : Fin 8) (i : Fin 32) : Chan :=
  let n := ch.doneAt w i - (ch.core w).cyc
  ((if n = 0 then ch else ch.elapse m w n).windowTick w n).complete m w i

/-- The wait of LBAR (R99): every pending entry completes. -/
def Chan.lbarAll (m : MantleTable) (ch : Chan) (w : Fin 8) : Chan := (ch.core w).loqOrder.foldl (fun ch i => ch.awaitOne m w i) ch

/-- Every entry whose last cycle has come has completed by cycle `now` (R97); the accumulator of a CRCB that goes on has not. -/
def Chan.completeDue (m : MantleTable) (ch : Chan) (w : Fin 8) (now : Nat) : Chan :=
  (ch.core w).loqOrder.foldl (fun (ch : Chan) i =>
    let c := ch.core w
    let due : Bool := match (c.window c.loq[i]).2 with | some h => decide (h ≤ now) | none => false
    if due && !((c.loq[i]).op == .crcb && c.elem.isSome) then ch.complete m w i else ch) ch

/-- Time in ns as core clock cycles where the costs are fixed: 1.6 GHz (R34). -/
def nsCycles (ns : Nat) : Nat := ns * 8 / 5

/-- SLOT and RETRY of the trained link (R299). -/
def Chan.linkSlot (ch : Chan) : Nat := (if ch.bit 0x60000 2 then 8 else 4) * 2 ^ ch.fld 0x60000 3 2
def Chan.linkRetry (ch : Chan) : Nat :=
  match ch.fld 0x60000 3 2 + b2n (ch.bit 0x60000 2) with | 0 => 60 | 1 => 110 | 2 => 210 | _ => 410

/-- The bound of R299 on an access of the far lane, in ns: n accesses of the lane are ahead of it. -/
def Chan.farBound (ch : Chan) : Nat :=
  let n := (ch.poolReqs farPool).length
  let F := ch.tokens farPool
  let base := ch.fld 0x60008 0 12 + ch.fld 0x60008 16 12
  if n < F then base + n * ch.linkSlot else (n / max F 1 + 1) * (base + F * ch.linkSlot)

/-- The figures of R97 for a long operation: the least number of cycles from its commit, and the most where one is stated. `most` is the
figure that holds where the costs are fixed. -/
def Chan.figures (ch : Chan) (w : Fin 8) (most : Nat) (far : Option FarAcc) : Nat × Option Nat :=
  match far with
  | some f =>
    if f.parts.any fun p => p.attr == .farLane then (0, some (nsCycles ch.farBound))
    else if f.parts.any fun p => hdmBase ≤ p.pa then (0, none)
    else if ch.fixedCore w then (10, some 10) else (8, some 40)
  | none => (if ch.fixedCore w then most else if most = 38 then 10 else if most = 22 then 8 else most, some most)

/-- The pending entry that completes first, among those that no older operation of their unit holds back. -/
def Chan.firstDone (ch : Chan) (w : Fin 8) : Option (Fin 32) :=
  let c := ch.core w
  let free := c.loqOrder.filter fun i => (c.loq[i]).op.unit == 0 ||
    !(c.loqOrder.any fun j => (c.loq[j]).op.unit == (c.loq[i]).op.unit && decide ((c.loq[j]).seq < (c.loq[i]).seq))
  free.foldl (fun (x : Option (Fin 32)) i => match x with
    | some j => if ch.doneAt w i < ch.doneAt w j then some i else x
    | none => some i) none

/-- A free entry of the queue. With all entries in use the pipeline freezes, with the instruction in IS, until one frees; when every entry has
faulted none frees, and the instruction waits in IS for the delivery (R95, R101). -/
def Chan.loqRoom (m : MantleTable) (ch : Chan) (w : Fin 8) : Chan × Bool :=
  let ch := (List.range 32).foldl (fun (ch : Chan) _ =>
    if (ch.core w).loqFree.isSome then ch else
    match ch.firstDone w with
    | some i => (ch.frozeNow m w 0x10 (ch.doneAt w i - (ch.core w).cyc)).complete m w i
    | none => ch) ch
  (ch, (ch.core w).loqFree.isSome)

/-- A long operation entered into a free entry of the queue (R96): it starts when it commits at W, six cycles after it issues, and its
unit takes operations in issue order (R97). An access by the far lane takes a token, or waits for one in start order (R296, R299). -/
def Chan.loqPut (m : MantleTable) (ch : Chan) (w : Fin 8) (op : LoqOp) (file : Option Bool) (dest : Fin 32) (value : W128)
    (flags : FFlags) (far : Option FarAcc) (most : Nat) : Chan :=
  let ch := ch.event m w 0x12
  let ch := if far.isSome then ch.event m w 0x13 else ch
  match (ch.core w).loqFree with
  | none => ch
  | some i =>
    let c := ch.core w
    let f := ch.figures w most far
    let e : LoqEnt := ⟨.pending, op, file, dest, 16 * flags.toNat, c.pc, c.seq, value, none, far, 0, c.cyc + 6, f.1, f.2⟩
    let lane := match far with | some (x : FarAcc) => x.parts.find? fun (p : Part) => p.attr == Attr.farLane | none => none
    let ch := ch.setCore w { c with loq := c.loq.set i e, seq := c.seq + 1 }
    match lane with | some p => ch.putReq ⟨p.pa / 64, farPool, .far w i, none, false⟩ | none => ch

/-! LL, SC and AMO (R256 to R260). -/

/-- An AMO on checked memory: the old value, whether the line was poisoned (R259, R260). An ATCAS that fails counts as a load: it waits for no
hold and takes no reservation (R257, R258). -/
def Chan.amoDo (m : MantleTable) (ch : Chan) (w : Fin 8) (p : Part) (op : AmoOp) (src cmp : W64) : Chan × W64 × Bool :=
  let line := p.pa / 64
  let ch := ((ch.awaitFrozen w).drainTo m w fun e => e.part.pa / 64 = line).settleFar m p.pa p.n
  let spend := fun (ch : Chan) => ch.onCore w fun c => { c with resv := none }
  if p.attr = .calm then
    let old := BitVec.ofNat 64 (leNat (readBytes ch.calm p.pa p.n))
    if setHas ch.calmPois line then (ch, old, true) else
    match amoNew op (p.n == 8) old src cmp with
    | none => (ch, old, false)
    | some v => ((spend (ch.waitHold m w line)).calmWrite (some w) p.pa (leBytes v.toNat p.n) false false, old, false)
  else
    let ch := if ch.reqWrites (.amo op (p.n == 8) p.pa src cmp) then ch.waitHold m w line else ch
    match ch.homeAccess ⟨.amo op (p.n == 8) p.pa src cmp, w, line, ch.ownerOf m w, false, .none⟩ with
    | (ch, some r) =>
      let old : W64 := r.value.truncate 64
      if r.poison then (ch, old, true)
      else (if (amoNew op (p.n == 8) old src cmp).isSome then spend ch else ch, old, false)
    | (ch, none) => (ch, 0#64, true)

/-- An SC on checked memory: whether it succeeded, and whether its home transaction timed out (R256, R257, R259, R280). Check and store are one
step: the reservation is judged where the store is made. One that has lost it asks for nothing. -/
def Chan.scDo (m : MantleTable) (ch : Chan) (w : Fin 8) (p : Part) (data : W64) : Chan × Bool × Bool :=
  let line := p.pa / 64
  let ch := (ch.awaitFrozen w).drainTo m w fun e => e.part.pa / 64 = line
  let held := fun (ch : Chan) => (ch.core w).resv == some line
  let done := fun (ch : Chan) => ch.onCore w fun c => { c with resv := none, hold := none }
  if !held ch then (done ch, false, false) else
  let ch := (ch.waitHold m w line).settleFar m p.pa p.n
  let bytes := leBytes data.toNat p.n
  if p.attr = .calm then
    if held ch then ((done ch).calmWrite (some w) p.pa bytes false false, true, false) else (done ch, false, false)
  else
  let was := ((ch.core w).l2Find line).any (·.poison)
  match ch.l2Own w (ch.ownerOf m w) line with
  | (ch, some x) =>
    if x.poison && !was then (done ch, false, true) else
    if !held ch then (done ch, false, false) else
    let (d, t) := patchLine x.data x.tags (p.pa % 64) bytes false
    (((done ch).loseResv none line).onCore w fun c => c.l2Set { x with st := .m, data := d, tags := t }, true, false)
  | (ch, none) => (done ch, false, true)

end Sys2Proof.Machine
end

