-- ==== Sys2Proof/Machine/Exc.lean ====
section
/-! DEFINITION. Taking an exception or an interrupt, escalation, snuff, the window, return, and the debug halt (R101 to R103, R204
to R218, R423). -/

namespace Sys2Proof.Machine

/-- An event to deliver: vector, REASON, ADDR, saved PC, instruction word, priority of a Flare source, and for vector 6 the queue
entry with its cause and PC. -/
structure Ev where
  vec    : Nat
  reason : Nat
  addr   : W64
  pc     : W64
  word   : W32
  prio   : Nat
  loq    : Nat
  lopc   : W64
  deriving DecidableEq, Repr

/-- The PC of the instruction an event belongs to: what a SYSCALL saves is the next one (R207). -/
def Ev.at' (e : Ev) : W64 := if e.vec = 10 then e.pc - 4#64 else e.pc

/-- A descriptor as read (R204). -/
structure Desc where
  entry : Taper
  data  : Taper
  stack : Taper
  ctl   : W128
  deriving DecidableEq, Repr

/-- Field [lo + w − 1 : lo] of a 128-bit image. -/
def getW (x : W128) (lo w : Nat) : Nat := x.toNat / 2 ^ lo % 2 ^ w

def Desc.level (d : Desc) : Nat := getW d.ctl 1 3
def Desc.ctxsw (d : Desc) : Bool := d.ctl.getLsbD 4
def Desc.niw (d : Desc) : Nat := getW d.ctl 8 16

/-- R205. -/
def Desc.valid (d : Desc) : Bool :=
  d.ctl.getLsbD 0 && getW d.ctl 5 3 == 0 && getW d.ctl 36 12 == 0 && getW d.ctl 84 44 == 0
    && d.entry.tag && d.data.tag && d.stack.tag && d.entry.latch == 0 && d.data.latch == 0 && d.stack.latch == 0
    && d.entry.mantle == d.stack.mantle && d.data.mantle == d.stack.mantle && d.entry.has 2
    && d.stack.has 0 && d.stack.has 1 && d.stack.has 3 && d.stack.has 4 && d.stack.base % 16 == 0 && decide (128 ≤ d.stack.len)

/-! Snuff (R209, R210). -/

/-- The committed stores of every core drain. -/
def Chan.drainEvery (m : MantleTable) (ch : Chan) : Chan := (List.finRange 8).foldl (fun (ch : Chan) v => (ch.drainAll m v).postAll v) ch

/-- A pending long operation abandoned: an STF is performed whole or not at all (R261). -/
def Chan.abandon (m : MantleTable) (ch : Chan) (v : Fin 8) : Chan :=
  (ch.core v).loqOrder.foldl (fun (ch : Chan) i =>
    let e := (ch.core v).loq[i]
    let ch := if e.op = .stf ∧ (1 ≤ (e.far.map (·.done)).getD 0 ∨ ch.pick (700 + 32 * v.val + i.val) 2 = 1) then ch.farDo m v i else ch
    (ch.farGone v i).loqSet v i LoqEnt.empty) ch

/-- The channel is snuffed by core w: its record, and every core stopped. -/
def Chan.snuffBy (m : MantleTable) (ch : Chan) (w : Fin 8) (cause : Nat) (pc : W64) : Chan :=
  let i := ch.idx 0x3040
  let n := sticky 0xFFFF (ch.objN i 2 0) 1
  let ch := ((((ch.setObj i 2 2 n).setObj i 3 1 w.val).setObj i 4 4 cause).setObj i 5 8 pc.toNat)
  let ch := (List.finRange 8).foldl (fun (ch : Chan) v =>
    ((ch.abandon m v).onCore v fun c => { c with resv := none, hold := none, haltReq := 0#8, stepping := false }).putF (dbgStat v) 0 2 3) ch
  { ch.drainEvery m with snuff := some ⟨w, false⟩ }

/-- A parity error of the micro or nano store on core w (R192): the channel is snuffed before the word has any effect; bit 24 of the last
cause says so (R210). -/
def Chan.parityStop (m : MantleTable) (ch : Chan) (w : Fin 8) : Chan := ch.snuffBy m w (2 ^ 24) (ch.core w).pc

/-- Whether a vendor routine that core w runs reads a word of the patch RAM whose parity is wrong: which words it reads is the vendor's
(log 32). -/
def Chan.patchFails (ch : Chan) (w : Fin 8) : Bool :=
  ch.ucode.patch && ch.badWords.any (fun x => x.w == w && decide (x.addr < if x.nano then 0x380 else 0x1C00)) && ch.pick (770 + w.val) 2 == 1

/-- An event that ends in the snuff: its cause, and the PC of the instruction that snuffed (R210). -/
def Chan.snuffEv (m : MantleTable) (ch : Chan) (w : Fin 8) (e : Ev) (why : Nat) : Chan :=
  ch.snuffBy m w (e.vec + 256 * (e.reason % 256) + 65536 * why) e.at'

/-! Entry (R204, R208, R211 to R216). -/

/-- One 16-byte field of a descriptor: the value in memory, or with some of the core's buffered writes of it (R204). -/
def Chan.descField (ch : Chan) (w : Fin 8) (pa : Nat) : W128 × Bool :=
  let es := (ch.core w).sb.filter fun e => e.part.attr = .calm && laps e.part.pa e.part.n pa 16
  let es := es.take (ch.pick (710 + pa / 16 % 4) (es.length + 1))
  let mem := es.foldl (fun mem e => writeBytes mem e.part.pa (leBytes e.data.toNat e.part.n)) ch.calm
  let tag := es.foldl (fun _ e => e.tag && e.part.n == 16) (setHas ch.calmTag (pa / 16))
  (BitVec.ofNat 128 (leNat (readBytes mem pa 16)), tag)

/-- Descriptor v, when it can be read and is valid (R204, R205): only the part of the Calm store that the core may reach holds a
table (log 15). -/
def Chan.descriptor (m : MantleTable) (ch : Chan) (w : Fin 8) (v : Nat) : Chan × Option Desc :=
  let pa := (ch.core w).xdtBase.toNat + 64 * v
  let ok := decide (pa + 64 ≤ saveBase) && !(ch.mode == 5 && decide (w.val < 4) && decide (ch.split < pa + 64)) && !setHas ch.calmPois (pa / 64)
  if !ok then (ch, none) else
  let ch := ch.settleFar m pa 64
  let t := fun (i : Nat) => let f := ch.descField w (pa + 16 * i); (⟨f.1, f.2⟩ : Taper)
  let d : Desc := ⟨t 0, t 1, t 2, (ch.descField w (pa + 48)).1⟩
  (ch, if d.valid then some d else none)

/-- The eight parts of a frame at a base, checked in the context in force; none when a store would fail or meet poison (R212). -/
def Chan.frameParts (m : MantleTable) (ch : Chan) (w : Fin 8) (base : Nat) : Chan × Option (List Part) :=
  match ch.checkParts m w accTst false ((List.range 8).map fun i => (BitVec.ofNat 64 (base + 16 * i), 16)) with
  | (ch, .error _) => (ch, none)
  | (ch, .ok ps) =>
    let (ch, bad) := ps.foldl (fun (x : Chan × Bool) (p : Part) =>
      match p.attr with
      | .calm => (x.1, x.2 || setHas x.1.calmPois (p.pa / 64))
      | .cacheable =>
        let (ch, l) := x.1.l2Read w (x.1.ownerOf m w) (p.pa / 64)
        (ch, x.2 || (match l with | some y => y.poison | none => true))
      | .unc01 =>
        let bad := (x.1.l3Find (p.pa / 64)).any (·.poison) || x.1.cores.toList.any (fun (c : Core) => (c.l2Find (p.pa / 64)).any (·.poison))
          || ((x.1.l3Find (p.pa / 64)).isNone && x.1.cxlPoisoned (p.pa / 64))
        (x.1, x.2 || bad)
      | .unc10 | .unc11 => (x.1, x.2 || x.1.cxlPoisoned (p.pa / 64))
      | _ => x) (ch, false)
    (ch, if bad then none else some ps)

/-- STATUS (R214). -/
def statusOf (c : Core) (vec : Nat) (cs : Bool) : W128 :=
  BitVec.ofNat 128 (c.mask.toNat + 8 * vec + 2 ^ 11 * b2n cs + 2 ^ 12 * b2n c.wact + 2 ^ 13 * b2n c.wovr
    + 2 ^ 14 * (if c.wact then c.wrem % 65536 else 0) + 2 ^ 32 * (c.asid.toNat % 4096) + 2 ^ 48 * (c.ttbase.toNat / 4096 % 2 ^ 36)
    + 2 ^ 120 * 0xFF)

/-- The frame's granules (R213): the interrupted context, and what the event says. -/
def frameOf (c : Core) (e : Ev) (vec why : Nat) (cs : Bool) : List (W128 × Bool) :=
  let insn : W64 := if (1 ≤ e.vec ∧ e.vec ≤ 5) ∨ e.vec = 9 then zx e.word else 0#64
  let cause : W64 := BitVec.ofNat 64 (e.reason % 256 + 256 * e.vec + 65536 * why)
  [(statusOf c vec cs, true), (c.pcc.bits, c.pcc.tag), ((c.c[0]).bits, (c.c[0]).tag), ((c.c[15]).bits, (c.c[15]).tag),
   (insn ++ e.pc, false), (c.g[31] ++ c.g[30], false), (e.addr ++ cause, false),
   (if e.vec = 6 then (e.lopc ++ BitVec.ofNat 64 e.loq, false) else (0#128, false))]

/-- A change of Mantle: history and return stack are cleared (R108), the L1 TLBs when the class changes too (R236). -/
def Chan.mantleSwitch (m : MantleTable) (ch : Chan) (w : Fin 8) (old new : BitVec 12) : Chan :=
  if !ch.parted || old == new then ch else
  ch.onCore w fun c =>
    let c := { c with pred := { c.pred with hist := 0#14, ras := [] } }
    if clsOf m old = clsOf m new then c else { c with itlb := [], dtlb := [] }

/-- Steps 3 to 5 of R211 for a vector, and whether they succeed: when the frame cannot be stored, what the attempt filled stays (R235). The
instructions already issued commit first, and a window runs until then; what STATUS saves of it, the entry no longer counts (R109, R216). -/
def Chan.enterVec (m : MantleTable) (ch : Chan) (w : Fin 8) (e : Ev) (d : Desc) (vec why : Nat) : Chan × Bool :=
  let ch := ch.drain94 m w (if vec = 6 ∨ 32 ≤ vec then 6 else 7)
  let old := ch.core w
  let still : Core := { old with wact := false, wrem := 0 }
  let pre : Core := if d.ctxsw then
      { still with ttbase := BitVec.ofNat 64 (getW d.ctl 48 36 * 4096), asid := BitVec.ofNat 64 (getW d.ctl 24 12) } else still
  match (ch.setCore w pre).frameParts m w d.stack.base with
  | (ch, none) => ((ch.meltAll m w).onCore w fun c =>
      { c with ttbase := old.ttbase, asid := old.asid, wact := old.wact, wrem := old.wrem }, false)
  | (ch, some ps) =>
    let es := (ps.zip (frameOf old e vec why d.ctxsw)).map fun x => (⟨x.1, x.2.1, x.2.2, false, false, d.stack.mantle, 0, 0⟩ : SbEnt)
    let ch := (ch.enter m w es).meltAll m w
    let mask := if vec = 11 then 7 else if 32 ≤ vec then max d.level e.prio else d.level
    let pc := align4 (BitVec.ofNat 64 d.entry.base)
    let ch := (ch.elapse m w 40).event m w 0x16
    let ch := ch.onCore w fun c =>
      let c := (((c.setRaw (.c 0) d.data.raw).setRaw (.c 15) d.stack.raw).setRaw (.g 30) (BitVec.ofNat 129 vec)).setRaw (.g 31)
        (BitVec.ofNat 129 d.stack.base)
      { c with
        pcc := d.entry, pc := pc, mask := BitVec.ofNat 3 mask, fetched := [], wact := d.niw != 0, wnew := true, wrem := d.niw, wovr := false, resv := none,
        hold := none, elem := none, skip := false, woken := false, flight := [], shadow := 0,
        xact := if vec < 32 then c.xact ||| BitVec.ofNat 32 (2 ^ vec) else c.xact }
    let ch := if vec < 32 then ch else
      { ch.putF (flrCfg vec) 12 3 w.val with
        activ := ch.activ ||| BitVec.ofNat 256 (2 ^ vec), pulse := ch.pulse &&& ~~~(BitVec.ofNat 256 (2 ^ vec)) }
    let ch := (ch.mantleSwitch m w old.pcc.mantle d.entry.mantle).setReg (0x4100C + w.val * 0x40) (BitVec.ofNat 32 vec)
    (ch.traceExc w vec e.pc pc (ch.traced m w d.entry.mantle), true)

/-- Delivery as Escalation (R208), or the snuff (R209). -/
def Chan.escalate (m : MantleTable) (ch : Chan) (w : Fin 8) (e : Ev) (why : Nat) : Chan :=
  if (ch.core w).xact.getLsbD 11 then ch.snuffEv m w e why else
  match ch.descriptor m w 11 with
  | (ch, none) => ch.snuffEv m w e why
  | (ch, some d) => match ch.enterVec m w e d 11 why with | (ch, true) => ch | (ch, false) => ch.snuffEv m w e why

/-- Steps 2 to 5 of R211 for an event whose instruction stream has committed and whose long operations have completed. -/
def Chan.enterEv (m : MantleTable) (ch : Chan) (w : Fin 8) (e : Ev) : Chan :=
  let ch := ch.onCore w fun c => { c with pend := [], slotA := none, wait := .none }
  let c := ch.core w
  let sync := decide (e.vec < 32)
  if ch.patchFails w then ch.snuffBy m w (2 ^ 24) e.at'
  else if sync && c.mask == 7#3 then ch.snuffEv m w e 0 else
  match ch.descriptor m w e.vec with
  | (ch, none) => ch.escalate m w e 2
  | (ch, some d) =>
    if sync && decide (d.level ≤ c.mask.toNat) then ch.escalate m w e 0
    else if sync && c.xact.getLsbD e.vec then ch.escalate m w e 1
    else match ch.enterVec m w e d e.vec 0 with
      | (ch, true) => ch
      | (ch, false) => ch.escalate m w e 3

/-- Delivery of a recorded fault as Long-Operation Fault (R101, R103): its entry is freed; the others wait for the handler's RETX. -/
def Chan.deliverLof (m : MantleTable) (ch : Chan) (w : Fin 8) : Chan :=
  let c := ch.core w
  match c.dueFault with
  | none => ch
  | some i =>
    let x := c.loq[i]
    let ch := (ch.loqSet w i LoqEnt.empty).enterEv m w ⟨6, 0, 0#64, c.pc, 0#32, 0, i.val + 256 * (x.cause % 16), x.pc⟩
    let v := ch.fld (0x4100C + w.val * 0x40) 0 8
    ch.onCore w fun c => { c with loq := c.loq.map fun (x : LoqEnt) => if x.st = .faulted ∧ x.held = 0 then { x with held := v } else x }

/-- The wait of R102: every pending operation completes; whether a faulted entry takes the event's place. -/
def Chan.settle (m : MantleTable) (ch : Chan) (w : Fin 8) : Chan × Bool :=
  let ch := ((ch.meltAll m w).onCore w fun c => { c with wait := .none }).lbarAll m w
  (ch, (ch.core w).dueFault.isSome)

/-- An event delivered (R102, R211); true when Long-Operation Fault took its place. -/
def Chan.raise (m : MantleTable) (ch : Chan) (w : Fin 8) (e : Ev) : Chan × Bool :=
  match ch.settle m w with
  | (ch, true) => (ch.deliverLof m w, true)
  | (ch, false) => (ch.enterEv m w e, false)

/-- An interrupt entered by a core (R207, R221). -/
def Chan.interrupt (m : MantleTable) (ch : Chan) (w : Fin 8) (v : Nat) : Chan × Bool :=
  ch.raise m w ⟨v, 0, 0#64, (ch.core w).pc, 0#32, ch.fld (flrCfg v) 0 3, 0, 0#64⟩

/-! The debug halt (R423). -/

/-- A halt takes effect: the wait of LBAR; with a faulted entry, Long-Operation Fault is entered first. -/
def Chan.takeHalt (m : MantleTable) (ch : Chan) (w : Fin 8) (cause : Nat) : Chan :=
  match ch.settle m w with
  | (ch, true) =>
    let ch := ch.deliverLof m w
    if ch.snuff.isSome then ch else ch.nowHalted w 6
  | (ch, false) => ch.nowHalted w cause

/-- Whether a core stands at an issue boundary where an event may be delivered (R101, R109, R221): not between a slot A and what issues in
the next slot, since a pair is never split. -/
def Chan.atBoundary (ch : Chan) (w : Fin 8) : Bool :=
  (ch.core w).slotA.isNone && ch.life == .up && runMode ch.mode && ch.snuff.isNone && (ch.trans.isNone || (ch.core w).wact) && !ch.halted w

/-- Whether a core can take an interrupt: no window runs, and no transition is in progress (R47, R216). -/
def Chan.takes (ch : Chan) (w : Fin 8) : Bool := ch.atBoundary w && ch.trans.isNone && !((ch.core w).wact && (ch.core w).wrem != 0)

/-- Whether a lower-numbered core that is offered the same source can take it: it alone receives it (R221). -/
def Chan.lowerTakes (ch : Chan) (w : Fin 8) (v : Nat) : Bool :=
  (List.finRange 8).any fun u => decide (u.val < w.val) && ch.takes u && ch.offered u == some v

/-- The source that a core is offered and no lower-numbered core receives (R221). -/
def Chan.receives (ch : Chan) (w : Fin 8) : Option Nat := (ch.offered w).filter fun v => !ch.lowerTakes w v

/-! Return (R216 to R218). -/

/-- The frame of RETX installed (R218). -/
def Core.restore (c : Core) (gs : List (W128 × Bool)) : Core :=
  let g := fun i => nth (0#128, false) gs i
  let tp := fun i => (⟨(g i).1, (g i).2⟩ : Taper)
  let st := (g 0).1
  let cs := st.getLsbD 11
  let v := getW st 3 8
  let c := (((c.setRaw (.c 0) (tp 2).raw).setRaw (.c 15) (tp 3).raw).setRaw (.g 30) (((g 5).1).truncate 64 |>.zeroExtend 129)).setRaw (.g 31)
    (((g 5).1 >>> 64).truncate 64 |>.zeroExtend 129)
  { c with
    pcc := tp 1, fetched := [], pc := align4 (((g 4).1).truncate 64), mask := st.truncate 3,
    wact := st.getLsbD 12, wnew := false, wrem := if st.getLsbD 12 then getW st 14 16 else 0, wovr := st.getLsbD 13,
    ttbase := if cs then BitVec.ofNat 64 (getW st 48 36 * 4096) else c.ttbase,
    asid := if cs then BitVec.ofNat 64 (getW st 32 12) else c.asid,
    xact := if v < 32 then c.xact &&& ~~~(BitVec.ofNat 32 (2 ^ v)) else c.xact,
    loq := c.loq.map fun (x : LoqEnt) => if x.held = v then { x with held := 0 } else x }

/-- The TLDs of a frame's granules, each as TLD makes it (R218). -/
def Chan.tldAll (m : MantleTable) (ch : Chan) (w : Fin 8) (base : Nat) : List Nat → Chan × Except Exc (List (W128 × Bool))
  | [] => (ch, .ok [])
  | i :: rest =>
    let va := BitVec.ofNat 64 (base + 16 * i)
    match ch.checkPart m w accTld va 16 false with
    | (ch, .error e) => (ch, .error e)
    | (ch, .ok p) =>
      let (ch, b, q, tag) := ch.loadPart m w p false
      if q then (ch, .error ⟨5, daPoison, va⟩) else
      match Chan.tldAll m ch w base rest with
      | (ch, .error e) => (ch, .error e)
      | (ch, .ok gs) => (ch, .ok ((BitVec.ofNat 128 (leNat b), tag) :: gs))

/-- What RETX finds: the frame's granules, or the exception it raises. -/
def Chan.readFrame (m : MantleTable) (ch : Chan) (w : Fin 8) : Chan × Except Exc (List (W128 × Bool)) :=
  let c := ch.core w
  let t := c.c[15]
  match taperCheck m c.pcc.mantle t (BitVec.ofNat 64 t.base) 128 [0, 3] with
  | some r => (ch, .error ⟨4, r, BitVec.ofNat 64 t.base⟩)
  | none => ch.tldAll m w t.base (List.range 8)

end Sys2Proof.Machine
end

