-- ==== Sys2Proof/Machine/Pred.lean ====
section
/-! DEFINITION. The branch predictor and the cost of a control transfer (R105 to R108). Prediction changes only timing and the
counters; conditional branches alone are taken as the predicted branches that enter the history (log 18). -/

namespace Sys2Proof.Machine

/-- How control left an instruction (R105, R106). -/
inductive Flow
  | seq
  | cond (taken : Bool)
  | jl
  | jlr (pop : Bool)
  | ind
  deriving DecidableEq, Repr

/-- No prediction: CALM, cores 0–3 in HAZE, or NOPRED (R108, R117). -/
def Chan.noPred (ch : Chan) (w : Fin 8) : Bool := ch.fixedCore w || ch.bit (pcr w 0x14) 1

/-- The key K of R108, 0 where the predictor is not keyed. -/
def Chan.predKey (ch : Chan) (mt : BitVec 12) : Nat := if ch.parted then (Config.predictorKey ch.secret mt).toNat else 0

/-- Index and tag of a branch in the direction table. -/
def Chan.dirIndex (ch : Chan) (p : Pred) (pc : W64) (mt : BitVec 12) : Nat × Nat :=
  let k := ch.predKey mt
  ((BitVec.ofNat 14 (pc.toNat / 4) ^^^ p.hist ^^^ BitVec.ofNat 14 k).toNat, k / 2 ^ 14)

/-- The predicted direction: an entry of another tag predicts not taken (R108). -/
def predTaken (p : Pred) (i : Nat × Nat) : Bool :=
  match p.dir.find? fun e => e.1 == i.1 with
  | some e => e.2.2 == i.2 && decide (2 ≤ e.2.1)
  | none => false

/-- The counter updated; an entry of another tag is claimed with a weakly biased counter (R108). A cleared table gives every entry the
counter 1, weakly not taken: DESIGN CHOICE (log 54). -/
def predUpdate (p : Pred) (i : Nat × Nat) (taken : Bool) : Pred :=
  let old := match p.dir.find? fun e => e.1 == i.1 with
    | some e => if e.2.2 == i.2 then some e.2.1 else none
    | none => if i.2 = 0 then some 1 else none
  let v := match old with
    | some c => if taken then min 3 (c + 1) else c - 1
    | none => if taken then 2 else 1
  { p with dir := (i.1, (v, i.2)) :: p.dir.filter fun e => e.1 != i.1 }

/-- The target buffer's entry for a jump. -/
def Chan.btbFind (ch : Chan) (p : Pred) (pc : W64) (mt : BitVec 12) : Option W64 :=
  (p.btb.find? fun e => e.pc == pc && (!ch.parted || e.mantle == mt)).map fun e => e.target

/-- A target noted: 4 entries in each set, the oldest-noted of a full one gives way, and PC[9:2] selects the set: DESIGN CHOICE (log 54).
Where the buffer is tagged by PC alone (`own` false) there is one entry for a PC (R108). -/
def predTarget (own : Bool) (p : Pred) (pc : W64) (mt : BitVec 12) (t : W64) : Pred :=
  let set := fun (e : BtbEnt) => e.pc.toNat / 4 % 256 == pc.toNat / 4 % 256
  let rest := p.btb.filter fun e => !(e.pc == pc && (!own || e.mantle == mt))
  { p with btb := ⟨pc, mt, t⟩ :: (rest.filter fun e => !set e) ++ (rest.filter set).take 3 }

/-- An update written (R106, R108). -/
def Pred.write (p : Pred) (u : PredUpd) : Pred :=
  let p := match u.dir with | some (i, taken) => predUpdate p i taken | none => p
  match u.note with | some e => predTarget u.own p e.pc e.mantle e.target | none => p

/-- The predictor as the front end finds it in a cycle: the updates of every branch that has resolved by then are written (R106). -/
def Pred.at' (p : Pred) (now : Nat) : Pred :=
  let due := p.late.takeWhile fun u => decide (u.at' ≤ now)
  due.foldl Pred.write { p with late := p.late.drop due.length }

/-- The checkpoint of a predicted branch (R107). -/
def Pred.checkpoint (p : Pred) : Checkpoint := { hist := p.hist, deep := p.ras.length, top := p.ras.head? }

/-- The predictor after a branch has resolved (R107): its history is that of its checkpoint with the resolved direction shifted in, and the
return stack has the pointer and the top entry of its checkpoint again. -/
def Pred.repair (p : Pred) (k : Checkpoint) (taken : Bool) : Pred :=
  let below := p.ras.drop (p.ras.length - (k.deep - 1))
  { p with
    hist := (k.hist <<< 1) ||| BitVec.ofNat 14 (b2n taken)
    ras := match k.top with | some t => t :: below | none => [] }

/-- A control transfer by the instruction at `pc` to `target`: cycles to the next issue (R105, R115), whether it was mispredicted,
whether a taken branch missed the target buffer, and the predictor afterwards. `link` pushes `pc` + 4. The predictor is read in F1, five
cycles before IS; counter and target are written in E2 in GALE, two cycles after IS, elsewhere in W, six after (R89, R106, R108). -/
def Chan.transfer (ch : Chan) (w : Fin 8) (pc : W64) (mt : BitVec 12) (target : W64) (link : Bool) (f : Flow) : Nat × Bool × Bool × Pred :=
  let c := ch.core w
  let p := c.pred.at' (c.cyc - 5)
  let t' := c.cyc + (if ch.mode = 1 then 2 else 6)
  let late := fun (p : Pred) (dir : Option ((Nat × Nat) × Bool)) (note : Bool) =>
    { p with late := p.late ++ [⟨t', dir, if note then some ⟨pc, mt, target⟩ else none, ch.parted⟩] }
  let hit := ch.btbFind p pc mt
  let push := fun (p : Pred) => if link then { p with ras := ((pc + 4#64) :: p.ras).take 16 } else p
  if ch.fixedCore w then
    (match f with | .cond t => if t then 8 else 3 | .jl => 4 | .jlr _ => 6 | .ind => 8 | .seq => 1, false, false, p)
  else if ch.noPred w then
    (match f with | .cond t => if t then 8 else 1 | .jl => 4 | .jlr _ => 8 | .ind => 8 | .seq => 1,
     (match f with | .cond t => t | .jlr _ => true | .ind => true | _ => false), false, p)
  else match f with
    | .seq => (1, false, false, p)
    | .cond t =>
      let i := ch.dirIndex p pc mt
      let pt := predTaken p i
      let q := late (p.repair p.checkpoint t) (some (i, t)) t
      if pt != t then (8, true, t && hit.isNone, q)
      else if !t then (1, false, false, q)
      else (if hit = some target then 2 else 4, false, hit.isNone, q)
    | .jl => (if hit = some target then 2 else 4, false, hit.isNone, push (late p none true))
    | .jlr pop =>
      let guess := if pop then (match p.ras with | t :: _ => some t | [] => hit) else hit
      let q := if pop then { p with ras := p.ras.tail } else p
      (if guess = some target then 2 else 8, guess != some target, hit.isNone, push (late q none true))
    | .ind => (8, hit != some target, hit.isNone, push p)

end Sys2Proof.Machine
end

