-- ==== Sys2Proof/Machine/Insn.lean ====
section
/-! DEFINITION. What surrounds every Wick instruction: whether its core may issue, the fetch and its faults, the patch units, the
commit with its timing, counters and trace, the exception it raises (R59 to R62, R88 to R95, R101, R104, R105, R109, R115, R229,
R258, R422 to R426). A command spells the instruction word its core receives (log 11). -/

namespace Sys2Proof.Machine

/-- What the instruction itself does, from the state in which it issues. -/
inductive Res
  /-- It completes and the next instruction follows; its cost in issue cycles. -/
  | next (ch : Chan) (cost : Nat)
  /-- A control transfer to a target; whether it pushes a link. -/
  | go (ch : Chan) (target : W64) (link : Bool) (f : Flow)
  /-- A precise exception with its saved PC. -/
  | trap (ch : Chan) (e : Exc) (saved : W64)
  /-- A debug halt before it executes: the request is recorded. -/
  | halt (ch : Chan)
  /-- It holds issue, or has itself brought the core to its next state. -/
  | ctl (ch : Chan)

/-- A core that is offered the source of its own counters at an issue boundary, with no window (R221, R438). -/
def Chan.skids (ch : Chan) (w : Fin 8) : Bool := !(ch.core w).wact && (ch.core w).slotA.isNone && ch.receives w == some (130 + w.val)

/-- Instructions that may commit after the one whose event brought a counter to overflow (R438). -/
def Chan.skidMax (ch : Chan) (w : Fin 8) : Nat := if ch.fixedCore w then 0 else 24

/-- Whether core w may issue an instruction (R34, R44, R45, R83, R99, R209, R216, R422, R424, R450): after a wake a source offered to it is
taken first (R39), and at its greatest skid that of its counters (R438). A request of a patch unit, a data watch or BRK that waits for a
window holds issue (log 19). -/
def Chan.canIssue (ch : Chan) (w : Fin 8) : Bool :=
  let c := ch.core w
  ch.life == .up && runMode ch.mode && ch.snuff.isNone && (ch.trans.isNone || c.wact) && c.wait == .none
    && !(c.woken && (ch.receives w).isSome) && !(ch.skids w && decide (ch.skidMax w ≤ c.skid) && !c.stepping)
    && (!ch.halted w || c.stepping) && (c.haltReq &&& 0x1C#8 == 0#8) && !(ch.stall && c.trcOn && !ch.fixedCore w)

/-- The slot left free beside a slot A whose slot B did not come (R436). -/
def Chan.dropSlotA (m : MantleTable) (ch : Chan) (w : Fin 8) : Chan :=
  if (ch.core w).slotA.isSome then (ch.onCore w fun c => { c with slotA := none }).pmuSlots m w 0 0 0 1 else ch

/-- A slot A whose slot B issues in a later cycle: the pair splits (R61). -/
def Chan.splitPair (m : MantleTable) (ch : Chan) (w : Fin 8) : Chan :=
  if (ch.core w).slotA.isSome then (ch.dropSlotA m w).event m w 4 else ch

/-- A halt recorded before an instruction: it takes effect unless a window runs (R423). -/
def Chan.stopHere (m : MantleTable) (ch : Chan) (w : Fin 8) : Chan :=
  let c := ch.core w
  if c.wact then ch else ch.takeHalt m w (firstCause c.haltReq)

/-- Whether a word is fetched past the L1I: in CALM, on cores 0–3 in HAZE, and from the fixed part of the Calm store in HAZE (R264). -/
def Chan.l1iOff (ch : Chan) (w : Fin 8) (pa : Nat) : Bool := ch.fixedCore w || (ch.mode == 5 && inCalm pa && decide (pa < ch.split))

/-- The line of a fetched word in the L1I (R264, R281): the channel, and whether the fetch met poison. A refill that overlaps stores in the
buffer waits until they drain (R112). -/
def Chan.fillLine (m : MantleTable) (ch : Chan) (w : Fin 8) (pa : Nat) : Chan × Bool :=
  let line := pa / 64
  let off := ch.l1iOff w pa
  if !off && setHas (ch.core w).l1i line then (ch, false) else
  let ch := if off then ch else ch.drainTo m w fun e => e.part.n != 0 && e.part.pa / 64 == line
  let (ch, bad) : Chan × Bool :=
    if inCalm pa then (ch, setHas ch.calmPois line)
    else match ch.l2Read w (ch.ownerOf m w) line with
      | (ch, some x) => (ch, x.poison)
      | (ch, none) => (ch, true)
  if off || bad then (ch, bad) else
  let set := (ch.core w).l1i.filter fun l => l % 128 == line % 128
  let ch := ch.onCore w fun c =>
    let l := if set.length < 4 then c.l1i else match set[ch.pick 204 set.length]? with | some v => setDel c.l1i v | none => c.l1i
    { c with l1i := setAdd l line }
  (ch, false)

/-- The fetch of a word: a miss passes a free number of bubbles (R90; log 16). -/
def Chan.fetchLine (m : MantleTable) (ch : Chan) (w : Fin 8) (pa : Nat) : Chan × Bool :=
  if ch.l1iOff w pa || setHas (ch.core w).l1i (pa / 64) then ch.fillLine m w pa
  else ((ch.event m w 8).fetchWait m w (1 + ch.choice 622)).fillLine m w pa

/-! The wrong path (R34, R107, R110, R111, R235). Its instructions are free, and so are the traces they leave among those listed. -/

/-- A load on the wrong path, of a free address: it passes the checks of a load, in GALE with a walk and fills of every cache, elsewhere only
where the L1 TLB translates it, and fills the L1D only from the L2 or the Calm store. -/
def Chan.wrongLoad (m : MantleTable) (ch : Chan) (w : Fin 8) (i : Nat) : Chan :=
  let va : W64 := (ch.draw (9000 + i)).truncate 64
  let ctx := ch.context w (accSalt va.toNat false false)
  let known := !ch.translates w ctx || (ch.core w).dtlb.any fun e => e.hits (va.toNat % 2 ^ 48) (ctx.2.truncate 12)
  if ch.mode != 1 && !known then ch else
  match ch.check m w (ch.rc w 0) accLoad va 1 false with
  | (ch, .error _) => ch
  | (ch, .ok ps) => ps.foldl (fun (ch : Chan) p =>
      let held := (ch.core w).l2Find (p.pa / 64)
      match p.attr with
      | .calm => if setHas ch.calmPois (p.pa / 64) then ch else ch.l1dNote w p.pa
      | .cacheable =>
        let ch := if ch.mode == 1 && held.isNone then (ch.l2Read w (ch.ownerOf m w) (p.pa / 64)).1 else ch
        (match (ch.core w).l2Find (p.pa / 64) with
        | some x => if x.poison then ch else ch.l1dNote w p.pa
        | none => ch)
      | _ => ch) ch

/-- A fetch on a predicted path, of a free address; outside GALE only where the L1 TLB translates it (R111). -/
def Chan.wrongFetch (m : MantleTable) (ch : Chan) (w : Fin 8) (i : Nat) : Chan :=
  let c := ch.core w
  let va : W64 := align4 ((ch.draw (9100 + i)).truncate 64)
  if (taperCheck m c.pcc.mantle c.pcc va 4 []).isSome || !c.pcc.has 2 || (ch.mode != 1 && !ch.fetchKnown w va) then ch else
  match ch.checkPart m w accFetch va 4 false with
  | (ch, .error _) => ch
  | (ch, .ok p) => (ch.fillLine m w p.pa).1

/-- What the wrong path leaves in the predictor: two pops and a push leave the entry below the top unrestored (R107); in the shadow of a
faulting instruction in GALE branches update counters and targets (R111). -/
def Chan.wrongPred (ch : Chan) (w : Fin 8) (fault : Bool) : Chan :=
  if ch.noPred w then ch else
  let x : W64 := (ch.draw 9200).truncate 64
  let ch := if ch.pick 642 2 = 0 then ch else ch.onCore w fun c =>
    { c with pred := { c.pred with ras := match c.pred.ras with | t :: _ :: rest => t :: x :: rest | r => r } }
  if !fault || ch.mode != 1 then ch else
  (List.range (ch.pick 643 11)).foldl (fun (ch : Chan) i =>
    let d := ch.draw (9300 + i)
    let pc := align4 (d.truncate 64)
    let taken := d.getLsbD 511
    ch.onCore w fun c =>
      let q := predUpdate c.pred ((d.toNat / 2 ^ 64) % 2 ^ 14, 0) taken
      { c with pred := if taken then predTarget false q pc c.pcc.mantle ((d.toNat / 2 ^ 128 : Nat) : W64) else q }) ch

/-- At most `lim` instructions of the wrong path (R110); where the costs are fixed there is none. Outside GALE a fetch beyond the L1I waits for the
older branches only, so that one goes out in the shadow of a fault (R111). -/
def Chan.wrongPath (m : MantleTable) (ch : Chan) (w : Fin 8) (lim : Nat) (fault : Bool) : Chan :=
  if lim = 0 || ch.fixedCore w then ch else
  let ch := (List.range (ch.pick 640 (lim + 1))).foldl (fun (ch : Chan) i => ch.wrongLoad m w i) ch
  let ch := if ch.mode == 1 || fault then (List.range (ch.pick 641 (lim + 1))).foldl (fun (ch : Chan) i => ch.wrongFetch m w i) ch else ch
  ch.wrongPred w fault

/-- An exception raised by the instruction at PC; a step halts before the handler (R424). PAIR_SPLIT is counted at the commit of a slot B, so that
of one that raises an exception here it is not: DESIGN CHOICE (log 63; R61). -/
def Chan.trapNow (m : MantleTable) (ch : Chan) (w : Fin 8) (e : Exc) (saved : W64) (word : W32) : Chan :=
  let step := (ch.core w).stepping
  let (ch, lof) := ((ch.wrongPath m w 10 true).dropSlotA m w).raise m w ⟨e.vec, e.reason, e.addr, saved, word, 0, 0, 0#64⟩
  if step && ch.snuff.isNone then ch.nowHalted w (if lof then 6 else 1) else ch

/-- What comes before the instruction: `go` when it issues, `stop` when something else happened in its place. -/
inductive Front
  | go (ch : Chan)
  | stop (ch : Chan)

/-- A precise exception of the fetch: saved PC and ADDR are the fetch address, INSN is 0 (R229). -/
def Chan.fetchTrap (m : MantleTable) (ch : Chan) (w : Fin 8) (e : Exc) : Front := .stop (ch.trapNow m w e (ch.core w).pc 0#32)

/-- The patch units that match the word (R426): a halt, then the Debug exception. -/
def Chan.patched (m : MantleTable) (ch : Chan) (w : Fin 8) (pa : Nat) (word : W32) : Front :=
  let us := ch.fetchUnits w pa
  let c := ch.core w
  let ch := us.foldl (fun (ch : Chan) u => ch.trigger 2 u.val) ch
  match us.find? (fun u => ch.fld (pu u + 8) 0 2 == 2), !c.skip && ch.haltAuth m c.pcc.mantle with
  | some u, true => .stop ((ch.haltReq w 2 u.val).stopHere m w)
  | _, _ =>
    match us.find? fun u => ch.fld (pu u + 8) 0 2 == 3 with
    | some u => .stop (ch.trapNow m w ⟨8, 0x20 + u.val, 0#64⟩ c.pc word)
    | none => .go ch

/-- Whether the instruction of `word` at PC forms slot B of a pair with the one before it (R59, R60). -/
def Core.inPair (c : Core) (word : W32) : Bool :=
  match c.slotA with
  | some a => c.pc == a.pc + 4#64 && pairs a.word word
  | none => false

/-- What has happened by the time an instruction issues: the freezes before it (R95), on the wrong path after the last commit (R110), in the long-operation queue (R97)
and, where the costs are fixed, in the store buffer (R115). -/
def Chan.catchUp (m : MantleTable) (ch : Chan) (w : Fin 8) (word : W32) : Chan :=
  let ch := ch.melt m w (b2n ((ch.core w).inPair word))
  let c := ch.core w
  let now := c.cyc - b2n (c.inPair word)
  let ch := if c.shadow = 0 then ch else (ch.wrongPath m w c.shadow false).onCore w fun c => { c with shadow := 0 }
  ((ch.drainDue m w now).completeDue m w now).fetchAhead m w word

/-- The front end: an interrupt that a step lets in, a recorded long-operation fault, which never splits a pair (R109), the fetch, the patch
units. A block-repeat instruction between two of its elements is not fetched again. -/
def Chan.front (m : MantleTable) (ch : Chan) (w : Fin 8) (word : W32) : Front :=
  let ch := ch.catchUp m w word
  let c := ch.core w
  match (if c.stepping && !ch.bit 0x30000C 1 && !c.wact then ch.receives w else none) with
  | some v =>
    let (ch, lof) := ch.interrupt m w v
    .stop (if ch.snuff.isSome then ch else ch.nowHalted w (if lof then 6 else 1))
  | none =>
    if c.dueFault.isSome && !c.inPair word then
      match (ch.dropSlotA m w).settle m w with
      | (ch, _) =>
        let ch := ch.deliverLof m w
        .stop (if c.stepping && ch.snuff.isNone then ch.nowHalted w 6 else ch)
    else if c.elem.isSome then .go ch
    else match ch.checkFetch m w with
      | (ch, .error e) => ch.fetchTrap m w e
      | (ch, .ok pa) =>
        match ch.fetchLine m w pa with
        | (ch, true) => ch.fetchTrap m w ⟨5, daPoison, c.pc⟩
        | (ch, false) => ch.patched m w pa word

/-- The integer ALU class of R91. -/
def aluClass (word : W32) : Bool :=
  let m := majorOf word
  m ≤ 0x0A || m == 0x0D || (m == 0x33 && fnOf word == 2)

/-- The hold of R258 after an instruction of n cycles; an LL has begun one. -/
def Core.holdStep (c : Core) (word : W32) (n : Nat) : Core :=
  match c.hold with
  | none => c
  | some h =>
    if !aluClass word then c
    else if h.cycles ≤ n then { c with hold := none, resv := none }
    else if 16 ≤ h.instrs + 1 then { c with hold := none }
    else { c with hold := some { h with instrs := h.instrs + 1, cycles := h.cycles - n } }

/-- An instruction outside the integer ALU class ends the hold as it issues (R258). -/
def Core.holdIssue (c : Core) (word : W32) : Core := if aluClass word then c else { c with hold := none }

/-- Whether the instruction that issued from `old` leaves its cycle's second slot open for a slot B (R59, R60). -/
def Chan.leavesSlot (ch : Chan) (w : Fin 8) (old : Core) (word : W32) (redirect : Bool) : Bool :=
  ch.opensPair w old.pc word && !old.inPair word && !redirect

/-- What the counters note of a commit of n cycles (R432 to R436). -/
def Chan.commitCount (m : MantleTable) (ch : Chan) (w : Fin 8) (old : Core) (word : W32) (n : Nat) (mis redirect : Bool) : Chan :=
  let paired := old.inPair word
  let opens := ch.leavesSlot w old word redirect
  let total := if ch.fixedCore w then n else 2 * n + b2n paired
  let late := b2n (old.slotA.isSome && !paired)
  let rest := total - 1
  let past := ch.skids w
  let ch := ch.onCore w fun c => { c with skid := if past then c.skid + 1 else 0 }
  let ch := (ch.pmuTick m w n).bumpFix m w 1 9 1 |>.events m w 2 1
  let ch := if paired then ch.event m w 3 else if old.slotA.isSome then ch.event m w 4 else ch
  ch.pmuSlots m w 1 (if mis then rest else 0) (if redirect && !mis then rest else 0)
    (if mis || redirect then late else rest - b2n opens + late)

/-- The commit of an instruction that issued from `old` (R93, R105, R115, R432 to R436, R446): PC, issue cycles, counters, window,
hold, trace. -/
def Chan.commit (m : MantleTable) (ch : Chan) (w : Fin 8) (old : Core) (word : W32) (npc : W64) (cost : Nat) (mis redirect : Bool) : Chan :=
  let n := if old.inPair word then cost - 1 else cost
  let slot : Option SlotA := if ch.leavesSlot w old word redirect then some ⟨old.pc, word⟩ else none
  let ch := (ch.commitCount m w old word n mis redirect).onCore w fun c =>
    ({ c with
      pc := npc, cyc := c.cyc + cost, slotA := slot, skip := false, woken := false,
      flight := (c.flight.filter fun f => decide (c.cyc + cost < f.at' + 7)) ++ [⟨old.pc, word, c.cyc, old.inPair word⟩] } : Core).holdStep word n
  (ch.windowTick w n).traceStep m w old.pc old.pcc.mantle (old.cyc - b2n (old.inPair word))

/-- The end of a step: the halt, which waits as LBAR does (R423, R424). -/
def Chan.endStep (m : MantleTable) (ch : Chan) (w : Fin 8) : Chan := if (ch.core w).stepping then ch.takeHalt m w 1 else ch

/-- A block-repeat instruction between two elements, or a routine at a POLL: n cycles have passed, PC stays on it (R78, R180). -/
def Chan.pause (m : MantleTable) (ch : Chan) (w : Fin 8) (word : W32) (n : Nat) : Chan :=
  let c := ch.core w
  let ch := ((ch.splitPair m w).elapse m w n).windowTick w n
  ((ch.traceStep m w c.pc c.pcc.mantle c.cyc).onCore w fun c => { c with elem := some word, hold := none, skip := false }).endStep m w

/-- What becomes of an instruction's own result. `old` is its core as it issued. A TJUMP that changes the Mantle pushes its link before the
return stack is cleared: DESIGN CHOICE (log 54). A misprediction leaves at most four instructions on the wrong path (R110). -/
def Chan.retire (m : MantleTable) (w : Fin 8) (old : Core) (word : W32) : Res → Chan
  | .next ch cost => (ch.commit m w old word (old.pc + 4#64) cost false false).endStep m w
  | .go ch target link f =>
    let (cost, mis, miss, p) := ch.transfer w old.pc old.pcc.mantle target link f
    let gone := ch.parted && old.pcc.mantle != (ch.core w).pcc.mantle
    let p := if gone then { p with hist := 0#14, ras := [] } else p
    let ch := ch.onCore w fun c => { c with pred := p, shadow := if mis && !ch.fixedCore w then 4 else c.shadow }
    let ch := match f with | .cond _ => ch.event m w 5 | _ => ch
    let ch := if mis then ch.event m w 6 else ch
    let ch := if miss then ch.event m w 7 else ch
    let ch := ch.commit m w old word target cost mis (f != .cond false || ch.fixedCore w)
    let ch := match f with
      | .cond t => ch.noteBranch w (old.cyc - b2n (old.inPair word)) t
      | .jlr _ | .ind => ch.traceInd w (old.cyc - b2n (old.inPair word)) target
      | _ => ch
    ch.endStep m w
  | .trap ch e saved => (ch.onCore w fun c => { c with cyc := c.cyc + b2n (old.inPair word) }).trapNow m w e saved word
  | .halt ch => ch.stopHere m w
  | .ctl ch => ch

/-- Instructions that the vendor's micro-routines run (R173): block repeats, RETX, MKMANTLE. -/
def vendorRoutine (word : W32) : Bool := majorOf word == 0x35 || (majorOf word == 0x33 && (fnOf word == 1 || fnOf word == 4))

/-- Whether a halt that the wire requested in DEW holds the core's first instruction after the wake (R321). -/
def Chan.wakeHalt (m : MantleTable) (ch : Chan) (w : Fin 8) : Bool :=
  let c := ch.core w
  c.woken && c.haltReq.getLsbD 0 && ch.haltAuth m c.pcc.mantle

/-- Whether the instruction of `word` issues; if not, what happened in its place. Between two elements of a block-repeat instruction
or two commit points of a routine only that instruction can. -/
def Chan.issue (m : MantleTable) (ch : Chan) (w : Fin 8) (word : W32) : Front :=
  if !ch.canIssue w || ch.wakeHalt m w || ((ch.core w).elem.getD word != word) then .stop ch else
  match ch.front m w word with
  | .go ch => if vendorRoutine word && ch.patchFails w then .stop (ch.parityStop m w) else .go ch
  | .stop ch => .stop ch

/-- An instruction issues: a slot B in the cycle of its slot A (R62); the first of a handler begins its window (R216). -/
def Chan.pairCycle (ch : Chan) (w : Fin 8) (word : W32) : Chan :=
  (if (ch.core w).inPair word then ch.onCore w fun c => { c with cyc := c.cyc - 1 } else ch).onCore w fun c => { c.holdIssue word with wnew := false }

/-- One instruction of core w. -/
def Chan.insn (m : MantleTable) (w : Fin 8) (word : W32) (body : Chan → Res) (ch : Chan) : Chan :=
  match ch.issue m w word with
  | .stop ch => ch
  | .go ch => Chan.retire m w (ch.core w) word (body (ch.pairCycle w word))

/-- A long operation in IS: with a free entry it goes on by `f`; with none it waits there (R95, R96). -/
def Chan.longOp (m : MantleTable) (ch : Chan) (w : Fin 8) (f : Chan → Res) : Res :=
  match ch.loqRoom m w with
  | (ch, true) => f ch
  | (ch, false) => .ctl ch

/-! Commands on one channel. -/

/-- A command of channel c: its effect by `f`, with the channel's draw counter advanced, so that every command draws afresh. -/
def State.act (s : State) (c : Fin 4) (f : MantleTable → Chan → Chan) : Host.Outcome State Fault Refusal :=
  .next (s.onChan c fun ch => f (s.mtl c) { ch with free := ch.free + 1 })

/-- A Wick instruction of core k as a command. -/
def State.wick (s : State) (k : CoreId) (word : W32) (body : MantleTable → Fin 8 → Chan → Res) : Host.Outcome State Fault Refusal :=
  s.act k.ch fun m ch => ch.insn m k.w word (body m k.w)

/-- What an ordinary instruction raises: the exception with the instruction's own PC. -/
def Chan.fail (ch : Chan) (w : Fin 8) (e : Exc) : Res := .trap ch e (ch.core w).pc

end Sys2Proof.Machine
end

