-- ==== Sys2Proof/Machine/Int.lean ====
section
/-! DEFINITION. Integer instructions: arithmetic, logic, shifts, comparison, bit counts, constants, multiply, divide, CRC steps
(R57, R58, R63 to R65, R82, R91, R97). -/

namespace Sys2Proof.Machine

/-- A result of distance d written to g[rd] at the cost of one issue cycle (R91, R115). -/
def Chan.alu (ch : Chan) (w : Fin 8) (rd : Fin 32) (d : Nat) (x : W64) : Res := .next (ch.wg w rd d x) 1

/-- A shift amount of 6 bits (R64). -/
def sh6 (x : W64) : Nat := x.toNat % 64

/-- A shift amount of 5 bits (R58). -/
def sh5 (x : W64) : Nat := x.toNat % 32

/-- Bits [31:0]. -/
def lo32 (x : W64) : W32 := x.truncate 32

/-- Signed and unsigned minimum and maximum (R64). -/
def minS (a b : W64) : W64 := if a.slt b then a else b
def maxS (a b : W64) : W64 := if a.slt b then b else a
def minU (a b : W64) : W64 := if a.ult b then a else b
def maxU (a b : W64) : W64 := if a.ult b then b else a

/-- BREV (R64). -/
def brev64 (x : W64) : W64 := ofBits 64 fun i => x.getLsbD (63 - i)

/-- BREVB: the bits of each byte reversed (R64). -/
def brevb (x : W64) : W64 := ofBits 64 fun i => x.getLsbD (i / 8 * 8 + 7 - i % 8)

/-- BSWAP: the bytes reversed (R64). -/
def bswap (x : W64) : W64 := ofBits 64 fun i => x.getLsbD ((7 - i / 8) * 8 + i % 8)

/-- MULHI of two numbers, signed or not (R65). -/
def mulHi (a b : Int) : W64 := BitVec.ofInt 64 (a * b / 2 ^ 64)

/-- Division (R65): by zero the quotient is 0 and the remainder the dividend; rounded toward zero. The most negative value over
−1 wraps to itself with remainder 0. -/
def divS (a b : W64) : W64 := if b = 0#64 then 0#64 else BitVec.ofInt 64 (a.toInt.tdiv b.toInt)
def modS (a b : W64) : W64 := if b = 0#64 then a else BitVec.ofInt 64 (a.toInt.tmod b.toInt)
def divU (a b : W64) : W64 := if b = 0#64 then 0#64 else a / b
def modU (a b : W64) : W64 := if b = 0#64 then a else a % b
/-- The forms on bits [31:0], result sign-extended. -/
def divSW (a b : W32) : W32 := if b = 0#32 then 0#32 else BitVec.ofInt 32 (a.toInt.tdiv b.toInt)
def modSW (a b : W32) : W32 := if b = 0#32 then a else BitVec.ofInt 32 (a.toInt.tmod b.toInt)
def divUW (a b : W32) : W32 := if b = 0#32 then 0#32 else a / b
def modUW (a b : W32) : W32 := if b = 0#32 then a else a % b

/-- A divide enters the long-operation queue (R65, R96); `most` is its fixed figure of R97. -/
def Chan.divide (m : MantleTable) (ch : Chan) (w : Fin 8) (rd : Fin 32) (most : Nat) (x : W64) : Res :=
  ch.longOp m w fun ch => .next (ch.loqPut m w .idiv (some false) rd (x.zeroExtend 128) 0#5 none most) 1

/-! CRC steps (R82). -/

/-- One bit of a CRC step of width w, as the manual's loop has it. -/
def crcBit (w poly : Nat) (refin : Bool) (crc : Nat) (bit : Bool) : Nat :=
  if refin then
    let t := crc.testBit 0 != bit
    let rp := ((List.range w).map fun i => if poly.testBit i then 2 ^ (w - 1 - i) else 0).sum
    if t then Nat.xor (crc / 2) rp else crc / 2
  else
    let t := crc.testBit (w - 1) != bit
    let c := crc * 2 % 2 ^ w
    if t then Nat.xor c poly else c

/-- One data byte. -/
def crcByte (w poly : Nat) (refin : Bool) (crc : Nat) (b : Byte) : Nat :=
  (List.range 8).foldl (fun c i => crcBit w poly refin c (b.getLsbD (if refin then i else 7 - i))) crc

/-- Bytes applied to an accumulator under a configuration; an unlisted WIDTH leaves it (R82). -/
def crcRun (cfg acc : W64) (bs : List Byte) : W64 :=
  let wd := cfg.toNat / 2 ^ 32 % 4
  if wd = 3 then acc else
  let w := 8 * 2 ^ wd
  let poly := cfg.toNat % 2 ^ w
  BitVec.ofNat 64 (bs.foldl (fun c b => crcByte w poly (cfg.getLsbD 34) c b) (acc.toNat % 2 ^ w))

/-- The n low bytes of a register, byte 0 first. -/
def regBytes (x : W64) (n : Nat) : List Byte := (List.range n).map fun i => byteOf x i

/-- A CRC step of n bytes: with WIDTH 0b11 nothing is written (R82). -/
def Chan.crcStep (ch : Chan) (w : Fin 8) (rd rs1 rs2 : Fin 32) (n : Nat) : Res :=
  let cfg := ch.rg w rs2
  if cfg.toNat / 2 ^ 32 % 4 = 3 then .next ch 1 else ch.alu w rd 2 (crcRun cfg (ch.rg w rd) (regBytes (ch.rg w rs1) n))

/-- ADD (R64). -/
def execAdd (k : CoreId) (p : Bool) (rd rs1 rs2 : Fin 32) (s : State) : Host.Outcome State Fault Refusal :=
  s.wick k (encR 0x00 p rd.val rs1.val rs2.val 0 0) fun _ w ch => ch.alu w rd 1 (ch.rg w rs1 + ch.rg w rs2)

/-- SUB (R64). -/
def execSub (k : CoreId) (p : Bool) (rd rs1 rs2 : Fin 32) (s : State) : Host.Outcome State Fault Refusal :=
  s.wick k (encR 0x00 p rd.val rs1.val rs2.val 0 1) fun _ w ch => ch.alu w rd 1 (ch.rg w rs1 - ch.rg w rs2)

/-- AND (R64). -/
def execAnd (k : CoreId) (p : Bool) (rd rs1 rs2 : Fin 32) (s : State) : Host.Outcome State Fault Refusal :=
  s.wick k (encR 0x00 p rd.val rs1.val rs2.val 0 2) fun _ w ch => ch.alu w rd 1 (ch.rg w rs1 &&& ch.rg w rs2)

/-- OR (R64). -/
def execOr (k : CoreId) (p : Bool) (rd rs1 rs2 : Fin 32) (s : State) : Host.Outcome State Fault Refusal :=
  s.wick k (encR 0x00 p rd.val rs1.val rs2.val 0 3) fun _ w ch => ch.alu w rd 1 (ch.rg w rs1 ||| ch.rg w rs2)

/-- XOR (R64). -/
def execXor (k : CoreId) (p : Bool) (rd rs1 rs2 : Fin 32) (s : State) : Host.Outcome State Fault Refusal :=
  s.wick k (encR 0x00 p rd.val rs1.val rs2.val 0 4) fun _ w ch => ch.alu w rd 1 (ch.rg w rs1 ^^^ ch.rg w rs2)

/-- SHL (R64). -/
def execShl (k : CoreId) (p : Bool) (rd rs1 rs2 : Fin 32) (s : State) : Host.Outcome State Fault Refusal :=
  s.wick k (encR 0x00 p rd.val rs1.val rs2.val 0 5) fun _ w ch => ch.alu w rd 1 (ch.rg w rs1 <<< sh6 (ch.rg w rs2))

/-- SHR (R64). -/
def execShr (k : CoreId) (p : Bool) (rd rs1 rs2 : Fin 32) (s : State) : Host.Outcome State Fault Refusal :=
  s.wick k (encR 0x00 p rd.val rs1.val rs2.val 0 6) fun _ w ch => ch.alu w rd 1 (ch.rg w rs1 >>> sh6 (ch.rg w rs2))

/-- SAR (R64). -/
def execSar (k : CoreId) (p : Bool) (rd rs1 rs2 : Fin 32) (s : State) : Host.Outcome State Fault Refusal :=
  s.wick k (encR 0x00 p rd.val rs1.val rs2.val 0 7) fun _ w ch => ch.alu w rd 1 ((ch.rg w rs1).sshiftRight (sh6 (ch.rg w rs2)))

/-- LTS (R64). -/
def execLts (k : CoreId) (p : Bool) (rd rs1 rs2 : Fin 32) (s : State) : Host.Outcome State Fault Refusal :=
  s.wick k (encR 0x00 p rd.val rs1.val rs2.val 0 8) fun _ w ch => ch.alu w rd 1 (b2w ((ch.rg w rs1).slt (ch.rg w rs2)))

/-- LTU (R64). -/
def execLtu (k : CoreId) (p : Bool) (rd rs1 rs2 : Fin 32) (s : State) : Host.Outcome State Fault Refusal :=
  s.wick k (encR 0x00 p rd.val rs1.val rs2.val 0 9) fun _ w ch => ch.alu w rd 1 (b2w ((ch.rg w rs1).ult (ch.rg w rs2)))

/-- MIN (R64). -/
def execMin (k : CoreId) (p : Bool) (rd rs1 rs2 : Fin 32) (s : State) : Host.Outcome State Fault Refusal :=
  s.wick k (encR 0x00 p rd.val rs1.val rs2.val 0 10) fun _ w ch => ch.alu w rd 1 (minS (ch.rg w rs1) (ch.rg w rs2))

/-- MAX (R64). -/
def execMax (k : CoreId) (p : Bool) (rd rs1 rs2 : Fin 32) (s : State) : Host.Outcome State Fault Refusal :=
  s.wick k (encR 0x00 p rd.val rs1.val rs2.val 0 11) fun _ w ch => ch.alu w rd 1 (maxS (ch.rg w rs1) (ch.rg w rs2))

/-- MINU (R64). -/
def execMinu (k : CoreId) (p : Bool) (rd rs1 rs2 : Fin 32) (s : State) : Host.Outcome State Fault Refusal :=
  s.wick k (encR 0x00 p rd.val rs1.val rs2.val 0 12) fun _ w ch => ch.alu w rd 1 (minU (ch.rg w rs1) (ch.rg w rs2))

/-- MAXU (R64). -/
def execMaxu (k : CoreId) (p : Bool) (rd rs1 rs2 : Fin 32) (s : State) : Host.Outcome State Fault Refusal :=
  s.wick k (encR 0x00 p rd.val rs1.val rs2.val 0 13) fun _ w ch => ch.alu w rd 1 (maxU (ch.rg w rs1) (ch.rg w rs2))

/-- ROL (R64). -/
def execRol (k : CoreId) (p : Bool) (rd rs1 rs2 : Fin 32) (s : State) : Host.Outcome State Fault Refusal :=
  s.wick k (encR 0x00 p rd.val rs1.val rs2.val 0 14) fun _ w ch => ch.alu w rd 1 ((ch.rg w rs1).rotateLeft (sh6 (ch.rg w rs2)))

/-- ROR (R64). -/
def execRor (k : CoreId) (p : Bool) (rd rs1 rs2 : Fin 32) (s : State) : Host.Outcome State Fault Refusal :=
  s.wick k (encR 0x00 p rd.val rs1.val rs2.val 0 15) fun _ w ch => ch.alu w rd 1 ((ch.rg w rs1).rotateRight (sh6 (ch.rg w rs2)))

/-- ANDN (R64). -/
def execAndn (k : CoreId) (p : Bool) (rd rs1 rs2 : Fin 32) (s : State) : Host.Outcome State Fault Refusal :=
  s.wick k (encR 0x00 p rd.val rs1.val rs2.val 0 23) fun _ w ch => ch.alu w rd 1 (ch.rg w rs1 &&& ~~~(ch.rg w rs2))

/-- CLZ (R64). -/
def execClz (k : CoreId) (p : Bool) (rd rs1 : Fin 32) (s : State) : Host.Outcome State Fault Refusal :=
  s.wick k (encR 0x00 p rd.val rs1.val 0 0 16) fun _ w ch => ch.alu w rd 1 (BitVec.ofNat 64 (clzN (ch.rg w rs1)))

/-- CTZ (R64). -/
def execCtz (k : CoreId) (p : Bool) (rd rs1 : Fin 32) (s : State) : Host.Outcome State Fault Refusal :=
  s.wick k (encR 0x00 p rd.val rs1.val 0 0 17) fun _ w ch => ch.alu w rd 1 (BitVec.ofNat 64 (ctzN (ch.rg w rs1)))

/-- POPC (R64). -/
def execPopc (k : CoreId) (p : Bool) (rd rs1 : Fin 32) (s : State) : Host.Outcome State Fault Refusal :=
  s.wick k (encR 0x00 p rd.val rs1.val 0 0 18) fun _ w ch => ch.alu w rd 1 (BitVec.ofNat 64 (popcount (ch.rg w rs1)))

/-- PAR (R64). -/
def execPar (k : CoreId) (p : Bool) (rd rs1 : Fin 32) (s : State) : Host.Outcome State Fault Refusal :=
  s.wick k (encR 0x00 p rd.val rs1.val 0 0 19) fun _ w ch => ch.alu w rd 1 (b2w (parity (ch.rg w rs1)))

/-- BREV (R64). -/
def execBrev (k : CoreId) (p : Bool) (rd rs1 : Fin 32) (s : State) : Host.Outcome State Fault Refusal :=
  s.wick k (encR 0x00 p rd.val rs1.val 0 0 20) fun _ w ch => ch.alu w rd 1 (brev64 (ch.rg w rs1))

/-- BREVB (R64). -/
def execBrevb (k : CoreId) (p : Bool) (rd rs1 : Fin 32) (s : State) : Host.Outcome State Fault Refusal :=
  s.wick k (encR 0x00 p rd.val rs1.val 0 0 21) fun _ w ch => ch.alu w rd 1 (brevb (ch.rg w rs1))

/-- BSWAP (R64). -/
def execBswap (k : CoreId) (p : Bool) (rd rs1 : Fin 32) (s : State) : Host.Outcome State Fault Refusal :=
  s.wick k (encR 0x00 p rd.val rs1.val 0 0 22) fun _ w ch => ch.alu w rd 1 (bswap (ch.rg w rs1))

/-- ADD of major 0x0D (R58). -/
def execAdd32 (k : CoreId) (p : Bool) (rd rs1 rs2 : Fin 32) (s : State) : Host.Outcome State Fault Refusal :=
  s.wick k (encR 0x0D p rd.val rs1.val rs2.val 0 0) fun _ w ch => ch.alu w rd 1 (sx (lo32 (ch.rg w rs1) + lo32 (ch.rg w rs2)))

/-- SUB of major 0x0D (R58). -/
def execSub32 (k : CoreId) (p : Bool) (rd rs1 rs2 : Fin 32) (s : State) : Host.Outcome State Fault Refusal :=
  s.wick k (encR 0x0D p rd.val rs1.val rs2.val 0 1) fun _ w ch => ch.alu w rd 1 (sx (lo32 (ch.rg w rs1) - lo32 (ch.rg w rs2)))

/-- AND of major 0x0D (R58). -/
def execAnd32 (k : CoreId) (p : Bool) (rd rs1 rs2 : Fin 32) (s : State) : Host.Outcome State Fault Refusal :=
  s.wick k (encR 0x0D p rd.val rs1.val rs2.val 0 2) fun _ w ch => ch.alu w rd 1 (sx (lo32 (ch.rg w rs1) &&& lo32 (ch.rg w rs2)))

/-- OR of major 0x0D (R58). -/
def execOr32 (k : CoreId) (p : Bool) (rd rs1 rs2 : Fin 32) (s : State) : Host.Outcome State Fault Refusal :=
  s.wick k (encR 0x0D p rd.val rs1.val rs2.val 0 3) fun _ w ch => ch.alu w rd 1 (sx (lo32 (ch.rg w rs1) ||| lo32 (ch.rg w rs2)))

/-- XOR of major 0x0D (R58). -/
def execXor32 (k : CoreId) (p : Bool) (rd rs1 rs2 : Fin 32) (s : State) : Host.Outcome State Fault Refusal :=
  s.wick k (encR 0x0D p rd.val rs1.val rs2.val 0 4) fun _ w ch => ch.alu w rd 1 (sx (lo32 (ch.rg w rs1) ^^^ lo32 (ch.rg w rs2)))

/-- SHL of major 0x0D (R58). -/
def execShl32 (k : CoreId) (p : Bool) (rd rs1 rs2 : Fin 32) (s : State) : Host.Outcome State Fault Refusal :=
  s.wick k (encR 0x0D p rd.val rs1.val rs2.val 0 5) fun _ w ch => ch.alu w rd 1 (sx (lo32 (ch.rg w rs1) <<< sh5 (ch.rg w rs2)))

/-- SHR of major 0x0D (R58). -/
def execShr32 (k : CoreId) (p : Bool) (rd rs1 rs2 : Fin 32) (s : State) : Host.Outcome State Fault Refusal :=
  s.wick k (encR 0x0D p rd.val rs1.val rs2.val 0 6) fun _ w ch => ch.alu w rd 1 (sx (lo32 (ch.rg w rs1) >>> sh5 (ch.rg w rs2)))

/-- SAR of major 0x0D (R58). -/
def execSar32 (k : CoreId) (p : Bool) (rd rs1 rs2 : Fin 32) (s : State) : Host.Outcome State Fault Refusal :=
  s.wick k (encR 0x0D p rd.val rs1.val rs2.val 0 7) fun _ w ch => ch.alu w rd 1 (sx ((lo32 (ch.rg w rs1)).sshiftRight (sh5 (ch.rg w rs2))))

/-- LTS of major 0x0D (R58). -/
def execLts32 (k : CoreId) (p : Bool) (rd rs1 rs2 : Fin 32) (s : State) : Host.Outcome State Fault Refusal :=
  s.wick k (encR 0x0D p rd.val rs1.val rs2.val 0 8) fun _ w ch => ch.alu w rd 1 (b2w ((lo32 (ch.rg w rs1)).slt (lo32 (ch.rg w rs2))))

/-- LTU of major 0x0D (R58). -/
def execLtu32 (k : CoreId) (p : Bool) (rd rs1 rs2 : Fin 32) (s : State) : Host.Outcome State Fault Refusal :=
  s.wick k (encR 0x0D p rd.val rs1.val rs2.val 0 9) fun _ w ch => ch.alu w rd 1 (b2w ((lo32 (ch.rg w rs1)).ult (lo32 (ch.rg w rs2))))

/-- ADDI (R57, R58). -/
def execAddi (k : CoreId) (p : Bool) (rd rs1 : Fin 32) (imm : BitVec 15) (s : State) : Host.Outcome State Fault Refusal :=
  s.wick k (encI 0x01 p rd.val rs1.val imm) fun _ w ch => ch.alu w rd 1 (ch.rg w rs1 + sx imm)

/-- ANDI (R57, R58). -/
def execAndi (k : CoreId) (p : Bool) (rd rs1 : Fin 32) (imm : BitVec 15) (s : State) : Host.Outcome State Fault Refusal :=
  s.wick k (encI 0x02 p rd.val rs1.val imm) fun _ w ch => ch.alu w rd 1 (ch.rg w rs1 &&& zx imm)

/-- ORI (R57, R58). -/
def execOri (k : CoreId) (p : Bool) (rd rs1 : Fin 32) (imm : BitVec 15) (s : State) : Host.Outcome State Fault Refusal :=
  s.wick k (encI 0x03 p rd.val rs1.val imm) fun _ w ch => ch.alu w rd 1 (ch.rg w rs1 ||| zx imm)

/-- XORI (R57, R58). -/
def execXori (k : CoreId) (p : Bool) (rd rs1 : Fin 32) (imm : BitVec 15) (s : State) : Host.Outcome State Fault Refusal :=
  s.wick k (encI 0x04 p rd.val rs1.val imm) fun _ w ch => ch.alu w rd 1 (ch.rg w rs1 ^^^ zx imm)

/-- LTSI (R57, R58). -/
def execLtsi (k : CoreId) (p : Bool) (rd rs1 : Fin 32) (imm : BitVec 15) (s : State) : Host.Outcome State Fault Refusal :=
  s.wick k (encI 0x06 p rd.val rs1.val imm) fun _ w ch => ch.alu w rd 1 (b2w ((ch.rg w rs1).slt (sx imm)))

/-- LTUI (R57, R58). -/
def execLtui (k : CoreId) (p : Bool) (rd rs1 : Fin 32) (imm : BitVec 15) (s : State) : Host.Outcome State Fault Refusal :=
  s.wick k (encI 0x07 p rd.val rs1.val imm) fun _ w ch => ch.alu w rd 1 (b2w ((ch.rg w rs1).ult (sx imm)))

/-- SHLI (R58). -/
def execShli (k : CoreId) (p : Bool) (rd rs1 : Fin 32) (sh : BitVec 6) (s : State) : Host.Outcome State Fault Refusal :=
  s.wick k (encI 0x05 p rd.val rs1.val (BitVec.ofNat 15 (0 * 2 ^ 12 + sh.toNat))) fun _ w ch => ch.alu w rd 1 (ch.rg w rs1 <<< sh.toNat)

/-- SHRI (R58). -/
def execShri (k : CoreId) (p : Bool) (rd rs1 : Fin 32) (sh : BitVec 6) (s : State) : Host.Outcome State Fault Refusal :=
  s.wick k (encI 0x05 p rd.val rs1.val (BitVec.ofNat 15 (1 * 2 ^ 12 + sh.toNat))) fun _ w ch => ch.alu w rd 1 (ch.rg w rs1 >>> sh.toNat)

/-- SARI (R58). -/
def execSari (k : CoreId) (p : Bool) (rd rs1 : Fin 32) (sh : BitVec 6) (s : State) : Host.Outcome State Fault Refusal :=
  s.wick k (encI 0x05 p rd.val rs1.val (BitVec.ofNat 15 (2 * 2 ^ 12 + sh.toNat))) fun _ w ch => ch.alu w rd 1 ((ch.rg w rs1).sshiftRight sh.toNat)

/-- RORI (R58). -/
def execRori (k : CoreId) (p : Bool) (rd rs1 : Fin 32) (sh : BitVec 6) (s : State) : Host.Outcome State Fault Refusal :=
  s.wick k (encI 0x05 p rd.val rs1.val (BitVec.ofNat 15 (3 * 2 ^ 12 + sh.toNat))) fun _ w ch => ch.alu w rd 1 ((ch.rg w rs1).rotateRight sh.toNat)

/-- KLO (R58). -/
def execKlo (k : CoreId) (p : Bool) (rd : Fin 32) (imm : BitVec 20) (s : State) : Host.Outcome State Fault Refusal :=
  s.wick k (encU 0x08 p rd.val imm) fun _ w ch => ch.alu w rd 1 (sx imm)

/-- KPC (R58). -/
def execKpc (k : CoreId) (p : Bool) (rd : Fin 32) (imm : BitVec 20) (s : State) : Host.Outcome State Fault Refusal :=
  s.wick k (encU 0x09 p rd.val imm) fun _ w ch => ch.alu w rd 1 ((ch.core w).pc + offJ imm)

/-- LSI (R58). -/
def execLsi (k : CoreId) (p : Bool) (rd : Fin 32) (imm : BitVec 16) (s : State) : Host.Outcome State Fault Refusal :=
  s.wick k (encU 0x0A p rd.val (imm.zeroExtend 20)) fun _ w ch => ch.alu w rd 1 ((ch.rg w rd <<< 16) ||| zx imm)

/-- Mul (R65). -/
def execMul (k : CoreId) (p : Bool) (rd rs1 rs2 : Fin 32) (s : State) : Host.Outcome State Fault Refusal :=
  s.wick k (encR 0x0C p rd.val rs1.val rs2.val 0 0) fun _ w ch => ch.alu w rd 3 (ch.rg w rs1 * ch.rg w rs2)

/-- MulhiSs (R65). -/
def execMulhiSs (k : CoreId) (p : Bool) (rd rs1 rs2 : Fin 32) (s : State) : Host.Outcome State Fault Refusal :=
  s.wick k (encR 0x0C p rd.val rs1.val rs2.val 0 1) fun _ w ch => ch.alu w rd 3 (mulHi (ch.rg w rs1).toInt (ch.rg w rs2).toInt)

/-- MulhiUu (R65). -/
def execMulhiUu (k : CoreId) (p : Bool) (rd rs1 rs2 : Fin 32) (s : State) : Host.Outcome State Fault Refusal :=
  s.wick k (encR 0x0C p rd.val rs1.val rs2.val 0 2) fun _ w ch => ch.alu w rd 3 (mulHi (ch.rg w rs1).toNat (ch.rg w rs2).toNat)

/-- MulhiSu (R65). -/
def execMulhiSu (k : CoreId) (p : Bool) (rd rs1 rs2 : Fin 32) (s : State) : Host.Outcome State Fault Refusal :=
  s.wick k (encR 0x0C p rd.val rs1.val rs2.val 0 3) fun _ w ch => ch.alu w rd 3 (mulHi (ch.rg w rs1).toInt (ch.rg w rs2).toNat)

/-- MulW (R65). -/
def execMulW (k : CoreId) (p : Bool) (rd rs1 rs2 : Fin 32) (s : State) : Host.Outcome State Fault Refusal :=
  s.wick k (encR 0x0C p rd.val rs1.val rs2.val 0 4) fun _ w ch => ch.alu w rd 3 (sx32 (ch.rg w rs1 * ch.rg w rs2))

/-- MULADD (R65). -/
def execMuladd (k : CoreId) (p : Bool) (rd rs1 rs2 rs3 : Fin 32) (s : State) : Host.Outcome State Fault Refusal :=
  s.wick k (encR 0x0C p rd.val rs1.val rs2.val rs3.val 5) fun _ w ch => ch.alu w rd 3 (ch.rg w rs1 * ch.rg w rs2 + ch.rg w rs3)

/-- Divs, a long operation (R65). -/
def execDivs (k : CoreId) (p : Bool) (rd rs1 rs2 : Fin 32) (s : State) : Host.Outcome State Fault Refusal :=
  s.wick k (encR 0x0C p rd.val rs1.val rs2.val 0 8) fun m w ch => ch.divide m w rd 38 (divS (ch.rg w rs1) (ch.rg w rs2))

/-- Divu, a long operation (R65). -/
def execDivu (k : CoreId) (p : Bool) (rd rs1 rs2 : Fin 32) (s : State) : Host.Outcome State Fault Refusal :=
  s.wick k (encR 0x0C p rd.val rs1.val rs2.val 0 9) fun m w ch => ch.divide m w rd 38 (divU (ch.rg w rs1) (ch.rg w rs2))

/-- Mods, a long operation (R65). -/
def execMods (k : CoreId) (p : Bool) (rd rs1 rs2 : Fin 32) (s : State) : Host.Outcome State Fault Refusal :=
  s.wick k (encR 0x0C p rd.val rs1.val rs2.val 0 10) fun m w ch => ch.divide m w rd 38 (modS (ch.rg w rs1) (ch.rg w rs2))

/-- Modu, a long operation (R65). -/
def execModu (k : CoreId) (p : Bool) (rd rs1 rs2 : Fin 32) (s : State) : Host.Outcome State Fault Refusal :=
  s.wick k (encR 0x0C p rd.val rs1.val rs2.val 0 11) fun m w ch => ch.divide m w rd 38 (modU (ch.rg w rs1) (ch.rg w rs2))

/-- DivsW, a long operation (R65). -/
def execDivsW (k : CoreId) (p : Bool) (rd rs1 rs2 : Fin 32) (s : State) : Host.Outcome State Fault Refusal :=
  s.wick k (encR 0x0C p rd.val rs1.val rs2.val 0 12) fun m w ch => ch.divide m w rd 22 (sx (divSW (lo32 (ch.rg w rs1)) (lo32 (ch.rg w rs2))))

/-- DivuW, a long operation (R65). -/
def execDivuW (k : CoreId) (p : Bool) (rd rs1 rs2 : Fin 32) (s : State) : Host.Outcome State Fault Refusal :=
  s.wick k (encR 0x0C p rd.val rs1.val rs2.val 0 13) fun m w ch => ch.divide m w rd 22 (sx (divUW (lo32 (ch.rg w rs1)) (lo32 (ch.rg w rs2))))

/-- ModsW, a long operation (R65). -/
def execModsW (k : CoreId) (p : Bool) (rd rs1 rs2 : Fin 32) (s : State) : Host.Outcome State Fault Refusal :=
  s.wick k (encR 0x0C p rd.val rs1.val rs2.val 0 14) fun m w ch => ch.divide m w rd 22 (sx (modSW (lo32 (ch.rg w rs1)) (lo32 (ch.rg w rs2))))

/-- ModuW, a long operation (R65). -/
def execModuW (k : CoreId) (p : Bool) (rd rs1 rs2 : Fin 32) (s : State) : Host.Outcome State Fault Refusal :=
  s.wick k (encR 0x0C p rd.val rs1.val rs2.val 0 15) fun m w ch => ch.divide m w rd 22 (sx (modUW (lo32 (ch.rg w rs1)) (lo32 (ch.rg w rs2))))

/-- CRCS.8 (R82). -/
def execCrcs8 (k : CoreId) (p : Bool) (rd rs1 rs2 : Fin 32) (s : State) : Host.Outcome State Fault Refusal :=
  s.wick k (encR 0x34 p rd.val rs1.val rs2.val 0 0) fun _ w ch => ch.crcStep w rd rs1 rs2 1

/-- CRCS.16 (R82). -/
def execCrcs16 (k : CoreId) (p : Bool) (rd rs1 rs2 : Fin 32) (s : State) : Host.Outcome State Fault Refusal :=
  s.wick k (encR 0x34 p rd.val rs1.val rs2.val 0 1) fun _ w ch => ch.crcStep w rd rs1 rs2 2

/-- CRCS.32 (R82). -/
def execCrcs32 (k : CoreId) (p : Bool) (rd rs1 rs2 : Fin 32) (s : State) : Host.Outcome State Fault Refusal :=
  s.wick k (encR 0x34 p rd.val rs1.val rs2.val 0 2) fun _ w ch => ch.crcStep w rd rs1 rs2 4

/-- CRCS.64 (R82). -/
def execCrcs64 (k : CoreId) (p : Bool) (rd rs1 rs2 : Fin 32) (s : State) : Host.Outcome State Fault Refusal :=
  s.wick k (encR 0x34 p rd.val rs1.val rs2.val 0 3) fun _ w ch => ch.crcStep w rd rs1 rs2 8

end Sys2Proof.Machine
end

