-- ==== Sys2Proof/Machine/LoadStore.lean ====
section
/-! DEFINITION. Loads, stores, far accesses, LL, SC and AMO, the barriers and waits, Taper loads and stores, and what ends a long
operation (R66 to R69, R75, R85, R96 to R103, R113 to R115, R200, R227, R242 to R260, R300, R427, R439). -/

namespace Sys2Proof.Machine

/-! What every data access passes. -/

/-- System for a write and Gauge for a read of a control register that needs it, in the PCC or in the authorising Taper (R200,
R439). -/
def Chan.authority (ch : Chan) (w : Fin 8) (t : Taper) (a : Access) (va : W64) (ps : List Part) : Option Exc :=
  let ctrl := fun (f : Nat → Bool) => ps.any fun p => inCtrl p.pa && f (p.pa - ctrlBase)
  if a.wr && ctrl needsSystem && !(ch.core w).pcc.has 5 && !t.has 5 then some ⟨1, 1, va⟩
  else if a.rd && !a.wr && ctrl needsGauge && !t.has 6 then some ⟨4, 5, va⟩
  else none

/-- The data watch units of an access (R427): atomics count as read and as write; a halt first, then Watch. -/
def Chan.watched (m : MantleTable) (ch : Chan) (w : Fin 8) (a : Access) (va : W64) (ps : List Part) : Chan ⊕ Res :=
  let rd := a.rd || a.atom
  let wr := a.wr || a.atom
  let us := (List.finRange 32).filter fun u => ps.any fun p => (ch.watchUnits w p.pa p.n rd wr).contains u
  let c := ch.core w
  let ch := us.foldl (fun (ch : Chan) u => ch.trigger 2 u.val) ch
  match us.find? (fun u => ch.fld (pu u + 8) 0 2 == 2), !c.skip && ch.haltAuth m c.pcc.mantle with
  | some u, true => .inr (.halt (ch.haltReq w 3 u.val))
  | _, _ =>
    match us.find? fun u => ch.fld (pu u + 8) 0 2 == 3 with
    | some u => .inr (ch.fail w ⟨13, u.val + 32 * b2n (wr && ch.bit (pu u + 8) 3) + 64 * b2n (rd && ch.bit (pu u + 8) 4), va⟩)
    | none => .inl ch

/-- An access of n bytes at an address under a Taper: its checks, then what it does with its parts. -/
def Chan.access (m : MantleTable) (ch : Chan) (w : Fin 8) (t : Taper) (a : Access) (va : W64) (n : Nat) (elem : Bool)
    (f : Chan → List Part → Res) : Res :=
  match ch.check m w t a va n elem with
  | (ch, .error e) => ch.fail w e
  | (ch, .ok ps) =>
    match ch.authority w t a va ps with
    | some e => ch.fail w e
    | none => match ch.watched m w a va ps with | .inl ch => f ch ps | .inr r => r

/-- A split access freezes the pipeline for one cycle more where instructions pair (R243). -/
def Chan.splitFreeze (ch : Chan) (w : Fin 8) (ps : List Part) : Chan :=
  if 1 < ps.length && !ch.fixedCore w then ch.frozeFor w 0xFF 1 else ch

/-- Cost of a load (R115, R243). A load of a control register waits until 12 cycles have passed since the issue of the last buffered store with
the same identifier (R247). -/
def Chan.loadCost (ch : Chan) (w : Fin 8) (ps : List Part) : Nat :=
  if !ch.fixedCore w then 1 else
  let c := ch.core w
  let since := fun (p : Part) => ((c.sb.filter fun e => e.part.attr = .device && devId e.part == devId p).map fun e => e.born + 12 - c.cyc).foldl max 0
  let wait := (ps.map fun p => if p.attr = .device then since p else 0).foldl max 0
  (if ps.any fun p => p.attr = .device then 14 else 2) + (ps.length - 1) + wait

/-- Cost of a store (R115, R243). -/
def Chan.storeCost (ch : Chan) (w : Fin 8) (ps : List Part) : Nat := if ch.fixedCore w then 1 + ps.length else 1

/-- The result of an SC or AMO, whose core stands frozen until it returns (R95). -/
def Chan.atomRes (ch : Chan) (w : Fin 8) (rd : Fin 32) (v : W64) (cost : Nat) : Res :=
  .next ((ch.wg w rd 3 v).onCore w fun c => c.frozenPart (c.cyc + 3) (cost - 2)) cost

/-- Cost of SC and AMO: 6 and the wait for the stores ahead (R115, R260). -/
def Chan.atomCost (ch : Chan) (w : Fin 8) (line : Nat) : Nat :=
  let c := ch.core w
  if ch.fixedCore w then 6 + c.drainCost (c.upTo fun e => e.part.pa / 64 == line) else 1

/-! Loads and stores. -/

/-- A load of n bytes under c0; `fin` writes the result (R66, R246, R281). -/
def Chan.load (m : MantleTable) (ch : Chan) (w : Fin 8) (a : Access) (va : W64) (n : Nat) (fin : Chan → List Byte → Bool → Chan) : Res :=
  ch.access m w (ch.rc w 0) a va n false fun ch ps =>
    let cost := ch.loadCost w ps
    let missed := ch.l1dMisses w ps
    match (ch.splitFreeze w ps).loadParts m w false ps 0 with
    | (ch, _, some off, _) => ch.fail w ⟨5, daPoison, va + BitVec.ofNat 64 off⟩
    | (ch, b, none, tag) =>
      let still := if ch.fixedCore w ∧ ps.any (fun p => p.attr = .device) then cost - 2 else 0
      .next (((fin ch b tag).trainPrefetch m w missed).onCore w fun c => c.frozenPart (c.cyc + 3) still) cost

/-- A store of n bytes under c0 (R66, R245). -/
def Chan.store (m : MantleTable) (ch : Chan) (w : Fin 8) (a : Access) (va : W64) (n : Nat) (data : W128) (tag : Bool) : Res :=
  ch.access m w (ch.rc w 0) a va n false fun ch ps =>
    .next ((ch.splitFreeze w ps).enter m w (storeEnts ps data tag (ch.core w).pcc.mantle)) (ch.storeCost w ps)

/-- The effective address of an I- or S-format access (R66). -/
def Chan.ea (ch : Chan) (w : Fin 8) (rs1 : Fin 32) (imm : BitVec 15) : W64 := ch.rg w rs1 + sx imm

/-- n little-endian bytes as a 64-bit value, zero- or sign-extended. -/
def zext (b : List Byte) : W64 := BitVec.ofNat 64 (leNat b)
def sext (b : List Byte) : W64 :=
  let x := leNat b
  BitVec.ofInt 64 (if 2 * x < 2 ^ (8 * b.length) then (x : Int) else (x : Int) - 2 ^ (8 * b.length))

/-- LBS (R66). -/
def execLbs (k : CoreId) (p : Bool) (rd rs1 : Fin 32) (imm : BitVec 15) (s : State) : Host.Outcome State Fault Refusal :=
  s.wick k (encI 0x10 p rd.val rs1.val imm) fun m w ch =>
    ch.load m w accLoad (ch.ea w rs1 imm) 1 fun ch b _ => ch.wg w rd 3 (sext b)

/-- LBZ (R66). -/
def execLbz (k : CoreId) (p : Bool) (rd rs1 : Fin 32) (imm : BitVec 15) (s : State) : Host.Outcome State Fault Refusal :=
  s.wick k (encI 0x11 p rd.val rs1.val imm) fun m w ch =>
    ch.load m w accLoad (ch.ea w rs1 imm) 1 fun ch b _ => ch.wg w rd 3 (zext b)

/-- LHS (R66). -/
def execLhs (k : CoreId) (p : Bool) (rd rs1 : Fin 32) (imm : BitVec 15) (s : State) : Host.Outcome State Fault Refusal :=
  s.wick k (encI 0x12 p rd.val rs1.val imm) fun m w ch =>
    ch.load m w accLoad (ch.ea w rs1 imm) 2 fun ch b _ => ch.wg w rd 3 (sext b)

/-- LHZ (R66). -/
def execLhz (k : CoreId) (p : Bool) (rd rs1 : Fin 32) (imm : BitVec 15) (s : State) : Host.Outcome State Fault Refusal :=
  s.wick k (encI 0x13 p rd.val rs1.val imm) fun m w ch =>
    ch.load m w accLoad (ch.ea w rs1 imm) 2 fun ch b _ => ch.wg w rd 3 (zext b)

/-- LWS (R66). -/
def execLws (k : CoreId) (p : Bool) (rd rs1 : Fin 32) (imm : BitVec 15) (s : State) : Host.Outcome State Fault Refusal :=
  s.wick k (encI 0x14 p rd.val rs1.val imm) fun m w ch =>
    ch.load m w accLoad (ch.ea w rs1 imm) 4 fun ch b _ => ch.wg w rd 3 (sext b)

/-- LWZ (R66). -/
def execLwz (k : CoreId) (p : Bool) (rd rs1 : Fin 32) (imm : BitVec 15) (s : State) : Host.Outcome State Fault Refusal :=
  s.wick k (encI 0x15 p rd.val rs1.val imm) fun m w ch =>
    ch.load m w accLoad (ch.ea w rs1 imm) 4 fun ch b _ => ch.wg w rd 3 (zext b)

/-- LD (R66). -/
def execLd (k : CoreId) (p : Bool) (rd rs1 : Fin 32) (imm : BitVec 15) (s : State) : Host.Outcome State Fault Refusal :=
  s.wick k (encI 0x16 p rd.val rs1.val imm) fun m w ch =>
    ch.load m w accLoad (ch.ea w rs1 imm) 8 fun ch b _ => ch.wg w rd 3 (zext b)

/-- LV (R66). -/
def execLv (k : CoreId) (p : Bool) (rd rs1 : Fin 32) (imm : BitVec 15) (s : State) : Host.Outcome State Fault Refusal :=
  s.wick k (encI 0x17 p rd.val rs1.val imm) fun m w ch =>
    ch.load m w accLoad (ch.ea w rs1 imm) 16 fun ch b _ => ch.wv w rd 3 (BitVec.ofNat 128 (leNat b))

/-- SB (R66). -/
def execSb (k : CoreId) (p : Bool) (rs2 rs1 : Fin 32) (imm : BitVec 15) (s : State) : Host.Outcome State Fault Refusal :=
  s.wick k (encI 0x18 p rs2.val rs1.val imm) fun m w ch =>
    ch.store m w accStore (ch.ea w rs1 imm) 1 ((ch.rg w rs2).zeroExtend 128) false

/-- SH (R66). -/
def execSh (k : CoreId) (p : Bool) (rs2 rs1 : Fin 32) (imm : BitVec 15) (s : State) : Host.Outcome State Fault Refusal :=
  s.wick k (encI 0x19 p rs2.val rs1.val imm) fun m w ch =>
    ch.store m w accStore (ch.ea w rs1 imm) 2 ((ch.rg w rs2).zeroExtend 128) false

/-- SW (R66). -/
def execSw (k : CoreId) (p : Bool) (rs2 rs1 : Fin 32) (imm : BitVec 15) (s : State) : Host.Outcome State Fault Refusal :=
  s.wick k (encI 0x1A p rs2.val rs1.val imm) fun m w ch =>
    ch.store m w accStore (ch.ea w rs1 imm) 4 ((ch.rg w rs2).zeroExtend 128) false

/-- SD (R66). -/
def execSd (k : CoreId) (p : Bool) (rs2 rs1 : Fin 32) (imm : BitVec 15) (s : State) : Host.Outcome State Fault Refusal :=
  s.wick k (encI 0x1B p rs2.val rs1.val imm) fun m w ch =>
    ch.store m w accStore (ch.ea w rs1 imm) 8 ((ch.rg w rs2).zeroExtend 128) false

/-- SV (R66). -/
def execSv (k : CoreId) (p : Bool) (rs2 rs1 : Fin 32) (imm : BitVec 15) (s : State) : Host.Outcome State Fault Refusal :=
  s.wick k (encI 0x1C p rs2.val rs1.val imm) fun m w ch =>
    ch.store m w accStore (ch.ea w rs1 imm) 16 (ch.rv w rs2) false

/-- TLD (R75, R198). -/
def execTld (k : CoreId) (p : Bool) (cd : Fin 16) (rs1 : Fin 32) (imm : BitVec 15) (s : State) : Host.Outcome State Fault Refusal :=
  s.wick k (encI 0x31 p cd.val rs1.val imm) fun m w ch =>
    ch.load m w accTld (ch.ea w rs1 imm) 16 fun ch b tag => ch.wc w cd 3 ⟨BitVec.ofNat 128 (leNat b), tag⟩

/-- TST (R75, R198). -/
def execTst (k : CoreId) (p : Bool) (cs2 : Fin 16) (rs1 : Fin 32) (imm : BitVec 15) (s : State) : Host.Outcome State Fault Refusal :=
  s.wick k (encI 0x32 p cs2.val rs1.val imm) fun m w ch =>
    let t := ch.rc w cs2
    ch.store m w accTst (ch.ea w rs1 imm) 16 t.bits t.tag

/-- Whether a posted store finds a token of its pool (R296). -/
def Chan.maySend (m : MantleTable) (ch : Chan) (w : Fin 8) : Bool :=
  match (ch.core w).sb with
  | e :: _ => e.part.attr != .unc10 || e.part.n == 0 || ch.tokenFree (ch.pool (ch.ownerFor m e.mantle))
  | [] => true

/-- The oldest buffered store leaves, or the lower half of a 16-byte one to uncached HDM (R241, R242, R245); where the costs are fixed, not
before its time (R115, R116); not while another core's hold delays it (R258), nor a posted one without a token (R296). -/
def execStoreBufferDrain (k : CoreId) (s : State) : Host.Outcome State Fault Refusal :=
  s.act k.ch fun m ch => if ch.life == .up && ch.mayLeave k.w && ch.maySend m k.w then ch.drainOne m k.w else ch

/-! Far accesses (R67). -/

/-- Bytes of SZ, its encoding, and whether it names a v register (R67). -/
def farBytes : FarSize → Nat | .byte => 1 | .half => 2 | .word => 4 | .dword => 8 | .quad => 16
def farCode : FarSize → Nat | .byte => 0 | .half => 1 | .word => 2 | .dword => 3 | .quad => 4
/-- The word of LDF or STF: SZ in bits [14:12] of the immediate. -/
def encFar (major : Nat) (p : Bool) (sz : FarSize) (a b : Nat) (off : BitVec 12) : W32 :=
  encI major p a b (BitVec.ofNat 15 (farCode sz * 2 ^ 12 + off.toNat))

/-- Cost of issuing a far access (R115, R243). -/
def Chan.farCost (ch : Chan) (w : Fin 8) (ps : List Part) : Nat := if ch.fixedCore w then ps.length else 1

/-- What comes before the start of a far access (R255): its core's buffered and posted stores to its bytes. -/
def Chan.farReady (m : MantleTable) (ch : Chan) (w : Fin 8) (ps : List Part) : Chan :=
  let mine := fun (e : SbEnt) => ps.any fun p => laps e.part.pa e.part.n p.pa p.n
  let ch := (ch.splitFreeze w ps).drainTo m w mine
  if (ch.core w).posted.any mine then ch.postAll w else ch

/-- The far access of a queue entry: its parts as they are performed (R242, R243). -/
def farOf (write : Bool) (ps : List Part) : FarAcc := ⟨write, ps.flatMap Part.halves, 0, false⟩

/-- LDF: the entry that reads when the access is performed; its core's stores to its bytes come first (R96, R255). -/
def execLdf (k : CoreId) (p : Bool) (sz : FarSize) (rd rs1 : Fin 32) (off : BitVec 12) (s : State) : Host.Outcome State Fault Refusal :=
  s.wick k (encFar 0x1D p sz rd.val rs1.val off) fun m w ch =>
    ch.access m w (ch.rc w 0) accLdf (ch.rg w rs1 + sx off) (farBytes sz) false fun ch ps =>
      ch.longOp m w fun ch =>
        let ch := ch.farReady m w ps
        .next (ch.loqPut m w .ldf (some (sz == .quad)) rd 0#128 0#5 (some (farOf false ps)) 0) (ch.farCost w ps)

/-- STF (R67, R96, R255, R257). -/
def execStf (k : CoreId) (p : Bool) (sz : FarSize) (rs2 rs1 : Fin 32) (off : BitVec 12) (s : State) : Host.Outcome State Fault Refusal :=
  s.wick k (encFar 0x1E p sz rs2.val rs1.val off) fun m w ch =>
    let data : W128 := if sz = .quad then ch.rv w rs2 else (ch.rg w rs2).zeroExtend 128
    ch.access m w (ch.rc w 0) accStf (ch.rg w rs1 + sx off) (farBytes sz) false fun ch ps =>
      ch.longOp m w fun ch =>
        let ch := (ch.farReady m w ps).onCore w fun c => { c with resv := none }
        .next (ch.loqPut m w .stf none 0 data 0#5 (some (farOf true ps)) 0) (ch.farCost w ps)

/-! Waits and the end of long operations (R97 to R103). -/

/-- Whether a later writer has overtaken the result of a pending entry: it has committed by the cycle of issue (R98). -/
def Core.overtaken (c : Core) (e : LoqEnt) : Bool := e.dead.any fun d => decide (d.1 ≤ c.cyc)

/-- Whether a pending entry writes a register (R98, R99). -/
def Core.awaits (c : Core) (v : Bool) (r : Fin 32) : Bool :=
  !(!v && r == 0) && c.loq.toList.any fun e => e.st == .pending && e.file == some v && e.dest == r && !c.overtaken e

/-- Whether a wait is over: nothing it covers is pending. -/
def Core.waitOver (c : Core) : Bool :=
  match c.wait with
  | .lbar => c.loqOrder.isEmpty
  | .waitl v r => !c.awaits v r
  | _ => false

/-- WAITL or LBAR: one cycle when there is nothing to wait for, else the hold (R99). Beside a slot A it is a pair that splits (R61). -/
def Chan.holdAt (m : MantleTable) (ch : Chan) (w : Fin 8) (p : Bool) (x : Wait) : Res :=
  let c := { ch.core w with wait := x }
  if c.waitOver then .next ch 1 else .ctl ((((ch.splitPair m w).meltAll m w).onCore w fun c => { c with wait := x, waitP := p }).episodeOn m w 0x11)

/-- The word of a WAITL or LBAR that holds issue. -/
def Wait.word (p : Bool) : Wait → W32
  | .waitl false r => encR 0x21 p 0 r.val 0 0 7
  | .waitl true r => encR 0x21 p 0 r.val 0 0 8
  | _ => encR 0x21 p 0 0 0 0 6

/-- n bubbles while WAITL or LBAR holds issue (R90, R99). -/
def Chan.heldFor (m : MantleTable) (ch : Chan) (w : Fin 8) (n : Nat) : Chan :=
  if n = 0 then ch else ((ch.episodeRun m w 0x11 n).elapse m w n).windowTick w n

/-- A wait that is over and meets no fault ends: the instruction commits, and the next issues in the cycle after the last awaited
completion (R99, R115). -/
def Chan.endWait (m : MantleTable) (ch : Chan) (w : Fin 8) : Chan :=
  let c := ch.core w
  if !c.waitOver || c.dueFault.isSome then ch else
  ((ch.onCore w fun c => { c with wait := .none }).commit m w c (c.wait.word c.waitP) (c.pc + 4#64) 1 false false).endStep m w

/-- Whether an older operation of the same unit is still pending: it completes first (R97). -/
def Core.unitBusy (c : Core) (e : LoqEnt) : Bool :=
  e.op.unit != 0 && c.loq.toList.any fun x => x.st == .pending && x.op.unit == e.op.unit && decide (x.seq < e.seq)

/-- The time that passes on a core that waits until an entry completes; a core that issues has passed its own (R97, R99). -/
def Chan.awaitEnt (m : MantleTable) (ch : Chan) (w : Fin 8) (i : Fin 32) : Chan :=
  if (ch.core w).wait = .none then ch else ch.heldFor m w (ch.doneAt w i - (ch.core w).cyc)

/-- A pending long operation completes (R97, R98, R100), and with it the wait it was the last to hold; not before its first cycle (R97), and no
far access that cannot be performed yet (R258, R296). -/
def execLongOperationComplete (k : CoreId) (e : Fin 32) (s : State) : Host.Outcome State Fault Refusal :=
  s.act k.ch fun m ch =>
    let c := ch.core k.w
    let x := c.loq[e]
    if ch.life != .up || x.st != .pending || c.unitBusy x || (x.op == .crcb && c.elem.isSome) || (c.wait == .none && decide (c.cyc < (c.window x).1))
        || !ch.farFree k.w e then ch
    else ((ch.awaitEnt m k.w e).complete m k.w e).endWait m k.w

/-- A recorded fault is delivered (R101 to R103); a window does not hold it (R216). -/
def execLongOperationFault (k : CoreId) (s : State) : Host.Outcome State Fault Refusal :=
  s.act k.ch fun m ch =>
    if ch.atBoundary k.w && (ch.core k.w).dueFault.isSome then (ch.settle m k.w).1.deliverLof m k.w else ch

/-- A far access to the HDM window exceeds MCX_FARTMO: CAUSE 3; the expander may still perform an STF (R100, R300). -/
def execFarTimeout (k : CoreId) (e : Fin 32) (s : State) : Host.Outcome State Fault Refusal :=
  s.act k.ch fun m ch =>
    let x := (ch.core k.w).loq[e]
    let far : Bool := match x.far with | some f => (f.parts.any fun p => decide (hdmBase ≤ p.pa)) && (f.write || !f.over) | none => false
    if ch.life != .up || x.st != .pending || !far then ch else
    let ch := ch.awaitEnt m k.w e
    let ch := if x.op = .stf ∧ ch.pick 630 2 = 1 then ch.farDo m k.w e else ch
    (((ch.farGone k.w e).event m k.w 0x14).loqSet k.w e { (ch.core k.w).loq[e] with st := .faulted, cause := 3 }).endWait m k.w

/-! LL, SC, AMO (R68, R256 to R260). -/

/-- Bytes of the size bit fn[4]. -/
def wide (d : Bool) : Nat := if d then 8 else 4

/-- A value of the size, as g[rd] receives it: 32-bit forms sign-extend (R68). -/
def sized (d : Bool) (x : W64) : W64 := if d then x else sx32 x

/-- LL: the load, the reservation and the hold, whose 256 cycles follow the freezes before its data arrives (R256, R258; log 57). -/
def execLl (k : CoreId) (p d : Bool) (rd rs1 : Fin 32) (s : State) : Host.Outcome State Fault Refusal :=
  s.wick k (encR 0x20 p rd.val rs1.val 0 0 (16 * b2n d)) fun m w ch =>
    ch.access m w (ch.rc w 0) accLL (ch.rg w rs1) (wide d) false fun ch ps =>
      let va := ch.rg w rs1
      let cost := ch.loadCost w ps
      let missed := ch.l1dMisses w ps
      match ch.loadParts m w true ps 0 with
      | (ch, _, some _, _) => ch.fail w ⟨5, daPoison, va⟩
      | (ch, b, none, _) =>
        let line := ((ps.map fun p => p.pa).headD 0) / 64
        let ch := ch.trainPrefetch m w missed
        .next ((ch.wg w rd 3 (sized d (zext b))).onCore w fun c => { c with resv := some line, hold := some ⟨line, 0, 256 + (c.ices.map (·.n)).sum⟩ }) cost

/-- SC (R256, R257). -/
def execSc (k : CoreId) (p d : Bool) (rd rs1 rs2 : Fin 32) (s : State) : Host.Outcome State Fault Refusal :=
  s.wick k (encR 0x20 p rd.val rs1.val rs2.val 0 (1 + 16 * b2n d)) fun m w ch =>
    let data := ch.rg w rs2
    ch.access m w (ch.rc w 0) accSC (ch.rg w rs1) (wide d) false fun ch ps =>
      match ps with
      | [] => .next ch 1
      | pt :: _ =>
        let cost := ch.atomCost w (pt.pa / 64)
        match ch.scDo m w pt data with
        | (ch, _, true) => ch.fail w ⟨5, daPoison, ch.rg w rs1⟩
        | (ch, ok, false) => (if ok then ch else ch.event m w 0x15).atomRes w rd (b2w !ok) cost

/-- An AMO: the old value into g[rd] (R68, R259, R260). -/
def Chan.amo (m : MantleTable) (ch : Chan) (w : Fin 8) (op : AmoOp) (d : Bool) (rd rs1 : Fin 32) (src cmp : W64) : Res :=
  let va := ch.rg w rs1
  ch.access m w (ch.rc w 0) accAmo va (wide d) false fun ch ps =>
    match ps with
    | [] => .next ch 1
    | pt :: _ =>
      let cost := ch.atomCost w (pt.pa / 64)
      match ch.amoDo m w pt op src cmp with
      | (ch, _, true) => ch.fail w ⟨5, daPoison, va⟩
      | (ch, old, false) => ch.atomRes w rd (sized d old) cost

/-- ATSWP (R68). -/
def execAtswp (k : CoreId) (p d : Bool) (rd rs1 rs2 : Fin 32) (s : State) : Host.Outcome State Fault Refusal :=
  s.wick k (encR 0x20 p rd.val rs1.val rs2.val 0 (2 + 16 * b2n d)) fun m w ch => ch.amo m w .swp d rd rs1 (ch.rg w rs2) 0#64

/-- ATADD (R68). -/
def execAtadd (k : CoreId) (p d : Bool) (rd rs1 rs2 : Fin 32) (s : State) : Host.Outcome State Fault Refusal :=
  s.wick k (encR 0x20 p rd.val rs1.val rs2.val 0 (3 + 16 * b2n d)) fun m w ch => ch.amo m w .add d rd rs1 (ch.rg w rs2) 0#64

/-- ATAND (R68). -/
def execAtand (k : CoreId) (p d : Bool) (rd rs1 rs2 : Fin 32) (s : State) : Host.Outcome State Fault Refusal :=
  s.wick k (encR 0x20 p rd.val rs1.val rs2.val 0 (4 + 16 * b2n d)) fun m w ch => ch.amo m w .and d rd rs1 (ch.rg w rs2) 0#64

/-- ATOR (R68). -/
def execAtor (k : CoreId) (p d : Bool) (rd rs1 rs2 : Fin 32) (s : State) : Host.Outcome State Fault Refusal :=
  s.wick k (encR 0x20 p rd.val rs1.val rs2.val 0 (5 + 16 * b2n d)) fun m w ch => ch.amo m w .or d rd rs1 (ch.rg w rs2) 0#64

/-- ATMIN (R68). -/
def execAtmin (k : CoreId) (p d : Bool) (rd rs1 rs2 : Fin 32) (s : State) : Host.Outcome State Fault Refusal :=
  s.wick k (encR 0x20 p rd.val rs1.val rs2.val 0 (6 + 16 * b2n d)) fun m w ch => ch.amo m w .min d rd rs1 (ch.rg w rs2) 0#64

/-- ATMAX (R68). -/
def execAtmax (k : CoreId) (p d : Bool) (rd rs1 rs2 : Fin 32) (s : State) : Host.Outcome State Fault Refusal :=
  s.wick k (encR 0x20 p rd.val rs1.val rs2.val 0 (7 + 16 * b2n d)) fun m w ch => ch.amo m w .max d rd rs1 (ch.rg w rs2) 0#64

/-- ATCAS (R68). -/
def execAtcas (k : CoreId) (p d : Bool) (rd rs1 rs2 rs3 : Fin 32) (s : State) : Host.Outcome State Fault Refusal :=
  s.wick k (encR 0x20 p rd.val rs1.val rs2.val rs3.val (8 + 16 * b2n d)) fun m w ch =>
    ch.amo m w .cas d rd rs1 (ch.rg w rs2) (ch.rg w rs3)

/-- A hold reaches 256 cycles: what is left of them passes, and the reservation goes with it (R257, R258). -/
def execLlHoldLimit (k : CoreId) (s : State) : Host.Outcome State Fault Refusal :=
  s.act k.ch fun m ch => if (ch.core k.w).hold.isSome then ch.outlast m k.w else ch

/-! Barriers and waits (R69, R99, R112 to R114, R252, R253). -/

/-- Every store has left the buffer and every posted store is performed (R252). -/
def Chan.fenceAll (m : MantleTable) (ch : Chan) (w : Fin 8) : Chan := (ch.drainAll m w).postAll w

/-- Cost of a FENCE form that drains the whole buffer (R115, R252). -/
def Chan.fenceCost (ch : Chan) (w : Fin 8) : Nat := let c := ch.core w; if ch.fixedCore w then 1 + c.drainCost c.sb.length else 1

/-- FENCE, and every form where costs are fixed (R253). -/
def Chan.fence (m : MantleTable) (ch : Chan) (w : Fin 8) : Res := .next (ch.fenceAll m w) (ch.fenceCost w)

/-- FENCE. -/
def execFence (k : CoreId) (p : Bool) (s : State) : Host.Outcome State Fault Refusal :=
  s.wick k (encR 0x21 p 0 0 0 0 0) fun m w ch => ch.fence m w

/-- FENCE.SL: every store has left the buffer. -/
def execFenceSl (k : CoreId) (p : Bool) (s : State) : Host.Outcome State Fault Refusal :=
  s.wick k (encR 0x21 p 0 0 0 0 1) fun m w ch => if ch.fixedCore w then ch.fence m w else .next (ch.drainAll m w) 1

/-- FENCE.SS: issue is not held; a younger store leaves the buffer only after every older one is performed. -/
def execFenceSs (k : CoreId) (p : Bool) (s : State) : Host.Outcome State Fault Refusal :=
  s.wick k (encR 0x21 p 0 0 0 0 2) fun m w ch =>
    if ch.fixedCore w then ch.fence m w else .next (ch.onCore w fun c => { c with sb := c.sb ++ [ssMark] }) 1

/-- FENCE.LL: every store from which a load was forwarded has left the buffer. -/
def execFenceLl (k : CoreId) (p : Bool) (s : State) : Host.Outcome State Fault Refusal :=
  s.wick k (encR 0x21 p 0 0 0 0 3) fun m w ch => if ch.fixedCore w then ch.fence m w else .next (ch.drainTo m w fun e => e.fwd) 1

/-- IFENCE: what follows is fetched again (R113). -/
def execIfence (k : CoreId) (p : Bool) (s : State) : Host.Outcome State Fault Refusal :=
  s.wick k (encR 0x21 p 0 0 0 0 4) fun _ w ch => .next (ch.onCore w fun c => { c with fetched := [] }) 8

/-- ICINV: the line at g[rs1], translated without a permission (log 21), leaves the L1I of every core (R114). -/
def execIcinv (k : CoreId) (p : Bool) (rs1 : Fin 32) (s : State) : Host.Outcome State Fault Refusal :=
  s.wick k (encR 0x21 p 0 rs1.val 0 0 5) fun m w ch =>
    match ch.translate m w (ch.rg w rs1).toNat false false with
    | (ch, .error _) => .next ch (if ch.fixedCore w then 6 else 1 + ch.pick 631 40)
    | (ch, .ok (pa, _, _)) =>
      let line := pa / 64
      let c := ch.core w
      let wait := c.drainCost (c.upTo fun e => e.part.pa / 64 == line)
      let ch := ch.drainTo m w fun e => e.part.pa / 64 == line
      .next { ch with cores := ch.cores.map fun (c : Core) => { c with l1i := setDel c.l1i line } } (if ch.fixedCore w then 6 + wait else 1 + ch.pick 631 40)

/-- LBAR (R99). -/
def execLbar (k : CoreId) (p : Bool) (s : State) : Host.Outcome State Fault Refusal :=
  s.wick k (encR 0x21 p 0 0 0 0 6) fun m w ch => ch.holdAt m w p .lbar

/-- WAITL g[rs1] (R53, R99). -/
def execWaitlG (k : CoreId) (p : Bool) (rs1 : Fin 32) (s : State) : Host.Outcome State Fault Refusal :=
  s.wick k (encR 0x21 p 0 rs1.val 0 0 7) fun m w ch => ch.holdAt m w p (.waitl false rs1)

/-- WAITL v[rs1] (R99). -/
def execWaitlV (k : CoreId) (p : Bool) (rs1 : Fin 32) (s : State) : Host.Outcome State Fault Refusal :=
  s.wick k (encR 0x21 p 0 rs1.val 0 0 8) fun m w ch => ch.holdAt m w p (.waitl true rs1)

end Sys2Proof.Machine
end

