-- ==== Sys2Proof/Machine/Undef.lean ====
section
/-! DEFINITION. Which instruction words are undefined encodings (R55, R56, R58, R64 to R79, R83, R86, R87). -/

namespace Sys2Proof.Machine

/-- Fields an operation leaves unused must be 0 (R87). -/
def zeros (l : List Nat) : Bool := l.all (· == 0)

/-- Register fields of a block-repeat instruction: distinct, none g0 (R78). -/
def repeatRegs (l : List Nat) : Bool := l.all (· != 0) && decide l.Nodup

/-- Whether a word of a listed major is defined; page 0x3F by the claimed opcodes and their DISTINCT bits (R86, R186). -/
def definedWord (u : Ucode) (x : W32) : Bool :=
  let rd := rdOf x; let a := rs1Of x; let b := rs2Of x; let c := rs3Of x; let fn := fnOf x
  match majorOf x with
  | 0x00 => fn ≤ 23 && c == 0 && (!(16 ≤ fn && fn ≤ 22) || b == 0)
  | 0x01 | 0x02 | 0x03 | 0x04 | 0x06 | 0x07 | 0x08 | 0x09 => true
  | 0x05 => x.toNat / 2 ^ 12 % 8 ≤ 3 && x.toNat / 2 ^ 6 % 64 == 0
  | 0x0A => x.toNat / 2 ^ 16 % 16 == 0
  | 0x0C => (fn ≤ 5 || (8 ≤ fn && fn ≤ 15)) && (fn == 5 || c == 0)
  | 0x0D => fn ≤ 9 && c == 0
  | 0x10 | 0x11 | 0x12 | 0x13 | 0x14 | 0x15 | 0x16 | 0x17 | 0x18 | 0x19 | 0x1A | 0x1B | 0x1C => true
  | 0x1D | 0x1E => x.toNat / 2 ^ 12 % 8 ≤ 4
  | 0x20 => fn % 16 ≤ 8 && (fn % 16 == 8 || c == 0) && (fn % 16 != 0 || b == 0)
  | 0x21 => fn ≤ 8 && zeros [rd, b, c] && (fn == 5 || fn == 7 || fn == 8 || a == 0)
  | 0x24 | 0x25 | 0x26 | 0x27 | 0x28 | 0x29 | 0x2A | 0x2B => true
  | 0x2C => c == 0 && (!([4, 8, 9, 10, 11, 12].contains (fn % 16)) || b == 0)
  | 0x2D => fn / 4 % 4 == 0
  | 0x2E => c == 0
  | 0x2F => fn ≤ 1 || (fn == 2 && c == 0) || (fn == 3 && zeros [b, c]) || (fn == 4 && b ≤ 3 && c == 0)
  | 0x30 => (match fn with
    | 0 | 10 => rd < 16 && a < 16 && zeros [b, c]
    | 1 | 2 | 3 | 4 | 5 => a < 16 && zeros [b, c]
    | 6 => rd < 16 && a < 16
    | 7 | 8 | 9 | 11 => rd < 16 && a < 16 && c == 0
    | 12 => rd < 16 && zeros [a, b, c]
    | 13 => a < 16 && b < 16 && c == 0
    | _ => false)
  | 0x31 | 0x32 => rd < 16
  | 0x33 => (match fn with
    | 0 | 1 | 6 | 7 => zeros [rd, a, b, c]
    | 2 => a ≤ 7 && zeros [b, c]
    | 3 => rd ≤ 5 && zeros [b, c]
    | 4 => rd < 16 && a < 16
    | 5 => zeros [rd, c]
    | _ => false)
  | 0x34 => fn ≤ 3 && c == 0
  | 0x35 => (fn ≤ 3 && c == 0 && repeatRegs [rd, a, b]) || (fn == 4 && repeatRegs [rd, a, b, c])
  | 0x36 => x.toNat % 16 == 1 || (x.toNat % 16 == 0 && b == 0)
  | 0x3F => u.claim.getLsbD (x.toNat % 64) && (!(nth 0#16 u.entry (x.toNat % 64)).getLsbD 13 || repeatRegs [rd, a, b])
  | _ => false

end Sys2Proof.Machine
end

