-- ==== Sys2Proof/Machine/Block.lean ====
section
/-! DEFINITION. The block-repeat instructions, one element to a command (R78 to R81, R94, R115, R243, R245, R281, R424). While the
count is not 0 the PC stays on the instruction, and the next command of that instruction runs the next element. -/

namespace Sys2Proof.Machine

/-- The naturally aligned 16-byte units of n bytes at a physical address (R245). -/
def unitsOf (pa : Nat) (attr : Attr) : Nat → Nat → List Part
  | _, 0 => []
  | n, fuel + 1 => if n = 0 then [] else
    let k := min n (16 - pa % 16)
    ⟨pa, k, attr⟩ :: unitsOf (pa + k) attr (n - k) fuel

/-- Adjoining parts of one attribute taken together: how an access was checked is not how it enters the buffer (R245). -/
def joinParts : List Part → List Part
  | [] => []
  | p :: ps => match joinParts ps with
    | q :: qs => if p.pa + p.n = q.pa ∧ p.attr = q.attr then ⟨p.pa, p.n + q.n, p.attr⟩ :: qs else p :: q :: qs
    | [] => [p]

/-- The parts of an element in units. -/
def elemUnits (ps : List Part) : List Part := ps.flatMap fun p => unitsOf p.pa p.attr p.n 6

/-- The store-buffer entries of an element; the last of one that writes a whole line removes its
poison (R281). -/
def elemEnts (ps : List Part) (bytes : List Byte) (mantle : BitVec 12) : List SbEnt :=
  let whole : Bool := match ps with | [p] => p.n == 64 && p.pa % 64 == 0 | _ => false
  ((elemUnits ps).foldl (fun (x : List SbEnt × List Byte) p =>
    (x.1 ++ [⟨p, BitVec.ofNat 128 (leNat (x.2.take p.n)), false, false, whole && p.pa % 64 == 48, mantle, 0, 0⟩], x.2.drop p.n)) ([], bytes)).1

/-- The end of an element of n cycles: the registers have advanced. With `fin` the instruction ends. -/
def Chan.elemDone (m : MantleTable) (ch : Chan) (w : Fin 8) (word : W32) (n : Nat) (fin : Bool) : Res :=
  let c := ch.core w
  let n := n + (if c.elem.isSome then 0 else 1)
  if fin then .next (ch.setCore w { c with elem := none }) n else .ctl (ch.pause m w word n)

/-- Bytes of the next element (R78). -/
def elemSize (count : W64) : Nat := min 64 count.toNat

/-- A block-repeat instruction: the undefined encodings of R78, a count of 0, else one element of k bytes by `f` (R94). -/
def Chan.blockRepeat (m : MantleTable) (ch : Chan) (w : Fin 8) (word : W32) (regs : List Nat) (cnt : Fin 32) (f : Chan → Nat → Res) : Res :=
  if !repeatRegs regs then ch.fail w ⟨2, 0, 0#64⟩ else
  let ch := if (ch.core w).elem.isSome then ch else (ch.drain94 m w 7).onCore w fun c => { c with pend := [] }
  if ch.rg w cnt = 0#64 then ch.elemDone m w word 0 true else f ch (elemSize (ch.rg w cnt))

/-- An address register advanced, the count reduced (R78): the instruction itself reads both at once. -/
def Chan.advance (ch : Chan) (w : Fin 8) (r : Fin 32) (k : Nat) : Chan := ch.wg w r 0 (ch.rg w r + BitVec.ofNat 64 k)
def Chan.reduce (ch : Chan) (w : Fin 8) (r : Fin 32) (k : Nat) : Chan := ch.wg w r 0 (ch.rg w r - BitVec.ofNat 64 k)

/-- ⌈a / b⌉. -/
def cdiv (a b : Nat) : Nat := (a + b - 1) / b

/-- The bytes of an element read under c0. -/
def Chan.elemRead (m : MantleTable) (ch : Chan) (w : Fin 8) (va : W64) (ps : List Part) (f : Chan → List Byte → Res) : Res :=
  let missed := (ch.l1dMisses w ps).take 1
  match ch.loadParts m w false (elemUnits ps) 0 with
  | (ch, _, some off, _) => ch.fail w ⟨5, daPoison, va + BitVec.ofNat 64 off⟩
  | (ch, b, none, _) => f (ch.trainPrefetch m w missed) b

/-- MOVB: both checks come before any access; all bytes are read before any is written (R79, R80). -/
def execMovb (k : CoreId) (p : Bool) (rd rs1 rs2 : Fin 32) (s : State) : Host.Outcome State Fault Refusal :=
  let word := encR 0x35 p rd.val rs1.val rs2.val 0 0
  s.wick k word fun m w ch =>
    ch.blockRepeat m w word [rd.val, rs1.val, rs2.val] rs2 fun ch n =>
      let src := ch.rg w rs1
      ch.access m w (ch.rc w 0) accLoad src n true fun ch ps =>
        ch.access m w (ch.rc w 0) accStore (ch.rg w rd) n true fun ch qs =>
          ch.elemRead m w src ps fun ch b =>
            let ch := ch.enter m w (elemEnts qs b (ch.core w).pcc.mantle)
            let ch := ((ch.advance w rd n).advance w rs1 n).reduce w rs2 n
            ch.elemDone m w word (2 + 2 * cdiv n 16) (ch.rg w rs2 == 0#64)

/-- FILLB (R79). -/
def execFillb (k : CoreId) (p : Bool) (rd rs1 rs2 : Fin 32) (s : State) : Host.Outcome State Fault Refusal :=
  let word := encR 0x35 p rd.val rs1.val rs2.val 0 1
  s.wick k word fun m w ch =>
    ch.blockRepeat m w word [rd.val, rs1.val, rs2.val] rs2 fun ch n =>
      let va := ch.rg w rd
      ch.access m w (ch.rc w 0) accStore va n true fun ch qs =>
        let pat := ch.rg w rs1
        let bytes := (List.range n).map fun i => byteOf pat ((va.toNat + i) % 8)
        let ch := ch.enter m w (elemEnts qs bytes (ch.core w).pcc.mantle)
        let ch := (ch.advance w rd n).reduce w rs2 n
        ch.elemDone m w word (2 + cdiv n 16) (ch.rg w rs2 == 0#64)

/-- CMPB: stops at the first byte that differs (R79); the element costs in full (R115). -/
def execCmpb (k : CoreId) (p : Bool) (rd rs1 rs2 : Fin 32) (s : State) : Host.Outcome State Fault Refusal :=
  let word := encR 0x35 p rd.val rs1.val rs2.val 0 2
  s.wick k word fun m w ch =>
    ch.blockRepeat m w word [rd.val, rs1.val, rs2.val] rs2 fun ch n =>
      let va := ch.rg w rd
      let vb := ch.rg w rs1
      ch.access m w (ch.rc w 0) accLoad va n true fun ch ps =>
        ch.access m w (ch.rc w 0) accLoad vb n true fun ch qs =>
          ch.elemRead m w va ps fun ch a => ch.elemRead m w vb qs fun ch b =>
            let same := ((a.zip b).takeWhile fun x => x.1 == x.2).length
            let ch := ((ch.advance w rd same).advance w rs1 same).reduce w rs2 same
            ch.elemDone m w word (2 + 2 * cdiv n 16) (same < n || ch.rg w rs2 == 0#64)

/-- SCANB: stops at the first byte equal to the value (R79). -/
def execScanb (k : CoreId) (p : Bool) (rd rs1 rs2 : Fin 32) (s : State) : Host.Outcome State Fault Refusal :=
  let word := encR 0x35 p rd.val rs1.val rs2.val 0 3
  s.wick k word fun m w ch =>
    ch.blockRepeat m w word [rd.val, rs1.val, rs2.val] rs2 fun ch n =>
      let va := ch.rg w rd
      ch.access m w (ch.rc w 0) accLoad va n true fun ch ps =>
        ch.elemRead m w va ps fun ch b =>
          let x : Byte := (ch.rg w rs1).truncate 8
          let skip := (b.takeWhile fun y => y != x).length
          let ch := (ch.advance w rd skip).reduce w rs2 skip
          ch.elemDone m w word (2 + cdiv n 16) (skip < n || ch.rg w rs2 == 0#64)

/-- The newest pending CRCB accumulator of the instruction at PC. -/
def Core.crcbNew (c : Core) : Option (Fin 32) :=
  (c.loqOrder.filter fun i => (c.loq[i]).op == .crcb && (c.loq[i]).pc == c.pc).getLast?

/-- The CRCB accumulator still in the queue from the elements before (R81). -/
def Core.crcbEnt (c : Core) : Option (Fin 32) := if c.elem.isSome then c.crcbNew else none

/-- CRCB: the accumulator goes through the long-operation queue (R79, R81). -/
def execCrcb (k : CoreId) (p : Bool) (rd rs1 rs2 rs3 : Fin 32) (s : State) : Host.Outcome State Fault Refusal :=
  let word := encR 0x35 p rd.val rs1.val rs2.val rs3.val 4
  s.wick k word fun m w ch =>
    ch.blockRepeat m w word [rd.val, rs1.val, rs2.val, rs3.val] rs2 fun ch n =>
      let va := ch.rg w rs1
      ch.access m w (ch.rc w 0) accLoad va n true fun ch ps =>
        ch.elemRead m w va ps fun ch b =>
          let cfg := ch.rg w rs3
          let fin := fun (ch : Chan) =>
            let cost := 2 + cdiv n 8
            let c := ch.core w
            let t := c.cyc + cost + (if c.elem.isSome then 0 else 1)
            let ch := match c.crcbNew with
              | some i => ch.loqSet w i { c.loq[i] with start := t, lo := 4, hi := some 4 }
              | none => ch
            let ch := (ch.advance w rs1 n).reduce w rs2 n
            ch.elemDone m w word cost (ch.rg w rs2 == 0#64)
          match (ch.core w).crcbEnt with
          | some i =>
            let e := (ch.core w).loq[i]
            fin (ch.loqSet w i { e with value := (crcRun cfg (e.value.truncate 64) b).zeroExtend 128 })
          | none =>
            let acc := crcRun cfg (ch.rg w rd) b
            ch.longOp m w fun ch => fin (ch.loqPut m w .crcb (some false) rd (acc.zeroExtend 128) 0#5 none 4)

end Sys2Proof.Machine
end

