-- ==== Sys2Proof/Machine/Branch.lean ====
section
/-! DEFINITION. Branches and jumps (R57, R58, R70, R105). -/

namespace Sys2Proof.Machine

/-- A conditional branch (R70). -/
def Chan.branch (ch : Chan) (w : Fin 8) (off : BitVec 15) (taken : Bool) : Res :=
  let pc := (ch.core w).pc
  .go ch (if taken then pc + offB off else pc + 4#64) false (.cond taken)

/-- BEQ (R70). -/
def execBeq (k : CoreId) (p : Bool) (rs1 rs2 : Fin 32) (off : BitVec 15) (s : State) : Host.Outcome State Fault Refusal :=
  s.wick k (encI 0x24 p rs1.val rs2.val off) fun _ w ch => ch.branch w off (ch.rg w rs1 == ch.rg w rs2)

/-- BNE (R70). -/
def execBne (k : CoreId) (p : Bool) (rs1 rs2 : Fin 32) (off : BitVec 15) (s : State) : Host.Outcome State Fault Refusal :=
  s.wick k (encI 0x25 p rs1.val rs2.val off) fun _ w ch => ch.branch w off (ch.rg w rs1 != ch.rg w rs2)

/-- BLT (R70). -/
def execBlt (k : CoreId) (p : Bool) (rs1 rs2 : Fin 32) (off : BitVec 15) (s : State) : Host.Outcome State Fault Refusal :=
  s.wick k (encI 0x26 p rs1.val rs2.val off) fun _ w ch => ch.branch w off ((ch.rg w rs1).slt (ch.rg w rs2))

/-- BGE (R70). -/
def execBge (k : CoreId) (p : Bool) (rs1 rs2 : Fin 32) (off : BitVec 15) (s : State) : Host.Outcome State Fault Refusal :=
  s.wick k (encI 0x27 p rs1.val rs2.val off) fun _ w ch => ch.branch w off (!(ch.rg w rs1).slt (ch.rg w rs2))

/-- BLO (R70). -/
def execBlo (k : CoreId) (p : Bool) (rs1 rs2 : Fin 32) (off : BitVec 15) (s : State) : Host.Outcome State Fault Refusal :=
  s.wick k (encI 0x28 p rs1.val rs2.val off) fun _ w ch => ch.branch w off ((ch.rg w rs1).ult (ch.rg w rs2))

/-- BHS (R70). -/
def execBhs (k : CoreId) (p : Bool) (rs1 rs2 : Fin 32) (off : BitVec 15) (s : State) : Host.Outcome State Fault Refusal :=
  s.wick k (encI 0x29 p rs1.val rs2.val off) fun _ w ch => ch.branch w off (!(ch.rg w rs1).ult (ch.rg w rs2))

/-- JL (R58). -/
def execJl (k : CoreId) (p : Bool) (rd : Fin 32) (off : BitVec 20) (s : State) : Host.Outcome State Fault Refusal :=
  s.wick k (encU 0x2A p rd.val off) fun _ w ch =>
    let pc := (ch.core w).pc
    .go (ch.wg w rd 1 (pc + 4#64)) (pc + offJ off) (rd == 31) .jl

/-- JLR (R58). -/
def execJlr (k : CoreId) (p : Bool) (rd rs1 : Fin 32) (imm : BitVec 15) (s : State) : Host.Outcome State Fault Refusal :=
  s.wick k (encI 0x2B p rd.val rs1.val imm) fun _ w ch =>
    let pc := (ch.core w).pc
    let target := align4 (ch.rg w rs1 + sx imm)
    .go (ch.wg w rd 1 (pc + 4#64)) target (rd == 31) (.jlr (rs1 == 31 && rd == 0))

end Sys2Proof.Machine
end

