-- ==== Sys2Proof/Machine/Cap.lean ====
section
/-! DEFINITION. Capability instructions (R74, R195 to R199). -/

namespace Sys2Proof.Machine

/-- A Taper into c[rd], distance 2 (R91). -/
def Chan.capTo (ch : Chan) (w : Fin 8) (cd : Fin 16) (t : Taper) : Res := .next (ch.wc w cd 2 t) 1

/-- A Capability Fault of an operation on a Taper (R199). -/
def Chan.capFault (ch : Chan) (w : Fin 8) (reason : Nat) : Res := ch.fail w ⟨4, reason, 0#64⟩

/-- A field of a Taper into g[rd], distance 2. -/
def Chan.capField (ch : Chan) (w : Fin 8) (rd : Fin 32) (x : Nat) : Res := .next (ch.wg w rd 2 (BitVec.ofNat 64 x)) 1

/-- TMOV. -/
def execTmov (k : CoreId) (p : Bool) (cd cs : Fin 16) (s : State) : Host.Outcome State Fault Refusal :=
  s.wick k (encR 0x30 p cd.val cs.val 0 0 0) fun _ w ch => ch.capTo w cd (ch.rc w cs)

/-- TBASE. -/
def execTbase (k : CoreId) (p : Bool) (rd : Fin 32) (cs : Fin 16) (s : State) : Host.Outcome State Fault Refusal :=
  s.wick k (encR 0x30 p rd.val cs.val 0 0 1) fun _ w ch => ch.capField w rd (ch.rc w cs).base

/-- TLEN. -/
def execTlen (k : CoreId) (p : Bool) (rd : Fin 32) (cs : Fin 16) (s : State) : Host.Outcome State Fault Refusal :=
  s.wick k (encR 0x30 p rd.val cs.val 0 0 2) fun _ w ch => ch.capField w rd (ch.rc w cs).len

/-- TPERM. -/
def execTperm (k : CoreId) (p : Bool) (rd : Fin 32) (cs : Fin 16) (s : State) : Host.Outcome State Fault Refusal :=
  s.wick k (encR 0x30 p rd.val cs.val 0 0 3) fun _ w ch => ch.capField w rd (ch.rc w cs).perm.toNat

/-- TTAG. -/
def execTtag (k : CoreId) (p : Bool) (rd : Fin 32) (cs : Fin 16) (s : State) : Host.Outcome State Fault Refusal :=
  s.wick k (encR 0x30 p rd.val cs.val 0 0 4) fun _ w ch => ch.capField w rd (b2n (ch.rc w cs).tag)

/-- TOWNER. -/
def execTowner (k : CoreId) (p : Bool) (rd : Fin 32) (cs : Fin 16) (s : State) : Host.Outcome State Fault Refusal :=
  s.wick k (encR 0x30 p rd.val cs.val 0 0 5) fun _ w ch => ch.capField w rd (ch.rc w cs).mantle.toNat

/-- TNARROW: an untagged source gives an untagged result with no fault (R74). -/
def execTnarrow (k : CoreId) (p : Bool) (cd cs : Fin 16) (rs2 rs3 : Fin 32) (s : State) : Host.Outcome State Fault Refusal :=
  s.wick k (encR 0x30 p cd.val cs.val rs2.val rs3.val 6) fun _ w ch =>
    let t := ch.rc w cs
    let base := (ch.rg w rs2).toNat
    let len := (ch.rg w rs3).toNat
    if !t.tag then ch.capTo w cd (t.withRange base len)
    else if t.latch ≠ 0 then ch.capFault w 2
    else if t.base ≤ base ∧ base + len ≤ t.base + t.len then ch.capTo w cd (t.withRange base len)
    else ch.capFault w 6

/-- TTRIM. -/
def execTtrim (k : CoreId) (p : Bool) (cd cs : Fin 16) (rs2 : Fin 32) (s : State) : Host.Outcome State Fault Refusal :=
  s.wick k (encR 0x30 p cd.val cs.val rs2.val 0 7) fun _ w ch =>
    let t := ch.rc w cs
    if t.tag && t.latch != 0 then ch.capFault w 2
    else ch.capTo w cd (t.withPerm (t.perm &&& ~~~((ch.rg w rs2).truncate 12)))

/-- TSHUT (R199). -/
def execTshut (k : CoreId) (p : Bool) (cd cs : Fin 16) (rs2 : Fin 32) (s : State) : Host.Outcome State Fault Refusal :=
  s.wick k (encR 0x30 p cd.val cs.val rs2.val 0 8) fun m w ch =>
    let t := ch.rc w cs
    let l := (ch.rg w rs2).toNat % 256
    if !t.tag then ch.capFault w 1
    else if !inParty m t.mantle (ch.core w).pcc.mantle then ch.capFault w 3
    else if !t.has 7 then ch.capFault w 5
    else if t.latch ≠ 0 then ch.capFault w 2
    else if l = 0 ∨ 0xFD < l then ch.capFault w 7
    else ch.capTo w cd (t.withLatch l)

/-- TOPEN (R199). -/
def execTopen (k : CoreId) (p : Bool) (cd cs : Fin 16) (rs2 : Fin 32) (s : State) : Host.Outcome State Fault Refusal :=
  s.wick k (encR 0x30 p cd.val cs.val rs2.val 0 9) fun m w ch =>
    let t := ch.rc w cs
    let l := (ch.rg w rs2).toNat % 256
    if !t.tag then ch.capFault w 1
    else if !inParty m t.mantle (ch.core w).pcc.mantle then ch.capFault w 3
    else if t.latch ≠ l ∨ l = 0 ∨ l = 0xFF then ch.capFault w 7
    else ch.capTo w cd (t.withLatch 0)

/-- TVOID. -/
def execTvoid (k : CoreId) (p : Bool) (cd cs : Fin 16) (s : State) : Host.Outcome State Fault Refusal :=
  s.wick k (encR 0x30 p cd.val cs.val 0 0 10) fun _ w ch => ch.capTo w cd (ch.rc w cs).untag

/-- What TJUMP transfers to (R74, R199): the new PCC with its target, and the latch the old PCC gets, or the reason of a fault. -/
def jumpTo (m : MantleTable) (pm : BitVec 12) (t : Taper) (x : W64) : Except Nat (Taper × W64 × Option Nat) :=
  if !t.tag then .error 1
  else if t.latch ≠ 0 then
    if !t.has 2 then .error 5
    else if !t.has 8 && t.latch != 0xFE then .error 5
    else if t.latch = 0xFF then .error 7
    else if x ≠ 0#64 then .error 4
    else .ok (t.withLatch 0, align4 (BitVec.ofNat 64 t.base), some 0xFE)
  else if !inParty m t.mantle pm then .error 3
  else if !t.has 2 then .error 5
  else .ok (t, align4 (BitVec.ofNat 64 t.base + x), none)

/-- TJUMP (R74, R199). -/
def execTjump (k : CoreId) (p : Bool) (cd cs : Fin 16) (rs2 : Fin 32) (s : State) : Host.Outcome State Fault Refusal :=
  s.wick k (encR 0x30 p cd.val cs.val rs2.val 0 11) fun m w ch =>
    let c := ch.core w
    match jumpTo m c.pcc.mantle (ch.rc w cs) (ch.rg w rs2) with
    | .error r => ch.capFault w r
    | .ok (t, target, latch) =>
      let link := match latch with | some l => c.pcc.withLatch l | none => c.pcc
      let ch := (ch.wc w cd 2 link).wg w 31 2 (c.pc + 4#64)
      .go ((ch.onCore w fun c => { c with pcc := t, fetched := [] }).mantleSwitch m w c.pcc.mantle t.mantle) target true .ind

/-- TPCC. -/
def execTpcc (k : CoreId) (p : Bool) (cd : Fin 16) (s : State) : Host.Outcome State Fault Refusal :=
  s.wick k (encR 0x30 p cd.val 0 0 0 12) fun _ w ch => ch.capTo w cd (ch.core w).pcc

/-- TWITHIN. -/
def execTwithin (k : CoreId) (p : Bool) (rd : Fin 32) (cs1 cs2 : Fin 16) (s : State) : Host.Outcome State Fault Refusal :=
  s.wick k (encR 0x30 p rd.val cs1.val cs2.val 0 13) fun _ w ch =>
    let a := ch.rc w cs1
    let b := ch.rc w cs2
    ch.capField w rd (b2n (b.tag && decide (a.base ≤ b.base) && decide (b.base + b.len ≤ a.base + a.len) && (b.perm &&& ~~~a.perm == 0#12)))

end Sys2Proof.Machine
end

