-- ==== Sys2Proof/Machine/Creg.lean ====
section
/-! DEFINITION. The stores and loads of control registers that have a row of their own, and REGISTER_WRITE (R6 to R10, R200). Such a
row is the store or load, with the access's checks, made at the virtual address equal to its register's physical address; the
store leaves the buffer in the same command, after the older ones, unless its core has fixed costs (log 25). -/

namespace Sys2Proof.Machine

/-- The address of a control register (R31). -/
def ctrlVa (off : Nat) : W64 := BitVec.ofNat 64 (ctrlBase + off)

/-- The way of a control-register store out of the buffer: where the costs are fixed, 12 cycles after its issue or later (R115, R247, R253, R260);
elsewhere within its own command, after the older ones. -/
def Chan.regLeave (m : MantleTable) (ch : Chan) (w : Fin 8) : Chan := if ch.fixedCore w then ch else ch.drainAll m w

/-- A store of n bytes at a control register: its checks, its entry, and its way out of the buffer (R10, R200, R245, R249). -/
def Chan.regStore (m : MantleTable) (ch : Chan) (w : Fin 8) (a : Access) (off n : Nat) (val : W32) : Res :=
  ch.access m w (ch.rc w 0) a (ctrlVa off) n false fun ch ps =>
    let cost := ch.storeCost w ps
    .next ((ch.enter m w (storeEnts ps (val.zeroExtend 128) false (ch.core w).pcc.mantle)).regLeave m w) cost

/-- A 32-bit store at a control register by the instruction `insn` of core k. -/
def State.store32 (s : State) (k : CoreId) (insn : W32) (off : Nat) (val : W32) : Host.Outcome State Fault Refusal :=
  s.wick k insn fun m w ch => ch.regStore m w accStore off 4 val

/-- What a 32-bit load leaves in its register: LWS, major 0x14, extends the sign, LWZ does not (R66). -/
def loaded (insn : W32) (b : List Byte) : W64 := if majorOf insn = 0x14 then sext b else zext b

/-- A 32-bit load of a control register into g[rd] by the instruction `insn` of core k. -/
def State.load32 (s : State) (k : CoreId) (insn : W32) (off : Nat) (rd : Fin 32) : Host.Outcome State Fault Refusal :=
  s.wick k insn fun m w ch => ch.load m w accLoad (ctrlVa off) 4 fun ch b _ => ch.wg w rd 3 (loaded insn b)

/-- Bytes of an access size. -/
def accBytes : AccSize → Nat | .b1 => 1 | .b2 => 2 | .b4 => 4 | .b8 => 8 | .b16 => 16

/-- REGISTER_WRITE: an access of another size raises Data Abort "size", a Taper store "untagged" (R6 to R10). -/
def execRegisterWrite (k : CoreId) (insn : BitVec 32) (off : BitVec 24) (size : AccSize) (cap : Bool) (val : BitVec 32) (s : State) :
    Host.Outcome State Fault Refusal :=
  s.wick k insn fun m w ch => ch.regStore m w (if cap then accTst else accStore) off.toNat (if cap then 16 else accBytes size) val

/-- MBX_TXGO (R25). -/
def execMbxTxgo (k : CoreId) (insn : BitVec 32) (val : BitVec 32) (s : State) : Host.Outcome State Fault Refusal :=
  s.store32 k insn 0x400080 val

/-- MBX_RXPOP (R28). -/
def execMbxRxpop (k : CoreId) (insn : BitVec 32) (val : BitVec 32) (s : State) : Host.Outcome State Fault Refusal :=
  s.store32 k insn 0x400100 val

/-- FLR_SWSET (R223). -/
def execFlrSwset (k : CoreId) (insn : BitVec 32) (val : BitVec 32) (s : State) : Host.Outcome State Fault Refusal :=
  s.store32 k insn 0x40010 val

/-- FLR_PEND (R220, R223). -/
def execFlrPend (k : CoreId) (insn : BitVec 32) (i : Fin 8) (val : BitVec 32) (s : State) : Host.Outcome State Fault Refusal :=
  s.store32 k insn (0x40080 + i.val * 4) val

/-- FLR_ACTV (R223). -/
def execFlrActv (k : CoreId) (insn : BitVec 32) (i : Fin 8) (val : BitVec 32) (s : State) : Host.Outcome State Fault Refusal :=
  s.store32 k insn (0x400A0 + i.val * 4) val

/-- PCR_LOQ_FAULT (R103, R117). -/
def execPcrLoqFault (k : CoreId) (insn : BitVec 32) (w : Fin 8) (val : BitVec 32) (s : State) : Host.Outcome State Fault Refusal :=
  s.store32 k insn (pcr w 4) val

/-- FLUSH (R117). -/
def execFlush (k : CoreId) (insn : BitVec 32) (w : Fin 8) (val : BitVec 32) (s : State) : Host.Outcome State Fault Refusal :=
  s.store32 k insn (pcr w 0x14) val

/-- MCX_HWMCLR (R308). -/
def execMcxHwmclr (k : CoreId) (insn : BitVec 32) (val : BitVec 32) (s : State) : Host.Outcome State Fault Refusal :=
  s.store32 k insn 0x60080 val

/-- EDGE (R128, R129). -/
def execSwEdge (k : CoreId) (insn : BitVec 32) (t : Fin 4) (val : BitVec 32) (s : State) : Host.Outcome State Fault Refusal :=
  s.store32 k insn (kb t + 0x3C) val

/-- SET (R131). -/
def execSwSet (k : CoreId) (insn : BitVec 32) (t : Fin 4) (val : BitVec 32) (s : State) : Host.Outcome State Fault Refusal :=
  s.store32 k insn (kb t + 0x3C) val

/-- TRACKER_RESTART (R127, R130). -/
def execTrackerRestart (k : CoreId) (insn : BitVec 32) (t : Fin 4) (val : BitVec 32) (s : State) : Host.Outcome State Fault Refusal :=
  s.store32 k insn (kb t) val

/-- ARM (R134, R136). -/
def execArm (k : CoreId) (insn : BitVec 32) (n : Fin 64) (val : BitVec 32) (s : State) : Host.Outcome State Fault Refusal :=
  s.store32 k insn (nb n) val

/-- SOFTWARE_CANCEL (R135). -/
def execSoftwareCancel (k : CoreId) (insn : BitVec 32) (n : Fin 64) (val : BitVec 32) (s : State) : Host.Outcome State Fault Refusal :=
  s.store32 k insn (nb n) val

/-- PTB_HWMCLR (R144). -/
def execPtbHwmclr (k : CoreId) (insn : BitVec 32) (val : BitVec 32) (s : State) : Host.Outcome State Fault Refusal :=
  s.store32 k insn 0x10010 val

/-- RUN (R145, R159). -/
def execRun (k : CoreId) (insn : BitVec 32) (n : Fin 16) (val : BitVec 32) (s : State) : Host.Outcome State Fault Refusal :=
  s.store32 k insn (tb n) val

/-- COUNT_WRITE (R148). -/
def execCountWrite (k : CoreId) (insn : BitVec 32) (n : Fin 16) (val : BitVec 32) (s : State) : Host.Outcome State Fault Refusal :=
  s.store32 k insn (tb n + 8) val

/-- LIVE_COMPARE_WRITE (R152). -/
def execLiveCompareWrite (k : CoreId) (insn : BitVec 32) (n : Fin 16) (b : Bool) (val : BitVec 32) (s : State) : Host.Outcome State Fault Refusal :=
  s.store32 k insn (tb n + if b then 0x14 else 0x10) val

/-- SYNC_START (R159). -/
def execSyncStart (k : CoreId) (insn : BitVec 32) (val : BitVec 32) (s : State) : Host.Outcome State Fault Refusal :=
  s.store32 k insn 0x21000 val

/-- SYNC_STOP (R159). -/
def execSyncStop (k : CoreId) (insn : BitVec 32) (val : BitVec 32) (s : State) : Host.Outcome State Fault Refusal :=
  s.store32 k insn 0x21000 val

/-- WDT_CTL_WRITE (R160, R164). -/
def execWdtCtlWrite (k : CoreId) (insn : BitVec 32) (val : BitVec 32) (s : State) : Host.Outcome State Fault Refusal :=
  s.store32 k insn 0x50000 val

/-- SERVICE (R161). -/
def execService (k : CoreId) (insn : BitVec 32) (val : BitVec 32) (s : State) : Host.Outcome State Fault Refusal :=
  s.store32 k insn 0x50010 val

/-- PIO_SET (R166). -/
def execPioSet (k : CoreId) (insn : BitVec 32) (hi : Bool) (val : BitVec 32) (s : State) : Host.Outcome State Fault Refusal :=
  s.store32 k insn (if hi then 0x3010C else 0x30108) val

/-- PIO_CLR (R166). -/
def execPioClr (k : CoreId) (insn : BitVec 32) (hi : Bool) (val : BitVec 32) (s : State) : Host.Outcome State Fault Refusal :=
  s.store32 k insn (if hi then 0x30114 else 0x30110) val

/-- PIO_TGL (R166). -/
def execPioTgl (k : CoreId) (insn : BitVec 32) (hi : Bool) (val : BitVec 32) (s : State) : Host.Outcome State Fault Refusal :=
  s.store32 k insn (if hi then 0x3011C else 0x30118) val

/-- PIN_FUNCTION_CHANGE (R165). -/
def execPinFunctionChange (k : CoreId) (insn : BitVec 32) (pin : Fin 64) (val : BitVec 32) (s : State) : Host.Outcome State Fault Refusal :=
  s.store32 k insn (0x30000 + pin.val * 4) val

/-- UART_TRANSMIT (R169). -/
def execUartTransmit (k : CoreId) (insn : BitVec 32) (u : Fin 2) (val : BitVec 32) (s : State) : Host.Outcome State Fault Refusal :=
  s.store32 k insn (ub u + 8) val

/-- SPI_TRANSMIT (R170). -/
def execSpiTransmit (k : CoreId) (insn : BitVec 32) (val : BitVec 32) (s : State) : Host.Outcome State Fault Refusal :=
  s.store32 k insn 0x510004 val

/-- I2C_COMMAND (R171). -/
def execI2cCommand (k : CoreId) (insn : BitVec 32) (val : BitVec 32) (s : State) : Host.Outcome State Fault Refusal :=
  s.store32 k insn 0x520004 val

/-- ETH_TXCMD (R172). -/
def execEthTxcmd (k : CoreId) (insn : BitVec 32) (val : BitVec 32) (s : State) : Host.Outcome State Fault Refusal :=
  s.store32 k insn 0x530014 val

/-- GO (R172). -/
def execMdioGo (k : CoreId) (insn : BitVec 32) (val : BitVec 32) (s : State) : Host.Outcome State Fault Refusal :=
  s.store32 k insn 0x530024 val

/-- TRACE_RUN (R452). -/
def execTraceRun (k : CoreId) (insn : BitVec 32) (val : BitVec 32) (s : State) : Host.Outcome State Fault Refusal :=
  s.store32 k insn 0x200000 val

/-- TRACE_STOP (R452). -/
def execTraceStop (k : CoreId) (insn : BitVec 32) (val : BitVec 32) (s : State) : Host.Outcome State Fault Refusal :=
  s.store32 k insn 0x200000 val

/-- SWTRIG_GO (R452). -/
def execSwtrigGo (k : CoreId) (insn : BitVec 32) (val : BitVec 32) (s : State) : Host.Outcome State Fault Refusal :=
  s.store32 k insn 0x200014 val

/-- FLR_COREW_WOVRCNT (R223). -/
def execFlrCorewWovrcnt (k : CoreId) (insn : BitVec 32) (rd : Fin 32) (w : Fin 8) (s : State) : Host.Outcome State Fault Refusal :=
  s.load32 k insn (0x41004 + w.val * 0x40) rd

/-- L3D_ERRCNT0 (R290). -/
def execL3dErrcnt0 (k : CoreId) (insn : BitVec 32) (rd : Fin 32) (s : State) : Host.Outcome State Fault Refusal :=
  s.load32 k insn 0x70010 rd

/-- L3D_ERRCNT1 (R290). -/
def execL3dErrcnt1 (k : CoreId) (insn : BitVec 32) (rd : Fin 32) (s : State) : Host.Outcome State Fault Refusal :=
  s.load32 k insn 0x70014 rd

/-- L3D_ERRCNT2 (R290). -/
def execL3dErrcnt2 (k : CoreId) (insn : BitVec 32) (rd : Fin 32) (s : State) : Host.Outcome State Fault Refusal :=
  s.load32 k insn 0x70018 rd

/-- L3D_ERRSAT (R290). -/
def execL3dErrsat (k : CoreId) (insn : BitVec 32) (rd : Fin 32) (s : State) : Host.Outcome State Fault Refusal :=
  s.load32 k insn 0x7001C rd

/-- MCX_ERRCNT0 (R308). -/
def execMcxErrcnt0 (k : CoreId) (insn : BitVec 32) (rd : Fin 32) (s : State) : Host.Outcome State Fault Refusal :=
  s.load32 k insn 0x60020 rd

/-- MCX_ERRCNT1 (R308). -/
def execMcxErrcnt1 (k : CoreId) (insn : BitVec 32) (rd : Fin 32) (s : State) : Host.Outcome State Fault Refusal :=
  s.load32 k insn 0x60024 rd

/-- MCX_ERRCNT2 (R308). -/
def execMcxErrcnt2 (k : CoreId) (insn : BitVec 32) (rd : Fin 32) (s : State) : Host.Outcome State Fault Refusal :=
  s.load32 k insn 0x60028 rd

/-- MCX_ERRCNT3 (R308). -/
def execMcxErrcnt3 (k : CoreId) (insn : BitVec 32) (rd : Fin 32) (s : State) : Host.Outcome State Fault Refusal :=
  s.load32 k insn 0x6002C rd

/-- MCX_ERRSAT (R308). -/
def execMcxErrsat (k : CoreId) (insn : BitVec 32) (rd : Fin 32) (s : State) : Host.Outcome State Fault Refusal :=
  s.load32 k insn 0x60030 rd

/-- MCX_EVT (R308). -/
def execMcxEvt (k : CoreId) (insn : BitVec 32) (rd : Fin 32) (s : State) : Host.Outcome State Fault Refusal :=
  s.load32 k insn 0x60040 rd

/-- PTB_STPH_DISC (R144). -/
def execPtbStphDisc (k : CoreId) (insn : BitVec 32) (rd : Fin 32) (s : State) : Host.Outcome State Fault Refusal :=
  s.load32 k insn 0x10014 rd

/-- UART_RECEIVE_POP (R169). -/
def execUartReceivePop (k : CoreId) (insn : BitVec 32) (rd : Fin 32) (u : Fin 2) (s : State) : Host.Outcome State Fault Refusal :=
  s.load32 k insn (ub u + 8) rd

/-- SPI_RECEIVE_POP (R170). -/
def execSpiReceivePop (k : CoreId) (insn : BitVec 32) (rd : Fin 32) (s : State) : Host.Outcome State Fault Refusal :=
  s.load32 k insn 0x510004 rd

/-- I2C_RXDATA_POP (R171). -/
def execI2cRxdataPop (k : CoreId) (insn : BitVec 32) (rd : Fin 32) (s : State) : Host.Outcome State Fault Refusal :=
  s.load32 k insn 0x520008 rd

/-- ETH_ERRCNT (R172). -/
def execEthErrcnt (k : CoreId) (insn : BitVec 32) (rd : Fin 32) (s : State) : Host.Outcome State Fault Refusal :=
  s.load32 k insn 0x530020 rd

/-- Whether a capture input can capture at all: a pin selects it, and EDGE an edge (R155, R165). -/
def Chan.capOn (ch : Chan) (n : Fin 16) (m : Fin 4) : Bool := ch.selects 3 (4 * n.val + m.val) && ch.fld (tb n + 0x24) (8 * m.val) 2 != 0

/-- CAP_READ (R156, R157): a capture in the same cycle enters after the value is read and leaves OVR alone. Of a chained pair the even timer
captures: at the read of the odd half the capture comes between the two reads and is held. -/
def execCapRead (k : CoreId) (insn : BitVec 32) (rd : Fin 32) (n : Fin 16) (m : Fin 4) (coincident : Bool) (s : State) :
    Host.Outcome State Fault Refusal :=
  s.wick k insn fun mt w ch =>
    ch.load mt w accLoad (ctrlVa (tb n + 0x30 + m.val * 4)) 4 fun ch b _ =>
      let e := if ch.chained n then evenOf n else n
      (if coincident && ch.capOn e m then ch.capture e m true else ch).wg w rd 3 (loaded insn b)

end Sys2Proof.Machine
end

