-- ==== Sys2Proof/Machine/Sha.lean ====
section
/-! DEFINITION. The functions that the manual names and FIPS 180-4 and FIPS 186-5 define: SHA-256 (R379, R395), SHA-384 and the verification of
ECDSA P-384 (R187, R189, R383, R402, R416). Their constants are computed from the definitions of those standards (log 5). -/

namespace Sys2Proof.Machine

/-! SHA-2 over words of w bits: 32 for SHA-256, 64 for SHA-384. -/

/-- The greatest r + t, t below 2^k, whose n-th power is at most x. -/
def rootN (n x : Nat) : Nat → Nat → Nat
  | 0, r => r
  | k + 1, r => rootN n x k (if (r + 2 ^ k) ^ n ≤ x then r + 2 ^ k else r)

def isPrime (n : Nat) : Bool := 2 ≤ n && (List.range n).all fun d => d < 2 || n % d != 0

/-- The first 80 primes. -/
def primes : List Nat := below 410 isPrime

/-- The first w bits of the fraction of the n-th root of p. -/
def rootBits (w n p : Nat) : BitVec w := BitVec.ofNat w (rootN n (p * 2 ^ (n * w)) (w + 4) 0)

/-- The round constants. -/
def shaK (w rounds : Nat) : List (BitVec w) := (primes.take rounds).map (rootBits w 3)

/-- The rotations of the four functions, the last of a small one a shift. -/
structure ShaTurns where
  big0   : Nat × Nat × Nat
  big1   : Nat × Nat × Nat
  small0 : Nat × Nat × Nat
  small1 : Nat × Nat × Nat

def bigSigma {w : Nat} (t : Nat × Nat × Nat) (x : BitVec w) : BitVec w := x.rotateRight t.1 ^^^ x.rotateRight t.2.1 ^^^ x.rotateRight t.2.2
def smallSigma {w : Nat} (t : Nat × Nat × Nat) (x : BitVec w) : BitVec w := x.rotateRight t.1 ^^^ x.rotateRight t.2.1 ^^^ (x >>> t.2.2)

/-- The message with its padding: a 1 bit, zeros, the length in bits as a big-endian number of two words. -/
def shaPad (w : Nat) (m : List Byte) : List Byte :=
  m ++ [0x80#8] ++ List.replicate ((2 * w - (m.length + 1 + w / 4) % (2 * w)) % (2 * w)) 0#8 ++ (leBytes (8 * m.length) (w / 4)).reverse

/-- Pieces of n items, at most `fuel` of them. -/
def piecesOf {α : Type} (n : Nat) : Nat → List α → List (List α)
  | 0, _ => []
  | fuel + 1, l => if l.isEmpty then [] else l.take n :: piecesOf n fuel (l.drop n)

/-- The message schedule, the latest word first: k more words. -/
def shaSchedule {w : Nat} (t : ShaTurns) : Nat → List (BitVec w) → List (BitVec w)
  | 0, l => l
  | k + 1, l => shaSchedule t k ((smallSigma t.small1 (nth 0 l 1) + nth 0 l 6 + smallSigma t.small0 (nth 0 l 14) + nth 0 l 15) :: l)

/-- One round on the eight working variables. -/
def shaRound {w : Nat} (t : ShaTurns) (v : List (BitVec w)) (kw : BitVec w × BitVec w) : List (BitVec w) :=
  let x := nth 0 v
  let t1 := x 7 + bigSigma t.big1 (x 4) + ((x 4 &&& x 5) ^^^ (~~~x 4 &&& x 6)) + kw.1 + kw.2
  let t2 := bigSigma t.big0 (x 0) + ((x 0 &&& x 1) ^^^ (x 0 &&& x 2) ^^^ (x 1 &&& x 2))
  [t1 + t2, x 0, x 1, x 2, x 3 + t1, x 4, x 5, x 6]

/-- One block. -/
def shaBlock {w : Nat} (t : ShaTurns) (rounds : Nat) (h : List (BitVec w)) (block : List Byte) : List (BitVec w) :=
  let ws := ((piecesOf (w / 8) 16 block).map fun b => BitVec.ofNat w (beNat b)).reverse
  let ws := (shaSchedule t (rounds - 16) ws).reverse
  (h.zip (((shaK w rounds).zip ws).foldl (shaRound t) h)).map fun x => x.1 + x.2

/-- The hash of a message, as bytes of its words in order. -/
def sha2 (w : Nat) (t : ShaTurns) (rounds : Nat) (h : List (BitVec w)) (m : List Byte) : List Byte :=
  let p := shaPad w m
  ((piecesOf (2 * w) (p.length / (2 * w)) p).foldl (shaBlock t rounds) h).flatMap fun x => (leBytes x.toNat (w / 8)).reverse

/-- SHA-256, its first byte the most significant. -/
@[irreducible] def sha256 (m : List Byte) : BitVec 256 :=
  BitVec.ofNat 256 (beNat (sha2 32 ⟨(2, 13, 22), (6, 11, 25), (7, 18, 3), (17, 19, 10)⟩ 64 ((primes.take 8).map (rootBits 32 2)) m))

/-- SHA-384: SHA-512 from other starting words, cut to 384 bits. -/
@[irreducible] def sha384 (m : List Byte) : BitVec 384 :=
  BitVec.ofNat 384 (beNat ((sha2 64 ⟨(28, 34, 39), (14, 18, 41), (1, 8, 7), (19, 61, 6)⟩ 80 (((primes.drop 8).take 8).map (rootBits 64 2)) m).take 48))

/-! ECDSA over P-384. -/

def p384 : Nat := 2 ^ 384 - 2 ^ 128 - 2 ^ 96 + 2 ^ 32 - 1
def p384Order : Nat := 0xffffffffffffffffffffffffffffffffffffffffffffffffc7634d81f4372ddf581a0db248b0a77aecec196accc52973
def p384B : Nat := 0xb3312fa7e23ee7e4988e056be3f82d19181d9c6efe8141120314088f5013875ac656398d8a2ed19d2a85c8edd3ec2aef
def p384G : Nat × Nat :=
  (0xaa87ca22be8b05378eb1c71ef320ad746e1d3b628ba79b9859f741e082542a385502f25dbf55296c3a545e3872760ab7,
   0x3617de4a96262c6f5d9e98bf9292dc29f8f41dbd289a147ce9da3113b5f0b8c00a60b1ce1d7e819d7a431d7c90ea0e5f)

/-- x to the power e below 2^k, modulo m. -/
def powMod (m x e : Nat) : Nat → Nat
  | 0 => 1 % m
  | k + 1 => let r := powMod m (x * x % m) (e / 2) k; if e % 2 = 1 then r * x % m else r

/-- The inverse modulo a prime below 2^384. -/
def invMod (m x : Nat) : Nat := powMod m x (m - 2) 384

/-- The sum of two points of the curve, none the point at infinity. -/
def ecAdd : Option (Nat × Nat) → Option (Nat × Nat) → Option (Nat × Nat)
  | none, q => q
  | p, none => p
  | some (x1, y1), some (x2, y2) =>
    if x1 = x2 ∧ (y1 + y2) % p384 = 0 then none else
    let s := if x1 = x2 then (3 * x1 * x1 + p384 - 3) * invMod p384 (2 * y1 % p384) % p384
      else (y2 + p384 - y1) * invMod p384 ((x2 + p384 - x1) % p384) % p384
    let x := (s * s + 2 * p384 - x1 - x2) % p384
    some (x, (s * (x1 + p384 - x) + p384 - y1) % p384)

/-- e times a point, e below 2^k. -/
def ecMul (e : Nat) (p : Option (Nat × Nat)) : Nat → Option (Nat × Nat)
  | 0 => none
  | k + 1 => let r := ecMul (e / 2) (ecAdd p p) k; if e % 2 = 1 then ecAdd r p else r

/-- The point of a key in SEC 1 uncompressed form, when it lies on the curve. -/
def keyPoint (key : List Byte) : Option (Nat × Nat) :=
  let x := beNat ((key.drop 1).take 48)
  let y := beNat ((key.drop 49).take 48)
  if key.length = 97 ∧ key.head? = some 4#8 ∧ x < p384 ∧ y < p384 ∧ y * y % p384 = (x * x * x + (p384 - 3) * x + p384B) % p384 then some (x, y) else none

/-- A signature *r* ‖ *s*, big-endian, of a digest under a key. -/
@[irreducible] def ecdsaOk (key : List Byte) (digest : BitVec 384) (sig : List Byte) : Bool :=
  let r := beNat (sig.take 48)
  let s := beNat (sig.drop 48)
  match keyPoint key with
  | none => false
  | some q =>
    sig.length == 96 && 1 ≤ r && decide (r < p384Order) && 1 ≤ s && decide (s < p384Order) &&
      let i := invMod p384Order s
      match ecAdd (ecMul (digest.toNat * i % p384Order) (some p384G) 384) (ecMul (r * i % p384Order) (some q) 384) with
      | some (x, _) => x % p384Order == r
      | none => false

end Sys2Proof.Machine
end

