-- ==== Sys2Proof/Machine/Image.lean ====
section
/-! DEFINITION. The keys of the OTP, and the checks of images: channel images and their microcode sections, firmware, vendor patches
(R185 to R189, R394, R402). -/

namespace Sys2Proof.Machine

/-- The key of a slot that is enrolled and holds a role (R394). -/
def Lamp.key (l : Lamp) (slot role : Nat) : Option (List Byte) :=
  if h : slot < 8 then
    let k := l.keys[slot]
    if k.state = 1 ∧ k.roles.getLsbD role then some (if slot = 0 then Config.vendorKey else k.key) else none
  else none

/-- The key of a slot for something signed for channel n: the role, and the channel's bit in [11:8] (R394). -/
def Lamp.chanKey (l : Lamp) (slot role : Nat) (n : Fin 4) : Option (List Byte) :=
  if h : slot < 8 then (if (l.keys[slot]).roles.getLsbD (8 + n.val) then l.key slot role else none) else none

/-- ECDSA P-384 over SHA-384 of the bytes before the signature. -/
def signedBy (key : Option (List Byte)) (body sig : List Byte) : Bool :=
  match key with | some k => ecdsaOk k (sha384 body) sig | none => false

/-- n bytes of an image at an offset, little-endian. -/
def fieldAt (b : List Byte) (off n : Nat) : Nat := leNat ((b.drop off).take n)

/-! The customer image (R185). -/

def muCount (b : List Byte) : Nat := fieldAt b 8 2
def nanoCount (b : List Byte) : Nat := fieldAt b 0xA 2
def muWord (b : List Byte) (i : Nat) : Nat := fieldAt b (0xA0 + 4 * i) 4
def nanoOff (b : List Byte) (j : Nat) : Nat := 0xA0 + 4 * muCount b + 18 * j
def nanoWord (b : List Byte) (j : Nat) : Nat := fieldAt b (nanoOff b j) 18
def claimOf (b : List Byte) : Nat := fieldAt b 0x10 8
def entryWord (b : List Byte) (x : Nat) : Nat := fieldAt b (0x18 + 2 * x) 2
/-- Length of the image without padding and signature, and with the padding. -/
def muBody (b : List Byte) : Nat := nanoOff b (nanoCount b)
def muPadded (b : List Byte) : Nat := (muBody b + 3) / 4 * 4

/-- A microword of the image (R175). -/
inductive Mu
  | exec (nano : Nat)
  | branch (cond target : Nat)
  | poll
  | fin
  deriving DecidableEq, Repr

def muAt (b : List Byte) (i : Nat) : Mu :=
  let x := muWord b i
  match x / 2 ^ 18 % 4 with
  | 0 => .exec (x % 1024 - 0x380)
  | 1 => .branch (x / 2 ^ 14 % 16) (x % 2 ^ 13 - 0x1C00)
  | 2 => .poll
  | _ => .fin

/-- Check 5 for one microword: listed KIND and COND, NADDR and TARGET in the image, reserved bits 0. -/
def muOk (b : List Byte) (i : Nat) : Bool :=
  let x := muWord b i
  x / 2 ^ 20 == 0 && match x / 2 ^ 18 % 4 with
  | 0 => x / 2 ^ 10 % 256 == 0 && decide (0x380 ≤ x % 1024) && decide (x % 1024 < 0x380 + nanoCount b)
  | 1 => x / 2 ^ 14 % 16 ≤ 5 && x / 2 ^ 13 % 2 == 0 && decide (0x1C00 ≤ x % 2 ^ 13) && decide (x % 2 ^ 13 < 0x1C00 + muCount b)
  | _ => x % 2 ^ 18 == 0

/-- A listed operation of a unit (R178). -/
def unitOp (unit op : Nat) : Bool :=
  let fn := fun (major : Nat) => op < 32 && definedWord Ucode.empty (encR major false 0 0 0 0 op)
  match unit with
  | 0 => op == 0
  | 1 => op < 24
  | 2 => op < 6
  | 3 => op < 4
  | 4 => fn 0x2C && op % 16 != 3 && op % 16 != 4
  | 5 => fn 0x2D
  | 6 => fn 0x2E
  | 7 => op < 5
  | 8 => op < 8
  | 9 => op < 5
  | _ => false

def srcOk (s : Nat) : Bool := s ≤ 9 || (16 ≤ s && s < 24)
def dstOk (s : Nat) : Bool := s ≤ 6 || s == 9 || (16 ≤ s && s < 24)

/-- Check 6 for one nanoword. -/
def nanoOk (b : List Byte) (j : Nat) : Bool :=
  let x := nanoWord b j
  let f := fun (lo n : Nat) => x / 2 ^ lo % 2 ^ n
  unitOp (f 0 4) (f 4 6) && dstOk (f 10 5) && srcOk (f 15 5) && srcOk (f 20 5) && srcOk (f 25 5)
    && (f 30 1 == 0 || f 0 4 == 1 || f 0 4 == 2) && f 31 1 == 0 && f 96 48 == 0

/-- The microwords that can follow one that is no commit point. -/
def muNext (b : List Byte) (i : Nat) : List Nat :=
  match muAt b i with
  | .exec _ => [i + 1]
  | .branch 0 t => [t]
  | .branch _ t => if t = i + 1 then [t] else [i + 1, t]
  | _ => []

/-- The microwords still under way after n of them, from some that start: POLL and END end a path. -/
def muPaths (b : List Byte) (starts : List Nat) : Nat → List Nat
  | 0 => starts
  | n + 1 => muPaths b ((starts.flatMap (muNext b)).eraseDups) n

/-- Where paths from a commit point start: claimed entries, and what follows a POLL. -/
def muStarts (b : List Byte) : List Nat :=
  ((below 64 fun x => nbit (claimOf b) x).map fun x => entryWord b x % 2 ^ 13 - 0x1C00)
    ++ ((below (muCount b) fun i => muAt b i == .poll).map fun i => i + 1)

/-- Check 8: no cycle without a POLL; at most 64 microwords to the next commit point. -/
def muPolled (b : List Byte) : Bool :=
  (muPaths b (List.range (muCount b)) (muCount b)).isEmpty && (muPaths b (muStarts b) 64).isEmpty

/-- Micro-distance of a nanoword's result (R178). -/
def muDist (unit : Nat) : Nat := match unit with | 1 => 1 | 2 => 3 | 3 => 2 | 4 => 4 | 5 => 5 | 6 => 5 | 7 => 5 | 8 => 3 | _ => 0

/-- The selectors a nanoword reads (R178). -/
def nanoReads (x : Nat) : List Nat :=
  let f := fun (lo n : Nat) => x / 2 ^ lo % 2 ^ n
  match f 0 4 with
  | 0 => []
  | 2 => if f 4 6 = 5 then [f 15 5, f 20 5, f 25 5] else [f 15 5, f 20 5]
  | 1 | 4 | 6 | 8 => [f 15 5, f 20 5]
  | _ => [f 15 5, f 20 5, f 25 5]

/-- The selector a nanoword writes, if it names one. -/
def nanoWrites (x : Nat) : Option Nat := if x % 16 = 0 ∨ x % 16 = 9 ∨ x / 2 ^ 10 % 32 = 0 then none else some (x / 2 ^ 10 % 32)

/-- Whether a microword reads a selector, 32 standing for Z and N. -/
def muReads (b : List Byte) (i sel : Nat) : Bool :=
  match muAt b i with
  | .exec j => (nanoReads (nanoWord b j)).contains sel
  | .branch c _ => if 1 ≤ c ∧ c ≤ 4 then sel == 32 else c == 5 && sel == 9
  | _ => false

def muWrites (b : List Byte) (i sel : Nat) : Bool :=
  match muAt b i with
  | .exec j => if sel = 32 then nbit (nanoWord b j) 30 else nanoWrites (nanoWord b j) == some sel
  | _ => false

/-- Whether some path reads a selector among its next n microwords, before it is written again (R179). -/
def readSoon (b : List Byte) (sel : Nat) : Nat → List Nat → Bool
  | 0, _ => false
  | n + 1, at' => at'.any (fun i => muReads b i sel) || readSoon b sel n ((at'.filter fun i => !muWrites b i sel).flatMap (muNext b)).eraseDups

/-- Check 9: R179 on every path, selectors compared by name (log 29). -/
def muSpaced (b : List Byte) : Bool :=
  (List.range (muCount b)).all fun i =>
    match muAt b i with
    | .exec j =>
      let x := nanoWord b j
      let d := muDist (x % 16)
      let soon := fun (sel : Nat) => readSoon b sel (d - 1) (muNext b i)
      (match nanoWrites x with | some s => !soon s | none => true) && !(nbit x 30 && soon 32)
    | _ => true

/-- The paths under way with the most STORE nanowords each holds; check 10 allows 8. -/
def storePaths (b : List Byte) : Nat → List (Nat × Nat) → Bool
  | 0, _ => true
  | n + 1, ps =>
    let ps := ps.map fun p => match muAt b p.1 with | .exec j => (p.1, p.2 + b2n (nanoWord b j % 16 == 9)) | _ => p
    let step := (ps.flatMap fun p => (muNext b p.1).map fun i => (i, p.2)).eraseDups
    let most := step.filter fun p => !step.any fun q => q.1 == p.1 && p.2 < q.2
    ps.all (fun p => p.2 ≤ 8) && storePaths b n most

/-- The first index below n for which a check fails. -/
def firstBad (n : Nat) (ok : Nat → Bool) : Option Nat := (List.range n).find? fun i => !ok i

/-- R187: the number of the first check that fails, with the byte offset of its first fault; `want` is the required version. -/
def muCheck (l : Lamp) (n : Fin 4) (want : Nat) (b : List Byte) : Option (Nat × Nat) :=
  let free := fun (c : Nat) => some (c, (Config.faultOffset c b).toNat)
  let body := muPadded b
  if fieldAt b 0 4 ≠ 0x55434D54 then some (1, 0) else
  if fieldAt b 4 2 ≠ 1 then some (1, 4) else
  if fieldAt b 6 1 ≠ 0x21 then some (1, 6) else
  if !signedBy (l.chanKey (fieldAt b 7 1) 3 n) (b.take (b.length - 96)) (b.drop (b.length - 96)) then free 2 else
  if 1024 < muCount b then some (3, 8) else
  if 128 < nanoCount b then some (3, 0xA) else
  if b.length ≠ body + 96 then free 3 else
  match firstBad 64 (fun x => (!nbit (claimOf b) x || decide (0x1C00 ≤ entryWord b x % 2 ^ 13 ∧ entryWord b x % 2 ^ 13 < 0x1C00 + muCount b))
      && entryWord b x / 2 ^ 14 == 0) with
  | some x => some (4, 0x18 + 2 * x)
  | none =>
  if fieldAt b 0x98 8 ≠ 0 then some (4, 0x98) else
  match firstBad (muCount b) (muOk b) with
  | some i => some (5, 0xA0 + 4 * i)
  | none =>
  match firstBad (nanoCount b) (nanoOk b) with
  | some j => some (6, nanoOff b j)
  | none =>
  let last := muAt b (muCount b - 1)
  if muCount b ≠ 0 ∧ last ≠ .fin ∧ !(match last with | .branch 0 _ => true | _ => false) then some (7, 0xA0 + 4 * (muCount b - 1)) else
  if !muPolled b then free 8 else
  if !muSpaced b then free 9 else
  if !storePaths b 64 ((muStarts b).map fun i => (i, 0)) then free 10 else
  if want ≠ 0 ∧ want ≠ fieldAt b 0xC 4 then some (11, 0xC) else none

/-- The stores with a vendor patch in the patch RAM: 1,024 and 128 words, up to 32 redirections of ROM addresses into it (R173, R189). -/
def patchStore (b : List Byte) : Ucode :=
  let (mi, na, re) := Config.patchWords Config.patchKey b
  { Ucode.empty with
    patch := true, pMicro := mi.take 1024, pNano := na.take 128,
    redir := (re.take 32).map fun r => (r.1, BitVec.ofNat 13 (0x1800 + r.2.toNat % 0x400)) }

/-- The word of the micro store at an address, through a redirection of the patch (R173, R189). -/
def Ucode.microAt (u : Ucode) (a : Nat) : BitVec 20 :=
  let a := match u.redir.find? fun r => r.1.toNat == a && decide (a < 0x1800) with | some r => r.2.toNat | none => a
  if a < 0x1800 then Config.romMicro a else if a < 0x1C00 then nth 0#20 u.pMicro (a - 0x1800) else nth 0#20 u.micro (a - 0x1C00)

/-- The word of the nano store at an address (R173). -/
def Ucode.nanoAt (u : Ucode) (a : Nat) : BitVec 144 :=
  if a < 0x300 then Config.romNano a else if a < 0x380 then nth 0#144 u.pNano (a - 0x300) else nth 0#144 u.nano (a - 0x380)

/-- The stores an accepted image leaves beside what the patch RAM holds (R173, R185, R191). -/
def muLoad (b : List Byte) (u : Ucode) : Ucode :=
  { u with
    micro := (List.range (muCount b)).map fun i => BitVec.ofNat 20 (muWord b i),
    nano := (List.range (nanoCount b)).map fun j => BitVec.ofNat 144 (nanoWord b j),
    claim := BitVec.ofNat 64 (claimOf b), entry := (List.range 64).map fun x => BitVec.ofNat 16 (entryWord b x) }

/-! Channel images, firmware and patches (R402). -/

def bootLen (b : List Byte) : Nat := fieldAt b 0x10 4
def mcLen (b : List Byte) : Nat := fieldAt b 0x14 4
def bootOf (b : List Byte) : List Byte := (b.drop 0x40).take (bootLen b)
def mcOf (b : List Byte) : List Byte := (b.drop (0x40 + bootLen b)).take (mcLen b)
def imgBody (b : List Byte) : Nat := (0x40 + bootLen b + mcLen b + 15) / 16 * 16

/-- The code of the first check of R402 that a channel image fails; 0 when it is accepted. Check 7 applies to an update. -/
def imageCode (l : Lamp) (n : Fin 4) (minimum want : Nat) (update : Bool) (b : List Byte) : Nat :=
  if fieldAt b 0 4 ≠ 0x48494D54 ∨ fieldAt b 4 2 ≠ 1 ∨ b.length ≠ imgBody b + 96 ∨ bootLen b % 16 ≠ 0 ∨ bootLen b < 16 ∨ 2080768 < bootLen b
    then 0x24
  else if fieldAt b 6 1 ≠ 0x21 then 0x25
  else if !signedBy (l.chanKey (fieldAt b 7 1) 2 n) (b.take (imgBody b)) (b.drop (imgBody b)) then 0x26
  else if fieldAt b 0xC 4 < minimum then 0x28
  else if !nbit (fieldAt b 0x18 4) n.val then 0x29
  else if update && mcLen b != 0 && (muCheck l n want (mcOf b)).isSome then 0x2D else 0

/-- What the Lamplighter finds in firmware or a vendor patch. -/
def vendorOf (b : List Byte) : Bool × BitVec 8 × Bool × Bool × Nat × BitVec 32 := Config.vendorItem Config.vendorKey Config.patchKey b
def vendorLevel (b : List Byte) : Nat := (vendorOf b).2.2.2.2.1
def vendorRev (b : List Byte) : Nat := (vendorOf b).2.2.2.2.2.toNat

/-- The code of the first check of R402 that firmware or a patch fails; 0 when it is accepted. -/
def vendorCode (minimum : Nat) (b : List Byte) : Nat :=
  let (well, rev, sig, opens, level, _) := vendorOf b
  if b = [] ∨ !well then 0x24 else if rev ≠ 0x21#8 then 0x25 else if !sig then 0x26 else if !opens then 0x27
  else if level < minimum then 0x28 else 0

/-- The result of loading the vendor patch at a cold start, in the order of R189 (R194): 0 loaded, 1 none present. -/
def patchResult (minimum : Nat) (b : List Byte) : Nat :=
  let (_, rev, sig, opens, level, _) := vendorOf b
  if b = [] then 1 else if !sig then 2 else if !opens then 3 else if rev ≠ 0x21#8 then 4 else if level < minimum then 5 else 0

/-! The items (R403). -/

def itemNum : Item → Fin 6
  | .firmware => 0
  | .patch => 1
  | .image c => ⟨2 + c.val, by omega⟩

def Lamp.item (l : Lamp) (i : Item) : ItemSt := l.items[itemNum i]
def Lamp.setItem (l : Lamp) (i : Item) (x : ItemSt) : Lamp := { l with items := l.items.set (itemNum i) x }
def ItemSt.slot (x : ItemSt) (n : Nat) : List Byte := if n = 0 then x.slotA else x.slotB
def ItemSt.setSlot (x : ItemSt) (n : Nat) (b : List Byte) : ItemSt := if n = 0 then { x with slotA := b } else { x with slotB := b }

/-- IMGVER, the firmware's revision, or the patch level (R403), and SECVER of an item's bytes. -/
def itemVersion (i : Item) (b : List Byte) : Nat := match i with | .image _ => fieldAt b 8 4 | .firmware => vendorRev b | .patch => vendorLevel b
def itemSec (i : Item) (b : List Byte) : Nat := match i with | .image _ => fieldAt b 0xC 4 | _ => vendorLevel b
/-- The size of an item's flash slot (R392). -/
def itemSize : Item → Nat
  | .firmware => 0x100000
  | .patch => 0x10000
  | .image _ => 0x300000

end Sys2Proof.Machine
end

