-- ==== Sys2Proof/Machine/Msg.lean ====
section
/-! DEFINITION. The messages between the L2s, the home slices and the memory controller, one delivered by each command, and what
the CXL link does (R259, R267 to R283, R289, R296 to R304). An access of a core that freezes until its line is there brings these
about by itself; a message that is not under way is not delivered, and its command changes nothing. -/

namespace Sys2Proof.Machine

/-- A command of a running channel's memory side; then the transactions go on that nothing delays any longer (R258, R275). -/
def State.mem (s : State) (c : Fin 4) (f : MantleTable → Chan → Chan) : Host.Outcome State Fault Refusal :=
  s.act c fun m ch => if ch.life == .up then (let ch := f m ch; ch.txs.foldl (fun (ch : Chan) _ => ch.resumeTx.settleTx) ch) else ch

/-- A line of the HDM window that core w may cache (R264). -/
def Chan.cachesLine (ch : Chan) (w : Fin 8) (line : Nat) : Bool :=
  runMode ch.mode && !ch.fixedCore w && ch.inHdm (line * 64)

/-- A request waiting at a home that `p` selects, with those ahead of it. -/
def Chan.queued (ch : Chan) (p : Req → Bool) : Option (Req × List Req) :=
  (ch.homeQ.zipIdx.find? fun x => p x.1).map fun x => (x.1, ch.homeQ.take x.2)

/-- A request waiting at its home is taken, in its turn (R275, R279). -/
def Chan.takeQueued (ch : Chan) (r : Req) (ahead : List Req) : Chan :=
  if ch.ripe r ahead then ({ ch with homeQ := ch.homeQ.erase r } : Chan).openReq r else ch

/-- The home takes a request: the oldest one of that kind waiting from that core, or one the core's L2 sends now (R275). -/
def Chan.takeReq (m : MantleTable) (ch : Chan) (w : Fin 8) (line : Nat) (same : ReqKind → Bool) (may : Bool) (k : ReqKind) : Chan :=
  match ch.queued fun r => r.w == w && r.line == line && same r.kind with
  | some (r, ahead) => ch.takeQueued r ahead
  | none => if may && ch.cachesLine w line then ch.request ⟨k, w, line, ch.ownerOf m w, false, .none⟩ else ch

/-- RDS (R275). -/
def execRds (c : Fin 4) (w : Fin 8) (line : BitVec 42) (s : State) : Host.Outcome State Fault Refusal :=
  s.mem c fun m ch => ch.takeReq m w line.toNat (· == .rds) ((ch.core w).l2Find line.toNat).isNone .rds

/-- RDO (R275). -/
def execRdo (c : Fin 4) (w : Fin 8) (line : BitVec 42) (s : State) : Host.Outcome State Fault Refusal :=
  s.mem c fun m ch => ch.takeReq m w line.toNat (· == .rdo) ((ch.core w).l2Find line.toNat).isNone .rdo

/-- UPG (R275): the L2 holds the line in S. -/
def execUpg (c : Fin 4) (w : Fin 8) (line : BitVec 42) (s : State) : Host.Outcome State Fault Refusal :=
  s.mem c fun m ch =>
    let may : Bool := match (ch.core w).l2Find line.toNat with | some x => x.st == .s | none => false
    ch.takeReq m w line.toNat (· == .upg) may .upg

/-- An eviction taken by the home: one waiting, or one the L2 makes now, with a free entry of its eviction buffer (R269, R274, R277). -/
def Chan.takeEv (ch : Chan) (w : Fin 8) (line : Nat) (dirty : Bool) : Chan :=
  let k : ReqKind := if dirty then .evd else .evn
  match ch.queued fun r => r.w == w && r.line == line && r.kind == k with
  | some (r, ahead) => ch.takeQueued r ahead
  | none =>
    match (ch.core w).l2Find line with
    | some x => if (x.st != .s) == dirty && decide ((ch.core w).evb.length < evbSize) then ch.evict w x else ch
    | none => ch

/-- EVD (R277). -/
def execEvd (c : Fin 4) (w : Fin 8) (line : BitVec 42) (s : State) : Host.Outcome State Fault Refusal :=
  s.mem c fun _ ch => ch.takeEv w line.toNat true

/-- EVN (R277). -/
def execEvn (c : Fin 4) (w : Fin 8) (line : BitVec 42) (s : State) : Host.Outcome State Fault Refusal :=
  s.mem c fun _ ch => ch.takeEv w line.toNat false

/-- AMO at the home (R259, R260): naturally aligned in the HDM window. -/
def execAmo (c : Fin 4) (w : Fin 8) (op : AmoOp) (d : Bool) (pa : BitVec 48) (src cmp : BitVec 64) (s : State) : Host.Outcome State Fault Refusal :=
  s.mem c fun m ch =>
    let may : Bool := pa.toNat % (if d then 8 else 4) == 0
    ch.takeReq m w (pa.toNat / 64) (· == .amo op d pa.toNat src cmp) may (.amo op d pa.toNat src cmp)

/-- UCR (R267). -/
def execUcr (c : Fin 4) (w : Fin 8) (pa : BitVec 48) (n : AccSize) (s : State) : Host.Outcome State Fault Refusal :=
  s.mem c fun m ch =>
    let b := match n with | .b1 => 1 | .b2 => 2 | .b4 => 4 | .b8 => 8 | .b16 => 16
    ch.takeReq m w (pa.toNat / 64) (· == .ucr pa.toNat b) (pa.toNat % b == 0) (.ucr pa.toNat b)

/-- UCW (R267). -/
def execUcw (c : Fin 4) (w : Fin 8) (pa : BitVec 48) (n : AccSize) (data : BitVec 128) (s : State) : Host.Outcome State Fault Refusal :=
  s.mem c fun m ch =>
    let b := match n with | .b1 => 1 | .b2 => 2 | .b4 => 4 | .b8 => 8 | .b16 => 16
    ch.takeReq m w (pa.toNat / 64) (fun k => match k with | .ucw a n d _ _ => a == pa.toNat && n == b && d == data | _ => false) (pa.toNat % b == 0)
      (.ucw pa.toNat b data false 0#4)

/-- SNS (R276). -/
def execSns (c : Fin 4) (w : Fin 8) (line : BitVec 42) (s : State) : Host.Outcome State Fault Refusal :=
  s.mem c fun _ ch => ch.deliverIf fun x => x == .sns w line.toNat

/-- SNI (R276). -/
def execSni (c : Fin 4) (w : Fin 8) (line : BitVec 42) (s : State) : Host.Outcome State Fault Refusal :=
  s.mem c fun _ ch => ch.deliverIf fun x => x == .sni w line.toNat

/-- SNQ (R283): the report of one L2 in a rebuild. -/
def execSnq (c : Fin 4) (w : Fin 8) (slice : Fin 8) (set : Fin 1024) (s : State) : Host.Outcome State Fault Refusal :=
  s.mem c fun _ ch => ch.deliverIf fun x => x == .snq w slice.val set.val

/-- RSP_D (R275, R277). -/
def execRspD (c : Fin 4) (w : Fin 8) (line : BitVec 42) (s : State) : Host.Outcome State Fault Refusal :=
  s.mem c fun _ ch => ch.deliverIf fun x => match x with | .rspD v l _ _ _ _ => v == w && l == line.toNat | _ => false

/-- RSP_N (R275). -/
def execRspN (c : Fin 4) (w : Fin 8) (line : BitVec 42) (s : State) : Host.Outcome State Fault Refusal :=
  s.mem c fun _ ch => ch.deliverIf fun x => x == .rspN w line.toNat

/-- RSP_X (R277). -/
def execRspX (c : Fin 4) (w : Fin 8) (line : BitVec 42) (s : State) : Host.Outcome State Fault Refusal :=
  s.mem c fun _ ch => ch.deliverIf fun x => x == .rspX w line.toNat

/-- DAT (R268). -/
def execDat (c : Fin 4) (w : Fin 8) (line : BitVec 42) (s : State) : Host.Outcome State Fault Refusal :=
  s.mem c fun _ ch => ch.deliverIf fun x => match x with | .dat v l _ _ _ _ _ => v == w && l == line.toNat | _ => false

/-- ACK (R276). -/
def execAck (c : Fin 4) (w : Fin 8) (line : BitVec 42) (s : State) : Host.Outcome State Fault Refusal :=
  s.mem c fun _ ch => ch.deliverIf fun x => match x with | .ack v l _ => v == w && l == line.toNat | _ => false

/-! The memory controller (R296, R297, R301 to R303). -/

/-- MRD: a transaction that awaits CXL data has its read issued; with the link down it is answered poisoned (R296, R303). -/
def execMrd (c : Fin 4) (line : BitVec 42) (s : State) : Host.Outcome State Fault Refusal :=
  s.mem c fun _ ch =>
    match ch.txFind line.toNat with
    | none => ch
    | some t =>
      if !t.mem || t.lost || ch.cxlReqs.any (fun q => q.line == line.toNat && q.kind == .read) then ch
      else if !ch.linkUp then (let (ch, d) := ch.cxlRead line.toNat; ch.memData line.toNat d)
      else if ch.tokenFree (ch.pool t.req.owner) then ch.putReq ⟨line.toNat, ch.pool t.req.owner, .read, none, false⟩ else ch

/-- MWR: a dirty line of the L3 written back, with its tags and poison; the L3 keeps it clean (R278, R294, R302). -/
def execMwr (c : Fin 4) (line : BitVec 42) (s : State) : Host.Outcome State Fault Refusal :=
  s.mem c fun _ ch =>
    match ch.l3Find line.toNat with
    | none => ch
    | some x =>
      if !x.dirty || !ch.tokenFree (ch.pool x.owner) then ch else
      ({ ch with l3 := { x with dirty := false } :: (ch.l3Drop x.line).l3 } : Chan).mwr x.line x.owner x.data x.tags x.poison

/-- A read's data delivered to its home; poisoned when it met a parity error on its way (R282). -/
def Chan.deliverRead (ch : Chan) (q : CxlReq) : Chan :=
  let (ch, d) := ({ ch with cxlReqs := ch.cxlReqs.erase q } : Chan).cxlRead q.line
  ch.memData q.line (d.1, d.2.1, d.2.2 || q.hurt)

/-- A pending far access to a line that has not been performed and can be (R258, R296), oldest in its core first. -/
def Chan.farAt (ch : Chan) (line : Nat) (write : Bool) : Option (Fin 8 × Fin 32) :=
  (ch.farPending (line * 64) 64).find? fun x => ch.farFree x.1 x.2 && match ((ch.core x.1).loq[x.2]).far with | some f => f.write == write | none => false

/-- The response of a request has come and is held until its time (R297). -/
def Chan.holdResp (ch : Chan) (q : CxlReq) (ok : Bool) : Chan :=
  { ch with cxlReqs := ch.cxlReqs.map fun x => if x = q then { x with resp := some ok } else x }

/-- A response later than its hold is delivered when it comes, and counted in a partitioned mode (R297). -/
def Chan.lateResp (ch : Chan) (late : Bool) : Chan := if ch.parted && late then ch.noteHoldMiss else ch

/-- Whether a far access goes by the far lane, whose responses are never held (R299). -/
def Chan.onLane (ch : Chan) (x : Fin 8 × Fin 32) : Bool :=
  match ((ch.core x.1).loq[x.2]).far with | some f => f.parts.any fun p => p.attr == .farLane | none => false

/-- CXL_READ_RESPONSE: in a partitioned mode an early one is held, a late one counted in HOLDMISS; a far load's is its own; one
that nothing awaits is LATE (R297, R298, R300, R301). One with poison says that the expander cannot read the line: it stays poisoned there. -/
def execCxlReadResponse (c : Fin 4) (line : BitVec 42) (held : Bool) (late : Arrival) (s : State) : Host.Outcome State Fault Refusal :=
  s.mem c fun m ch =>
    if !ch.linkUp then ch else
    let ch := { ch with flitFails := 0, cxlPois := if late.poison then spSet 0#4 ch.cxlPois line.toNat 0xF#4 else ch.cxlPois }
    match ch.cxlReqs.find? fun q => q.line == line.toNat && q.kind == .read && q.resp.isNone with
    | some q => if ch.parted && held && !late.late then ch.holdResp q true else (ch.lateResp late.late).deliverRead q
    | none =>
      match ch.farAt line.toNat false with
      | some x => (if ch.onLane x then ch else ch.lateResp late.late).farDo m x.1 x.2
      | none => ch.noteMcxLate

/-- A confirmed store of a core that the expander may refuse: the oldest in its buffer, to the line, past the caches or to a line that the L3
does not hold (R251, R267). -/
def Chan.confirms (ch : Chan) (w : Fin 8) (line : Nat) : Bool :=
  match (ch.core w).sb with
  | e :: _ => e.part.pa / 64 == line && (e.part.attr == .unc11 || (e.part.attr == .unc01 && (ch.l3Find line).isNone))
  | [] => false

/-- A write that has not completed is taken back: the line holds what it held before (R302, R303). -/
def Chan.takeBack (ch : Chan) (q : CxlReq) : Chan :=
  match q.kind with
  | .write data old tags poison => if ch.cxlData q.line = data then ch.cxlWrite q.line old tags poison else ch
  | _ => ch

/-- A write that the expander refuses is recorded, and not retried (R251, R302). -/
def Chan.refuseWrite (ch : Chan) (q : CxlReq) : Chan :=
  match q.kind with
  | .write .. => (ch.takeBack q).noteRefused q.line
  | _ => ch

/-- The oldest posted store of a core completes: it is performed, or refused and recorded (R250, R251). -/
def Chan.postEnds (ch : Chan) (w : Fin 8) (n : Nat) (ok : Bool) : Chan :=
  if ok then ch.postOne w else
  ({ ch.onCore w fun c => { c with posted := c.posted.tail } with
    cxlReqs := match ch.cxlReqs.find? fun q => q.kind == .posted w with | some q => ch.cxlReqs.erase q | none => ch.cxlReqs } : Chan).noteRefused n

/-- A write-back completes (R302). -/
def Chan.writeEnds (ch : Chan) (q : CxlReq) (ok : Bool) : Chan :=
  let ch := { ch with cxlReqs := ch.cxlReqs.erase q }
  if ok then ch else ch.refuseWrite q

/-- A held response delivered (R297). -/
def Chan.deliverHeld (ch : Chan) (q : CxlReq) : Chan :=
  let ok := q.resp.getD true
  match q.kind with
  | .posted w => let ch := ch.postEnds w q.line ok; if ch.cxlReqs.contains q then ch.postEnds w q.line ok else ch
  | .write .. => ch.writeEnds q ok
  | _ => ch.deliverRead q

/-- HELD_RESPONSE_DELIVERY: the oldest response held for the line (R297). -/
def execHeldResponseDelivery (c : Fin 4) (line : BitVec 42) (s : State) : Host.Outcome State Fault Refusal :=
  s.mem c fun _ ch =>
    match ch.cxlReqs.find? fun q => q.line == line.toNat && q.resp.isSome with
    | some q => ch.deliverHeld q
    | none => ch

/-- CXL_WRITE_COMPLETION: a posted store, an STF, a confirmed store or a write-back of the line is performed, or refused and recorded (R250,
R251, R302); in a partitioned mode an early completion is held, a late one counted (R297); one that nothing awaits is LATE (R300). -/
def execCxlWriteCompletion (c : Fin 4) (line : BitVec 42) (ok : Completion) (s : State) : Host.Outcome State Fault Refusal :=
  s.mem c fun m ch =>
    if !ch.linkUp then ch else
    let ch := { ch with flitFails := 0 }
    let n := line.toNat
    let wait : Bool := ch.parted && ok.held && !ok.late
    let own := fun (w : Fin 8) => ch.cxlReqs.find? fun q => q.kind == .posted w
    let first := fun (w : Fin 8) =>
      (match (ch.core w).posted with | e :: _ => e.part.pa / 64 == n | [] => false) && (match own w with | some q => q.resp.isNone | none => true)
    match (List.finRange 8).find? first with
    | some w =>
      match own w, wait with
      | some q, true => ch.holdResp q ok.ok
      | _, _ => (ch.lateResp ok.late).postEnds w n ok.ok
    | none =>
      match ch.farAt n true with
      | some x =>
        let ch := if ch.onLane x then ch else ch.lateResp ok.late
        if ok.ok then ch.farDo m x.1 x.2 else
        let e := (ch.core x.1).loq[x.2]
        (ch.loqSet x.1 x.2 { e with far := e.far.map fun f => { f with done := f.parts.length } }).noteRefused n
      | none =>
        match ch.cxlReqs.find? fun q => q.line == n && q.resp.isNone && (match q.kind with | .write .. => true | _ => false) with
        | some q => if wait then ch.holdResp q ok.ok else (ch.lateResp ok.late).writeEnds q ok.ok
        | none =>
          match (List.finRange 8).find? fun w => ch.confirms w n with
          | some w => if ok.ok then (ch.lateResp ok.late).drainMem m w
              else (((ch.lateResp ok.late).postAll w).onCore w fun c => { c with sb := c.sb.tail }).noteRefused n
          | none => ch.noteMcxLate

/-! The link (R303, R304). -/

/-- The responses that have come and are held are delivered, and the writes under way taken back: none of them is performed once the link
is down (R297, R303, R307). -/
def Chan.cutLink (ch : Chan) : Chan :=
  let ch := (ch.cxlReqs.filter fun q => q.resp.isSome).foldl (fun (ch : Chan) q => ch.deliverHeld q) ch
  ch.cxlReqs.reverse.foldl (fun (ch : Chan) q => ch.takeBack q) ch

/-- The writes and posted stores that were under way are lost, the oldest first (R303). -/
def Chan.loseWrites (ch : Chan) (qs : List CxlReq) : Chan :=
  let ch := qs.foldl (fun (ch : Chan) q => match q.kind with | .write .. | .posted _ => ch.noteLost q.line | _ => ch) ch
  { ch with cores := ch.cores.map fun (c : Core) => { c with posted := [] } }

/-- The link is down, and counted (R309): reads answer poisoned, writes are lost, far accesses are faulted (R300, R303). -/
def Chan.linkFails (m : MantleTable) (ch : Chan) : Chan :=
  if !ch.linkUp then ch else
  let i := ch.idx 0x3050
  let ch := ch.cutLink
  let qs := ch.cxlReqs
  let ch := ch.setObj i 6 2 (sticky 0xFFFF (ch.objN i 6 0) 1)
  let ch := ({ (ch.putF 0x60000 0 2 0).setBit 0x60010 3 with flitFails := 0, cxlReqs := [] } : Chan).loseWrites qs
  let ch := (ch.txs.filter fun t => t.mem).foldl (fun (ch : Chan) t =>
    let (ch, d) := ch.cxlRead t.req.line
    ch.memData t.req.line d) ch
  (List.finRange 8).foldl (fun (ch : Chan) w => (List.finRange 32).foldl (fun (ch : Chan) i =>
    let e := (ch.core w).loq[i]
    let far : Bool := match e.far with | some f => (f.parts.any fun p => decide (hdmBase ≤ p.pa)) && !f.over | none => false
    if e.st = .pending && far then (ch.event m w 0x14).loqSet w i { e with st := .faulted, cause := 4 } else ch) ch) ch

/-- A link-layer retry: the accesses of the far lane that are outstanding may take RETRY longer (R299). -/
def Chan.retried (ch : Chan) : Chan :=
  let late := fun (c : Core) => (c.loq.map fun e =>
    match e.far with
    | some f => if e.st = .pending ∧ f.parts.any (fun p => p.attr == .farLane) then { e with hi := e.hi.map (· + nsCycles ch.linkRetry) } else e
    | none => e)
  { ch with cores := ch.cores.map fun (c : Core) => { c with loq := late c } }

/-- FLIT_CRC_FAILURE: counted with its replay; the fourth in a row takes the link down (R303). -/
def execFlitCrcFailure (c : Fin 4) (s : State) : Host.Outcome State Fault Refusal :=
  s.mem c fun m ch =>
    if !ch.linkUp then ch else
    let ch := ((ch.mcxErr 0x60020 0 0 0 0 0).count16 0x60020 16 0x60030 1).retried
    if 3 ≤ ch.flitFails then ch.linkFails m else { ch with flitFails := ch.flitFails + 1 }

/-- LINK_DOWN (R303). -/
def execLinkDown (c : Fin 4) (s : State) : Host.Outcome State Fault Refusal := s.mem c fun m ch => ch.linkFails m

/-- One event record summarised, or dropped beyond the 64 of a second of PTB_TIME (R304; log 27). -/
def Chan.eventRecord (ch : Chan) (r : EventRecord) : Chan :=
  let sec := ch.ptb.toNat / 600000000
  let n := if ch.evtSec = sec then ch.evtN else 0
  if 64 ≤ n then ch.setBit 0x60040 22 else
  let a := match r.dpa with | some d => hdmBase + d.toNat | none => 0
  let ch := { ch with evtSec := sec, evtN := n + 1 }
  let ch := ch.putF 0x60040 0 16 (min 0xFFFF (ch.fld 0x60040 0 16 + 1))
  let ch := (ch.putF 0x60040 16 4 r.kind.val).putF 0x60040 20 2 r.sev.val
  ((ch.setReg 0x60044 (BitVec.ofNat 32 a)).setReg 0x60048 (BitVec.ofNat 32 (a / 2 ^ 32 % 2 ^ 16))).setBit 0x60010 6

/-- GET_EVENT_RECORDS: one reading (R304). -/
def execGetEventRecords (c : Fin 4) (recs : List EventRecord) (s : State) : Host.Outcome State Fault Refusal :=
  s.mem c fun _ ch => recs.foldl (fun (ch : Chan) r => ch.eventRecord r) ch

/-! Home timeouts and the imbalance windows (R280, R289). -/

/-- HOME_TIMEOUT (R280). -/
def execHomeTimeout (c : Fin 4) (line : BitVec 42) (s : State) : Host.Outcome State Fault Refusal :=
  s.mem c fun _ ch => ch.homeTimeout line.toNat

/-- IMBALANCE_WINDOW (R289). -/
def execImbalanceWindow (c : Fin 4) (s : State) : Host.Outcome State Fault Refusal :=
  s.mem c fun _ ch =>
    if ch.fld 0x70080 0 16 = 0 then ch else
    let ns := ch.admitted.toList
    let total := ns.sum
    let top := ns.foldl max 0
    let ratio := if total = 0 then 0 else 2048 * top / total
    let ch := (List.range 8).foldl (fun (ch : Chan) i => ch.setReg (0x700C0 + 4 * i) (BitVec.ofNat 32 (nth 0 ns i))) ch
    let ch := (ch.putF 0x70084 0 12 ratio).putF 0x70084 12 3 (ns.findIdx fun n => n == top)
    let ch := { ch with admitted := Vector.replicate 8 0 }
    if 1024 ≤ total ∧ ch.fld 0x70080 16 12 ≤ ratio then ch.setBit 0x70004 6 else ch

end Sys2Proof.Machine
end

