-- ==== Sys2Proof/Machine/Life.lean ====
section
/-! DEFINITION. The life of a channel: mode transitions and what survives them (R34 to R51, R295, R453), activation of the cache and
token plan (R287, R296), channel resets (R11, R49, R160 to R162, R167, R209, R210, R261, R410), training of the CXL link (R291 to
R294), the cold start and the release of the cores (R189, R191, R399 to R401). -/

namespace Sys2Proof.Machine

/-! The plan (R284 to R287, R296). -/

def Plan.gbase (p : Plan) : Nat := getF p.part 0 4
def Plan.sbase (p : Plan) : Nat := getF p.part 4 4
/-- Ways [lo, hi) of a class. -/
def Plan.range (p : Plan) : Nat → Nat × Nat
  | 0 => (0, p.gbase)
  | 1 => (p.gbase, p.sbase)
  | _ => (p.sbase, 16)

/-- An enabled allotment of a plan: its number, class, first way, ways, tokens. -/
structure Allot where
  num   : Nat
  cls   : Nat
  base  : Nat
  count : Nat
  tok   : Nat

def Plan.enabled (p : Plan) : List Allot :=
  (below 8 fun n => (nth 0#32 p.allot n).getLsbD 0).map fun n =>
    let x := nth 0#32 p.allot n
    ⟨n, getF x 1 2, getF x 16 4, getF x 20 4, 16 * nth 0 p.tokAl n⟩

/-- The ways and slots of a plan hold together (R287). -/
def Plan.waysOk (p : Plan) : Bool :=
  let al := p.enabled
  1 ≤ p.gbase && p.gbase < p.sbase && p.sbase ≤ 15
    && al.all (fun a => a.cls < 3 && 1 ≤ a.count && (p.range a.cls).1 ≤ a.base && a.base + a.count ≤ (p.range a.cls).2 && p.slots.contains (8 + a.num)
        && al.all fun b => a.num == b.num || a.base + a.count ≤ b.base || b.base + b.count ≤ a.base)
    && (List.range 3).all (fun c => p.slots.contains c && ((al.filter fun a => a.cls == c).map fun a => a.count).sum < (p.range c).2 - (p.range c).1)
    && p.slots.all fun s => s < 8 || al.any fun a => s == 8 + a.num

/-- The tokens of a plan hold together in a mode (R296). -/
def Plan.tokensOk (p : Plan) (tgt : Nat) : Bool :=
  let al := p.enabled
  let pool := if tgt = 5 then 1024 - 16 * getF p.tok 16 6 else 1024
  let opn := 16 * getF p.tok 0 6
  let grd := 16 * getF p.tok 8 6
  let held := fun (c : Nat) => ((al.filter fun a => a.cls == c).map fun a => a.tok).sum
  al.all (fun a => 1 ≤ a.tok) && held 0 < opn && held 1 < grd && opn + grd + held 2 < pool

/-- Activation: the pending plan is checked for the mode entered and put in force, or refused (R287, R296); `planBad` notes whether PLANERR or
TOKERR has read 1 since (R323). -/
def Chan.activate (ch : Chan) (tgt : Nat) : Chan :=
  let p := ch.pendingPlan
  if p.waysOk && p.tokensOk tgt then
    { ch with plan := p, planBad := ch.bit 0x70004 7 || ch.bit 0x60010 7 }.putF 0x7003C 0 8 ((ch.fld 0x7003C 0 8 + 1) % 256)
  else { (ch.setBit 0x70004 7).setBit 0x60010 7 with planBad := true }

/-- What the Lamplighter draws when a channel passes through THAW: the three masks and the predictor secret (R108, R271). -/
def Chan.drawSalt (ch : Chan) : Chan :=
  let mask := fun (i : Nat) => ((ch.draw (60 + i)).truncate 48 : BitVec 48) &&& ~~~0x1FF#48
  { ch with salt := Vector.ofFn fun i => mask i.val, secret := (ch.draw 63).truncate 128 }

/-! Write-back (R45, R48, R49). -/

/-- Every line of the L2s, their eviction buffers included. -/
def Chan.l2Lines (ch : Chan) : List L2Line := ch.cores.toList.flatMap fun c => c.evb ++ c.l2

/-- Nothing is left in the L1s and L2s, and nothing is under way between them and the homes. -/
def Chan.dropL2 (ch : Chan) : Chan :=
  { ch with
    cores := ch.cores.map fun (c : Core) => { c with l1i := [], l1d := [], l2 := [], evb := [], miss := [], streams := [] },
    calmPres := [], dir := [], homeQ := [], txs := [], net := [], rebuild := none, results := [] }

/-- All dirty data written to CXL memory, each line under a token of its owner (R296), where the expander takes it (R302); every cache
invalidated. -/
def Chan.writeBack (ch : Chan) : Chan :=
  let ch := ch.pumpAll
  let put := fun (ch : Chan) (line owner : Nat) (d : BitVec 512) (t : BitVec 4) (p : Bool) =>
    let ch := ch.passReq (ch.pool owner)
    if ch.refuses line then ch.noteRefused line else ch.cxlWrite line d t p
  let ch := ch.l3.foldl (fun (ch : Chan) x => if x.dirty then put ch x.line x.owner x.data x.tags x.poison else ch) ch
  let ch := ch.l2Lines.foldl (fun (ch : Chan) x => if x.st = .m then put ch x.line x.owner x.data x.tags x.poison else ch) ch
  { ch.dropL2 with l3 := [] }

/-- Dirty L2 data written to the L3; the L1s and L2s are then lost (R38). -/
def Chan.toL3 (ch : Chan) : Chan :=
  let ch := ch.pumpAll
  (ch.l2Lines.foldl (fun (ch : Chan) x => if x.st = .m then ch.l3Merge ⟨x.line, x.data, x.tags, true, x.poison, x.owner⟩ else ch) ch).dropL2

def Chan.clearPred (ch : Chan) : Chan := { ch with cores := ch.cores.map fun (c : Core) => { c with pred := Pred.clear } }
def Chan.clearTlbs (ch : Chan) : Chan := { ch with cores := ch.cores.map fun (c : Core) => { c with itlb := [], dtlb := [], l2tlb := [] } }

/-- The stop of R45 on one core: its window ends, its long operations and stores are done, its reservation is lost. Faults found stay
recorded. -/
def Chan.stopCore (m : MantleTable) (ch : Chan) (w : Fin 8) : Chan :=
  let ch := (((ch.windowLimit w).dropSlotA m w).meltAll m w).onCore w fun c => { c with wait := .none }
  let ch := (((ch.lbarAll m w).drainAll m w).postAll w)
  ch.onCore w fun c => { c with pend := [], fetched := [], slotA := none, resv := none, hold := none, elem := none }

/-- The stop of R45, but for a snuffed channel, whose cores are stopped already (R46). -/
def Chan.stopAll (m : MantleTable) (ch : Chan) : Chan :=
  if ch.snuff.isSome then ch else (List.finRange 8).foldl (fun (ch : Chan) w => ch.stopCore m w) ch

/-! Loss of state (R11, R40, R49, R167, R261). -/

/-- The microcode object with nothing loaded: no level, version or claims (R194). The last patch result stays; the customer image reads as
not present. -/
def Chan.noStore (ch : Chan) : Chan :=
  let i := ch.idx 0x3030
  ((((ch.setObj i 1 4 0).setObj i 3 4 0).setObj i 4 1 1).setObj i 5 8 0).setObj i 6 4 0xFFFFFFFF

/-- What a channel is once its state is lost: CXL memory, its objects, the levels outside its pins and the wire's service remain. -/
def Chan.lose (ch : Chan) (life : Life) : Chan :=
  { Chan.reset ch.num with
    life := life, cxl := ch.cxl, cxlTag := ch.cxlTag, cxlPois := ch.cxlPois, epoch := ch.epoch, objs := ch.noStore.objs, pinIn := ch.pinIn,
    pinExt := ch.pinExt, llDown := ch.llDown, wire := { ch.wire with life := 0 }, expander := ch.expander, lateSeen := ch.lateSeen, free := ch.free }

/-- What was in flight at a channel reset: an STF and a write of a line land whole or not at all, of the posted stores some first
ones arrive, and a confirmed store that is on its way may (R261). -/
def Chan.cutFlight (m : MantleTable) (ch : Chan) : Chan :=
  let ch := (List.finRange 8).foldl (fun (ch : Chan) w => ch.abandon m w) ch
  let ch := (List.finRange 8).foldl (fun (ch : Chan) w =>
    let confirmed : Bool := match (ch.core w).sb with | e :: _ => e.part.attr == .unc01 || e.part.attr == .unc11 | [] => false
    let ch := (List.range (ch.pick (720 + w.val) (stepsOf (ch.core w).posted + 1))).foldl (fun (ch : Chan) _ => ch.postOne w) ch
    if confirmed && (ch.core w).posted.isEmpty && ch.pick (735 + w.val) 2 = 1 then ch.drainMem m w else ch) ch
  ch.cxlReqs.foldl (fun (ch : Chan) q =>
    match q.kind with
    | .write .. => if ch.pick (10000 + q.line) 2 = 1 then ch.takeBack q else ch
    | _ => ch) ch

/-- A counter of the channel objects that sticks at 0xFFFF. -/
def Chan.bumpObj (ch : Chan) (base sub : Nat) : Chan :=
  ch.setObj (ch.idx base) sub 2 (sticky 0xFFFF (ch.objN (ch.idx base) sub 0) 1)

/-- A counter of the status object, with its saturation bit (R385). -/
def Chan.bumpStatus (ch : Chan) (sub bit : Nat) : Chan :=
  let ch := ch.bumpObj 0x3000 sub
  if ch.objN (ch.idx 0x3000) sub 0 < 0xFFFF then ch else
  let old := ch.objN (ch.idx 0x3000) 5 0
  ch.setObj (ch.idx 0x3000) 5 1 (if nbit old bit then old else old + 2 ^ bit)

/-- The start mode of channel mode object subindex 03 (R51). -/
def Chan.startMode (ch : Chan) : Nat := ch.objN (ch.idx 0x3020) 3 2

/-- A cold channel start is commanded: into a requested mode, or into the start mode when there is none (R51, R399). -/
def Chan.startCold (ch : Chan) (goal : Option Nat) : Chan :=
  let tgt := goal.getD ch.startMode
  if goal.isNone ∧ tgt = 7 then { ch with life := .frost } else
  (({ ch with life := .starting, goal := some tgt, loaded := false, kept := false } : Chan).putF 0x14 4 4 tgt).putF 0x14 8 2 3

/-- A channel reset with its cause (R49, R385); the debug wire goes to sleep (R411). -/
def Chan.resetBy (m : MantleTable) (ch : Chan) (cause : Nat) : Chan :=
  let ch := (if ch.life = .frost then ch else ch.cutFlight m).lose .reset
  ({ ch with wire := { ch.wire with awake := false } }).setObj (ch.idx 0x3000) 3 1 cause

/-- COUNT reaches 0: the channel is reset, then started or left in FROST (R162). -/
def Chan.wdtExpire (m : MantleTable) (ch : Chan) : Chan :=
  let hold := ch.fld 0x50000 2 2 == 1
  let ch := (ch.bumpStatus 2 1).resetBy m 2
  if hold then { ch with life := .frost } else ch.startCold none

/-! Transitions (R45 to R49). -/

/-- The stop, the write-backs and the losses of leaving a run mode for another place of the graph, with the core state kept. -/
def Chan.leaveRun (m : MantleTable) (ch : Chan) (tgt : Nat) : Chan :=
  let src := ch.mode
  let ch := (ch.stopAll m).tracePower tgt
  if tgt = 6 then
    let ch := (ch.toL3.clearTlbs).clearPred
    if ch.linkUp then ch.putF 0x60000 0 2 3 else ch
  else if tgt = 7 then ch.writeBack
  else if tgt = 8 ∨ 4 ≤ src ∨ 4 ≤ tgt then (ch.writeBack.clearTlbs).clearPred
  else
    let ch := if src = 1 then ch.writeBack else ch
    let ch := if src = 1 ∨ tgt = 1 then ch.clearPred else ch
    if src = 1 then ch.activate tgt else ch

/-- What the THAW part of a transition does on its way into a run mode: masks, plan, Calm store split (R271, R287, R36). -/
def Chan.thawPart (ch : Chan) (tgt : Nat) : Chan :=
  let ch := ch.drawSalt.activate tgt
  if tgt = 5 then ch.putF 0x24 8 2 (ch.fld 0x24 0 2) else ch

/-- Leaving DEW for the run mode it left (R39, R295). -/
def Chan.leaveDew (ch : Chan) : Chan :=
  let ch := { ch.putF 0x14 0 4 ch.prevMode with cores := ch.cores.map fun (c : Core) => { c with woken := true } }
  if ch.linkUp then ch.putF 0x60000 0 2 2 else ch

/-- The mode shown; PREV is the last run mode left for DEW, FROST or THAW (R50). A change between run modes that only passes through THAW
leaves PREV as it was; a retraining stop, which ends in THAW before the channel is released, sets it (DESIGN CHOICE, log 51). -/
def Chan.showMode (ch : Chan) (tgt : Nat) : Chan :=
  let cur := ch.mode
  let ch := if runMode cur ∧ 6 ≤ tgt then ch.putF 0x14 12 4 cur else ch
  { ch.putF 0x14 0 4 tgt with zeroed := false }

/-- A run mode left for a mode, or entered from THAW. -/
def Chan.fromRunOrThaw (m : MantleTable) (ch : Chan) (tgt : Nat) : Chan :=
  let src := ch.mode
  if src = 8 then ((ch.thawPart tgt).tracePower tgt).showMode tgt
  else
    let ch := ch.leaveRun m tgt
    let ch := if runMode tgt ∧ (4 ≤ src ∨ 4 ≤ tgt) then ch.thawPart tgt else ch
    ch.showMode tgt

/-- The path of the graph from the present mode, as a chain of listed transitions (R48). -/
def Chan.chain (m : MantleTable) (ch : Chan) (tgt : Nat) : Chan :=
  if ch.mode = 6 then
    if tgt = 7 then ch.writeBack.showMode 7
    else
      let ch := ch.leaveDew
      if tgt = ch.mode then ch else ch.fromRunOrThaw m tgt
  else if ch.mode = 8 ∧ tgt = 6 then (ch.fromRunOrThaw m ch.prevMode).fromRunOrThaw m 6
  else if ch.mode = 8 ∧ tgt = 7 then ch.showMode 7
  else ch.fromRunOrThaw m tgt

/-- The end of a transition: BUSY clears, DONE is set, its time is shown (R44, R50). A wake held during entry to DEW begins (R47). -/
def Chan.endTrans (ch : Chan) (us : Nat) : Chan :=
  let ch := ({ ch with trans := none } : Chan).putF 0x14 4 4 ch.mode
  let ch := ((ch.putF 0x14 8 2 0).setBit 0x14 29).setReg 0x1C (BitVec.ofNat 32 (min us 0xFFFFF))
  if ch.wakeHeld then
    let ch := { ch with wakeHeld := false }
    if ch.mode = 6 then ch.beginTrans ch.prevMode 0#8 true true else ch
  else ch

/-! The CXL link (R291 to R295, R299, R309). -/

/-- LINKLAT in ns (R299). -/
def linkLat (x4 : Bool) (speed : Nat) : Nat :=
  if x4 then (match speed with | 0 => 230 | 1 => 360 | _ => 620) else (match speed with | 0 => 180 | 1 => 260 | _ => 420)

/-- The training result of R309, and whether the link trains at x4. An expander that does not report media errors as poison is rejected like one
that does not keep poison on writes: R309 gives it no result of its own (log 58). -/
def trainResult (x : ExpanderFacts) (allowX4 : Bool) : Nat :=
  if !x.present then 2
  else if !(x.x8Trains || (x.x4Trains && allowX4)) then 7
  else if !x.cxl2Type3 then 3
  else if x.multiLogical then 4
  else if !x.writePoison || !x.mediaPoison then 5
  else if x.capacityMB < 264 then 6
  else if x.x8Trains then 0 else 1

/-- The established size in units of 256 MB: the largest within 4 TB whose 33/32 fits the capacity (R293). -/
def sizeUnits (capacityMB : Nat) : Nat := min 16384 (capacityMB * 32 / (33 * 256))

/-- Training (R292, R293): link state, size, latencies, and their objects. A rejected expander leaves a size of 0. -/
def Chan.train (ch : Chan) (x : ExpanderFacts) : Chan :=
  let i := ch.idx 0x3050
  let r := trainResult x (ch.objN i 2 1 = 1)
  let speed := max x.speed.val (ch.objN i 1 0)
  let units := if r ≤ 1 then sizeUnits x.capacityMB else 0
  let ch := ((ch.setObj i 4 8 (units * 2 ^ 28)).setObj i 5 1 r).setReg 0x60004 (BitVec.ofNat 32 units)
  let lat := BitVec.ofNat 32 ((if r ≤ 1 then linkLat (r = 1) speed else 0) + 65536 * ch.objN i 3 400)
  let link := BitVec.ofNat 32 (if r ≤ 1 then 2 + 4 * r + 8 * speed else 0)
  { (ch.setReg 0x60008 lat).setReg 0x60000 link with expander := some x, flitFails := 0, cxlReqs := [] }

/-- The tag epoch at every cold start, whether the link has trained or not: incremented; the tag store is cleared when its first line is
invalid or the epoch wraps (R294). -/
def Chan.newEpoch (ch : Chan) (valid : Bool) : Chan :=
  if ch.linkUp && !valid then { ch with epoch := 1#12, cxlTag := [] }
  else if ch.epoch = 0xFFF#12 then { ch with epoch := 0#12, cxlTag := [] }
  else { ch with epoch := ch.epoch + 1#12 }

/-- Retraining (R309): the epoch is kept; the tag store is cleared when its first line is invalid. -/
def Chan.retrain (ch : Chan) (x : ExpanderFacts) : Chan :=
  let ch := ch.train x
  if ch.linkUp && !x.firstTagLineValid then { ch with cxlTag := [] } else ch

/-! MODE_TRANSITION_DONE and DEW_WAKE. -/

/-- The transition in progress completes. Entry to FROST loses the channel's state; a retraining stop retrains and releases the channel
into the mode it left (R309). -/
def Chan.transDone (m : MantleTable) (ch : Chan) (us : Nat) : Chan :=
  match ch.trans with
  | none => ch
  | some t =>
    if t.back ∧ ch.mode ≠ 6 then
      let ch := ((ch.stopAll m).tracePower 8).writeBack.clearTlbs.clearPred
      let ch := match ch.expander with | some x => ch.retrain x | none => ch
      let cur := ch.mode
      (((ch.showMode 8).thawPart cur).showMode cur).endTrans us
    else if t.tgt = 7 then ((ch.chain m 7).lose .frost).endTrans us
    else (ch.chain m t.tgt).endTrans us

/-- The targets of a channel's rail: one for GALE and BREEZE, one for DRIZZLE, one for CALM and HAZE, one for FROST (R460). -/
def railOf (mode : Nat) : Nat := match mode with | 1 | 2 => 0 | 3 => 1 | 4 | 5 => 2 | _ => 3

/-- Whether a transition commands a voltage step: DEW and THAW keep the target of the last run mode, or of the start mode before there
was one (R460). -/
def Chan.railSteps (ch : Chan) (t : Trans) : Bool :=
  let last := if runMode ch.mode then ch.mode else if runMode ch.prevMode then ch.prevMode else ch.startMode
  !t.back && t.tgt != 6 && t.tgt != 8 && railOf t.tgt != railOf last

/-- A regulator that fails three attempts: the channel is reset and left in FROST (R461, R474). -/
def Chan.railFails (m : MantleTable) (ch : Chan) : Chan := { ch.resetBy m 4 with life := .frost }

/-- MODE_TRANSITION_DONE (R48); `rail` says that the regulator has followed the voltage step, where there is one (R461). -/
def execModeTransitionDone (c : Fin 4) (us : Nat) (rail : Bool) (s : State) : Host.Outcome State Fault Refusal :=
  s.act c fun m ch =>
    if ch.life != .up then ch else
    match ch.trans with
    | some t => if !rail && ch.railSteps t then ch.railFails m else ch.transDone m us
    | none => ch

/-- Whether an event wakes a channel in DEW (R39). -/
def Chan.wakes (ch : Chan) : WakeEvent → Bool
  | .slot n => ch.bit 0x20 0 && ch.bit (nb n + 4) 3
  | .source v => ch.sourceWakes v.toNat
  | .lamp => true

/-- What CHN_MODE_TIME shows of a wake: its duration, at most 35 µs and otherwise free (R39, R50, log 34). -/
def Chan.wakeTime (ch : Chan) : Nat := 1 + ch.pick 66 35

/-- DEW_WAKE (R39): the wake of a channel in DEW, or the event of one, which is held during the entry to DEW (R47). -/
def execDewWake (c : Fin 4) (ev : WakeEvent) (s : State) : Host.Outcome State Fault Refusal :=
  s.act c fun m ch =>
    if ch.life != .up then ch else
    match ch.trans with
    | none => if ch.mode == 6 && ch.wakes ev then ch.wakeEvent.transDone m ch.wakeTime else ch
    | some t => if ch.mode == 6 && t.back then ch.transDone m ch.wakeTime else if ch.wakes ev then ch.wakeEvent else ch

end Sys2Proof.Machine
end

