-- ==== Sys2Proof/Machine/Start.lean ====
section
/-! DEFINITION. Mode requests by command, channel resets, the cold channel start and the release of the cores (R11, R40 to R51, R160 to
R162, R189, R191, R209, R294, R309, R322, R385, R399 to R402, R407, R409, R410). -/

namespace Sys2Proof.Machine

/-! Mode requests (R43, R44, R51). -/

/-- A request of the Lamplighter, which also reaches a channel in FROST (R51): the reason when it is rejected. -/
def Chan.lampMode (ch : Chan) (tgt : Nat) : Chan × Option Nat :=
  if ch.life = .frost then
    if tgt = 6 then (ch.rejectMode 2, some 2)
    else if tgt = 7 then (ch.setBit 0x14 29, none)
    else (ch.startCold (some tgt), none)
  else ch.requestMode tgt 0#8 true

/-- A mode request by either path. -/
def State.modeReq (s : State) (c : Fin 4) (src : ModeSrc) (tag : BitVec 8) (tgt : Nat) : Host.Outcome State Fault Refusal :=
  match src with
  | .core w insn => s.store32 ⟨c, w⟩ insn 0x10 (BitVec.ofNat 32 (tgt + 256 * tag.toNat))
  | .lamp => s.act c fun _ ch => if s.lamp.life == .up then (ch.lampMode tgt).1 else ch

/-- MODE_REQUEST_GALE. -/
def execModeRequestGale (c : Fin 4) (src : ModeSrc) (tag : BitVec 8) (s : State) : Host.Outcome State Fault Refusal := s.modeReq c src tag 1

/-- MODE_REQUEST_BREEZE. -/
def execModeRequestBreeze (c : Fin 4) (src : ModeSrc) (tag : BitVec 8) (s : State) : Host.Outcome State Fault Refusal := s.modeReq c src tag 2

/-- MODE_REQUEST_DRIZZLE. -/
def execModeRequestDrizzle (c : Fin 4) (src : ModeSrc) (tag : BitVec 8) (s : State) : Host.Outcome State Fault Refusal := s.modeReq c src tag 3

/-- MODE_REQUEST_CALM. -/
def execModeRequestCalm (c : Fin 4) (src : ModeSrc) (tag : BitVec 8) (s : State) : Host.Outcome State Fault Refusal := s.modeReq c src tag 4

/-- MODE_REQUEST_HAZE. -/
def execModeRequestHaze (c : Fin 4) (src : ModeSrc) (tag : BitVec 8) (s : State) : Host.Outcome State Fault Refusal := s.modeReq c src tag 5

/-- MODE_REQUEST_DEW (R38). -/
def execModeRequestDew (c : Fin 4) (src : ModeSrc) (tag : BitVec 8) (s : State) : Host.Outcome State Fault Refusal := s.modeReq c src tag 6

/-- MODE_REQUEST_FROST (R40, R46). -/
def execModeRequestFrost (c : Fin 4) (src : ModeSrc) (tag : BitVec 8) (s : State) : Host.Outcome State Fault Refusal := s.modeReq c src tag 7

/-- MODE_REQUEST_THAW: a core's request is rejected ILLEGAL (R42). -/
def execModeRequestThaw (c : Fin 4) (src : ModeSrc) (tag : BitVec 8) (s : State) : Host.Outcome State Fault Refusal := s.modeReq c src tag 8

/-! Resets. -/

/-- CHANNEL_RESET: a low of ns on the wire (R409, R410); between 45 and 50 µs either outcome. Without valid firmware every channel stays in FROST
(R397). -/
def execChannelReset (c : Fin 4) (ns : Nat) (s : State) : Host.Outcome State Fault Refusal :=
  s.act c fun m ch =>
    let mode := ch.objN (ch.idx 0x3090) 1 0
    let low : Bool := decide (50000 ≤ ns) || (decide (45000 ≤ ns) && ch.pick 740 2 == 1)
    if low && (mode == 0 || mode == 2) && s.lamp.life == .up then
      (ch.resetBy m 1).startCold none
    else ch

/-- SNUFF_RESPONSE (R209, R210). -/
def execSnuffResponse (c : Fin 4) (s : State) : Host.Outcome State Fault Refusal :=
  s.act c fun m ch =>
    match ch.snuff with
    | some ⟨w, false⟩ =>
      if ch.objN (ch.idx 0x3040) 1 1 = 0 then { ch with snuff := some ⟨w, true⟩ } else (ch.resetBy m 3).startCold none
    | _ => ch

/-- WATCHDOG_EXPIRY (R162). -/
def execWatchdogExpiry (c : Fin 4) (s : State) : Host.Outcome State Fault Refusal :=
  s.act c fun m ch => if ch.wdtRuns then ch.wdtExpire m else ch

/-! The cold channel start (R399). -/

/-- Step 2: the pending plan of the cache-partition object, activated for the mode the start ends in; refused, the default plan applies
(R287, R386). -/
def Chan.loadPlan (ch : Chan) (goal : Nat) : Chan :=
  let v := fun (sub d : Nat) => BitVec.ofNat 32 (ch.objN (ch.idx 0x3070) sub d)
  let put := fun (ch : Chan) (off : Nat) (x : W32) => ch.setReg off (regLoaded off x)
  let ch := put (put (put (put ch 0x70030 (v 1 0xC8)) 0x70034 (v 2 0x20102010)) 0x70038 (v 3 0x20102010)) 0x60050 (v 4 0x81020)
  let ch := (List.range 8).foldl (fun (ch : Chan) n => put (put ch (0x70040 + 4 * n) (v (5 + n) 0)) (0x60060 + 4 * n) (v (13 + n) 0)) ch
  let ch := ch.activate goal
  if ch.planBad then { ch with plan := Plan.default } else ch

/-- Zeros written to bytes [lo, hi) of the window; poison on whole lines among them goes (R302, R322, R401). -/
def Chan.zeroHdm (ch : Chan) (lo hi : Nat) : Chan :=
  let inside := fun (line : Nat) => lo ≤ line * 64 - hdmBase && line * 64 - hdmBase + 64 ≤ hi
  { ch with
    cxl := ch.cxl.filter (fun x => !(lo ≤ x.1 && x.1 < hi)), cxlPois := ch.cxlPois.filter (fun x => !inside x.1),
    cxlTag := ch.cxlTag.filter fun x => !inside x.1 }

/-- The scrub of the Sealed HDM range (R322, R323). -/
def Chan.scrub (ch : Chan) : Chan :=
  let i := ch.idx 0x3060
  if ch.objN i 5 0 = 1 then ch.zeroHdm (ch.objN i 3 0) (min (ch.objN i 3 0 + ch.objN i 4 0) ch.hdmSize) else ch

/-- Memory test (R401): the channel, and whether it passed. Its passes write every line and the tag store, whether it passes or fails; what the
word at a failing address then holds is a free value, and the test goes on after it (DESIGN CHOICE, log 59). -/
def Chan.memTest (ch : Chan) (fail : Option (BitVec 48)) : Chan × Bool :=
  let i := ch.idx 0x3010
  let done : Chan := { ch.zeroHdm 0 ch.hdmSize with epoch := 1#12, cxlTag := [] }
  match fail with
  | some a =>
    let word := a.toNat / 8 * 8
    let done := if ch.inHdm word then { done with cxl := writeBytes done.cxl (word - hdmBase) (leBytes (ch.draw 67).toNat 8) } else done
    ((done.setObj i 0xB 1 2).setObj i 0xC 8 a.toNat, false)
  | none => (done.setObj i 0xB 1 1, true)

/-- The image a channel loads: that of the active slot, else the fall-back slot's, and the failure code to record (R399, R402). -/
def Lamp.imageFor (l : Lamp) (n : Fin 4) : Option (List Byte) × Nat :=
  let x := l.item (.image n)
  let code := fun (b : List Byte) => imageCode l n x.minimum 0 false b
  let a := x.slot x.active
  let b := x.slot (1 - x.active)
  if code a = 0 then (some a, 0) else if b ≠ [] ∧ code b = 0 then (some b, code a) else (none, code a)

/-- Step 5: boot image and microcode section (R187, R188, R191, R194). The bytes of the boot image move into the Calm store in the channel's
slots of the host port (R21). -/
def Chan.loadImage (ch : Chan) (l : Lamp) (b : List Byte) (patch : Ucode) : Chan :=
  let i := ch.idx 0x3030
  let mc := mcOf b
  let ch := { ch with bulk := bootOf b, bulkAt := 0, ucode := patch }
  let note := fun (ch : Chan) (ver res claim off : Nat) => (((ch.setObj i 3 4 ver).setObj i 4 1 res).setObj i 5 8 claim).setObj i 6 4 off
  if mcLen b = 0 then note ch 0 1 0 0xFFFFFFFF else
  match muCheck l ch.num (ch.objN i 7 0) mc with
  | some (n, off) => note ch 0 (1 + n) 0 off
  | none => { note ch (fieldAt mc 0xC 4) 0 (claimOf mc) 0xFFFFFFFF with ucode := muLoad mc patch }

/-- Step 1: the domain is powered, every block at its reset values; the channel in THAW and in transition. The Sealed ranges come
into force at a cold channel start, not at an image activation (R323). -/
def Chan.powerUp (ch : Chan) (goal : Nat) : Chan :=
  let exp : Bool := ch.objN (ch.idx 0x3000) 3 0 == 2
  let kept := ch.kept
  let sealed := ch.sealed
  let ch := { ch.lose .starting with goal := some goal, kept := ch.kept }
  let ch := ((ch.putF 0x14 4 4 goal).putF 0x14 8 2 3).putF 0x24 0 2 (ch.objN (ch.idx 0x3020) 4 1)
  let ch := if exp then ch.setBit 0x50014 8 else ch
  if kept then { ch with sealed := sealed } else { ch with sealed := Vector.ofFn fun i => ch.objN (ch.idx 0x3060) (1 + i.val) 0 }

/-- Steps 2 and 3, and 4 but for an image activation: Calm store zero, masks and plan, vendor patch, CXL. False when the patch leaves
the channel in FROST (R189). -/
def Chan.prepare (ch : Chan) (l : Lamp) (goal : Nat) (x : Option ExpanderFacts) : Chan × Bool :=
  let i := ch.idx 0x3030
  let p := l.item .patch
  let b := p.slot p.active
  let r := patchResult p.minimum b
  let ch := (ch.drawSalt.loadPlan goal).setObj i 2 1 r
  let ch := ch.setObj i 1 4 (if r = 0 then vendorLevel b else 0)
  let ch := match x with | some x => (ch.train x).newEpoch x.firstTagLineValid | none => ch
  (if x.isSome then ch.scrub else ch, r == 0 || (r == 1 && p.minimum == 0))

/-- Steps 1 to 6 on a channel: what it becomes, and the code to record for its image (none when the image was not reached). -/
def Chan.coldSteps (ch : Chan) (l : Lamp) (x : Option ExpanderFacts) (memFail : Option (BitVec 48)) : Chan × Option Nat :=
  let goal := ch.goal.getD ch.startMode
  let link := if x.isSome then [] else [0x60000, 0x60004, 0x60008].map fun o => (o, ch.reg o)
  let ch := link.foldl (fun (ch : Chan) r => ch.setReg r.1 r.2) (ch.powerUp goal)
  match ch.prepare l goal x with
  | (ch, false) => (ch.lose .frost, none)
  | (ch, true) =>
    match l.imageFor ch.num with
    | (none, code) => (ch.lose .frost, some code)
    | (some b, code) =>
      let p := l.item .patch
      let ch := ch.loadImage l b (if ch.objN (ch.idx 0x3030) 2 0 = 0 then patchStore (p.slot p.active) else Ucode.empty)
      let test : Bool := x.isSome && ch.objN (ch.idx 0x3010) 0xA 0 == 1
      let (ch, ok) := if test then ch.memTest memFail else (ch, true)
      if !ok then (ch.lose .frost, some code)
      else ({ ch with loaded := true, lateSeen := x.isNone && ch.lateSeen }, some code)

/-- The start of a channel that is due one: the channel, its Mantle table (R201), the code of its image object. -/
def State.coldStart (s : State) (c : Fin 4) (x : Option ExpanderFacts) (memFail : Option (BitVec 48)) : State :=
  let (ch, code) := (s.ch c).coldSteps s.lamp x memFail
  let it := s.lamp.item (.image c)
  let it := match code with | some k => if k = 0 then it else { it with result := k } | none => it
  let it := if ch.life = .frost ∧ it.state = 4 then { it with state := 0 } else it
  { s with chans := s.chans.set c ch, mantles := s.mantles.set c MantleTable.reset, lamp := s.lamp.setItem (.image c) it }

/-- A start whose regulator fails as the domain is powered: the channel rests in FROST (R460, R461). -/
def State.startFails (s : State) (c : Fin 4) : State :=
  let it := s.lamp.item (.image c)
  let it := if it.state = 4 then { it with state := 0 } else it
  { s.onChan c fun ch => ch.railFails (s.mtl c) with mantles := s.mantles.set c MantleTable.reset, lamp := s.lamp.setItem (.image c) it }

/-- COLD_CHANNEL_START: a start that has been commanded runs (R399); each is counted (R385). `rail` says that the regulator has followed
its first command (R461). -/
def execColdChannelStart (c : Fin 4) (x : ExpanderFacts) (memFail : Option (BitVec 48)) (rail : Bool) (s : State) : Host.Outcome State Fault Refusal :=
  let ch := s.ch c
  if s.lamp.life = .up ∧ ch.life = .starting ∧ !ch.loaded then
    let s : State := s.onChan c fun ch => { ch with free := ch.free + 1 }.bumpStatus 1 0
    .next (if rail then s.coldStart c (some x) memFail else s.startFails c)
  else .next s

/-- A core as it is released (R54, R400). -/
def Core.released : Core :=
  let t := mkTaper 0 0xFFFFFFFFFFFF 0#12 0x1FF#12 0 true
  { Core.reset with pcc := t, c := Core.reset.c.set 0 t }

/-- Step 7: the cores released into the mode the start ends in, or held at rest in THAW, when what is left of the image has been moved (R21,
R51, R399, R400). The times shown are free (log 3). -/
def Chan.release (ch : Chan) : Chan :=
  let ch := ch.bulkMove ch.bulk.length
  let tgt := ch.goal.getD ch.startMode
  let us := ((ch.draw 64).truncate 20 : BitVec 20)
  let ms := ((ch.draw 65).truncate 32 : BitVec 32)
  let ch := { ch with cores := Vector.replicate 8 Core.released, life := .up, goal := none, loaded := false, kept := false }
  let ch := if tgt = 5 then ch.putF 0x24 8 2 (ch.fld 0x24 0 2) else ch
  let ch := (((ch.putF 0x14 0 4 tgt).putF 0x14 4 4 tgt).putF 0x14 8 2 0).setBit 0x14 29
  (ch.setReg 0x1C (us.zeroExtend 32)).setObj (ch.idx 0x3000) 4 4 ms.toNat

/-- CORE_RELEASE; an image activation ends with it (R405, R407). -/
def execCoreRelease (c : Fin 4) (s : State) : Host.Outcome State Fault Refusal :=
  let ch := s.ch c
  if ch.life = .starting ∧ ch.loaded then
    let it := s.lamp.item (.image c)
    let it := if it.state = 4 then { it with state := 0 } else it
    .next { (s.onChan c fun ch => { ch with free := ch.free + 1 }.release) with lamp := s.lamp.setItem (.image c) it }
  else .next s

end Sys2Proof.Machine
end

