-- ==== Sys2Proof/Machine/Obj.lean ====
section
/-! DEFINITION. The object dictionary: which objects there are, their types, access, authority, storage and values; the digest; sessions
and the authority of a request (R32, R363 to R388, R394 to R396, R403, R428, R429, R358 to R361). -/

namespace Sys2Proof.Machine

/-- Access of an object's value (R367). -/
inductive OAcc | const | ro | rw | wo
  deriving DecidableEq, Repr

/-- A value of the dictionary: type code, bytes (most, for a VSTRING), access, class a write needs, storage (0 Volatile, 1 Config,
2 Persistent), default (R365 to R374). -/
structure ODef where
  ty    : Nat
  len   : Nat
  acc   : OAcc
  cls   : Nat
  store : Nat
  dflt  : Nat
  deriving DecidableEq, Repr

/-- Subindexes lo to hi of an object with one definition. -/
abbrev ORow := Nat × Nat × ODef

/-- Bytes of a numeric type code (R365). -/
def tyBytes : Nat → Nat
  | 1 | 2 | 6 => 1
  | 3 | 7 => 2
  | 4 | 8 | 10 => 4
  | 5 | 9 | 11 => 8
  | _ => 0

def ro (sub ty dflt : Nat) : ORow := (sub, sub, ⟨ty, tyBytes ty, .ro, 0, 0, dflt⟩)
def konst (sub ty dflt : Nat) : ORow := (sub, sub, ⟨ty, tyBytes ty, .const, 0, 0, dflt⟩)
def rw (sub ty cls store dflt : Nat) : ORow := (sub, sub, ⟨ty, tyBytes ty, .rw, cls, store, dflt⟩)
def wo (sub ty cls : Nat) : ORow := (sub, sub, ⟨ty, tyBytes ty, .wo, cls, 0, 0⟩)
def oct32 (sub : Nat) : ORow := (sub, sub, ⟨0xC, 32, .ro, 0, 0, 0⟩)

/-- An update object (R403). -/
def updateRows : List ORow :=
  [wo 1 0xE 2, ro 2 4 0, ro 3 4 0, wo 4 2 2, ro 5 2 0, ro 6 2 0, ro 7 2 0, ro 8 4 0, ro 9 4 0]

/-- The device's objects (R364, R375 to R382, R395, R396, R429, R358 to R361). -/
def deviceRows (idx : Nat) : Option (List ORow) :=
  if 0x2048 ≤ idx ∧ idx < 0x2050 then some [ro 1 2 0, ro 2 3 0, wo 3 0xE 2, oct32 4, wo 5 4 2]
  else if 0x2060 ≤ idx ∧ idx < 0x2064 then some [ro 1 2 0, ro 2 2 0, ro 3 4 0, ro 4 2 0xFF, wo 5 4 2, ro 6 3 0, ro 7 3 0]
  else if 0x7000 ≤ idx ∧ idx < 0x8000 then some [rw 1 3 2 1 0xFFFF, rw 2 3 2 1 0, (3, 3, ⟨0xD, 32, .rw, 2, 1, 0⟩)]
  else match idx with
  | 0x1000 => some [konst 1 4 0x4548, konst 2 4 0x04032000, konst 3 2 0x21, ro 4 4 0, konst 5 5 0]
  | 0x1001 => some [ro 1 4 0]
  | 0x1010 => some [ro 1 2 0, ro 2 4 0, wo 3 4 2]
  | 0x1F00 => some [oct32 1, ro 2 5 0, ro 3 2 0]
  | 0x1F50 | 0x1F51 => some updateRows
  | 0x2030 => some [oct32 1, wo 2 0xE 0, ro 3 4 0, wo 4 4 0]
  | 0x2040 => some [ro 1 1 0, (2, 9, ⟨2, 1, .ro, 0, 0, 0⟩), ro 10 3 0]
  | 0x2100 => some [rw 1 3 2 2 0xFFFF, rw 2 3 2 1 0, rw 3 3 2 1 0xFFFF, rw 4 4 2 1 1000, rw 5 2 2 1 1, rw 6 3 2 1 1024, rw 7 2 2 1 0,
      rw 8 4 2 1 20000000, rw 9 5 2 2 0, rw 10 2 2 0 0]
  | 0x2101 => some [ro 1 2 0, ro 2 2 0, ro 3 3 0, ro 4 3 0, ro 5 5 0, ro 6 1 0, ro 7 4 0, ro 8 3 0, ro 9 3 0, ro 10 0xE 0, ro 11 0xE 0,
      ro 12 1 0, ro 13 5 0, (14, 18, ⟨3, 2, .rw, 1, 0, 0⟩), ro 19 2 0]
  | 0x2102 | 0x2103 => some [(1, 5, ⟨3, 2, .rw, 1, 0, 0⟩), ro 6 2 0]
  | 0x2110 => some [(1, 64, ⟨5, 8, .rw, 2, 2, 0⟩)]
  | 0x2120 => some [(1, 16, ⟨3, 2, .rw, 2, 2, 0xFFFF⟩)]
  | _ => none

/-- The objects of a channel area, by offset (R384, R385, R51, R194, R210, R309, R323, R386, R387, R428). -/
def channelRows (off : Nat) : Option (List ORow) :=
  match off with
  | 0x000 => some [ro 1 3 0, ro 2 3 0, ro 3 2 0, ro 4 4 0, ro 5 2 0]
  | 0x010 => some (updateRows ++ [rw 10 2 2 1 0, ro 11 2 0, ro 12 5 0])
  | 0x020 => some [rw 1 2 1 0 0, ro 2 2 0, rw 3 2 2 1 2, rw 4 2 2 1 1, ro 5 2 0]
  | 0x030 => some [ro 1 4 0, ro 2 2 1, ro 3 4 0, ro 4 2 1, ro 5 5 0, ro 6 4 0xFFFFFFFF, rw 7 4 2 1 0]
  | 0x040 => some [rw 1 2 2 1 1, ro 2 3 0, ro 3 2 0xFF, ro 4 4 0, ro 5 5 0]
  | 0x050 => some [rw 1 2 2 1 0, rw 2 1 2 1 1, rw 3 3 2 1 400, ro 4 5 0, ro 5 2 0, ro 6 3 0, wo 7 2 2]
  | 0x060 => some [rw 1 4 2 1 0, rw 2 4 2 1 0, rw 3 5 2 1 0, rw 4 5 2 1 0, rw 5 1 2 1 0, ro 6 3 0, ro 7 3 0]
  | 0x070 => some [rw 1 4 2 1 0xC8, rw 2 4 2 1 0x20102010, rw 3 4 2 1 0x20102010, rw 4 4 2 1 0x81020, (5, 20, ⟨4, 4, .rw, 2, 1, 0⟩)]
  | 0x080 => some [rw 1 2 2 1 2]
  | 0x090 => some [rw 1 2 2 1 0, ro 2 3 0]
  | _ => none

def inArea (idx : Nat) : Bool := 0x3000 ≤ idx && idx < 0x7000
def areaChan (idx : Nat) : Fin 4 := ⟨(idx - 0x3000) / 0x1000 % 4, Nat.mod_lt _ (by decide)⟩
/-- The application range, and the channel it belongs to (R364). -/
def inApps (idx : Nat) : Bool := 0x8000 ≤ idx && idx < 0xF000
def appChan (idx : Nat) : Fin 4 := ⟨(idx - 0x8000) / 0x1C00 % 4, Nat.mod_lt _ (by decide)⟩

def objRows (idx : Nat) : Option (List ORow) := if inArea idx then channelRows (idx % 0x1000) else deviceRows idx

/-- The highest subindex of an object (R363). -/
def lastSub (rows : List ORow) : Nat := rows.foldl (fun n r => max n r.2.1) 0

/-- An application object's definition (R388). -/
def AppObj.odef (a : AppObj) : ODef :=
  ⟨a.ty, a.len, match a.acc with | 0 => .ro | 1 => .rw | _ => .wo, a.cls, 0, 0⟩

def Lamp.app (l : Lamp) (idx : Nat) : Option AppObj := l.apps.find? fun a => a.index == idx

/-- The definition of a value, or the error of R363 and R388. Subindex 00 is a U8, CONST. -/
def Lamp.odef (l : Lamp) (idx sub : Nat) : Except Nat ODef :=
  let zero := fun (n : Nat) => (⟨2, 1, .const, 0, 0, n⟩ : ODef)
  if inApps idx then
    match l.app idx with
    | none => .error 0x0C
    | some a => if sub = 0 then .ok (zero 1) else if sub = 1 then .ok a.odef else .error 2
  else match objRows idx with
    | none => .error 1
    | some rows =>
      if sub = 0 then .ok (zero (lastSub rows)) else
      match rows.find? fun r => r.1 ≤ sub && sub ≤ r.2.1 with
      | some r => .ok r.2.2
      | none => .error 2

/-! Stored values. -/

/-- The bytes stored for a value, none when it has its default. -/
def State.objBytes (s : State) (idx sub : Nat) : List Byte :=
  if inArea idx then (s.ch (areaChan idx)).obj idx sub else spGet [] s.lamp.objs (objKey idx sub)

/-- A value put into its place; its default is not listed (that of a VSTRING is the empty string). -/
def State.putObj (s : State) (idx sub : Nat) (d : ODef) (b : List Byte) : State :=
  let b := if d.ty ≠ 0xD ∧ b = leBytes d.dflt d.len then [] else b
  if inArea idx then s.onChan (areaChan idx) fun ch => { ch with objs := spSet [] ch.objs (objKey idx sub) b }
  else { s with lamp := { s.lamp with objs := spSet [] s.lamp.objs (objKey idx sub) b } }

/-- A stored number, d when it has its default. -/
def State.objNum (s : State) (idx sub d : Nat) : Nat := let b := s.objBytes idx sub; if b.isEmpty then d else leNat b

/-- A number of the Lamplighter's own objects. -/
def Lamp.num (l : Lamp) (idx sub d : Nat) : Nat := let b := spGet [] l.objs (objKey idx sub); if b.isEmpty then d else leNat b
def Lamp.setNum (l : Lamp) (idx sub n v d : Nat) : Lamp :=
  { l with objs := spSet [] l.objs (objKey idx sub) (if v = d then [] else leBytes v n) }

/-- A ring counter, with its saturation bit in subindex `sat` (R357). -/
def Lamp.count (l : Lamp) (idx sub sat bit : Nat) : Lamp :=
  let v := sticky 0xFFFF (l.num idx sub 0) 1
  let l := l.setNum idx sub 2 v 0
  let old := l.num idx sat 0
  if v = 0xFFFF ∧ !nbit old bit then l.setNum idx sat 1 (old + 2 ^ bit) 0 else l

/-! The ring node's configuration and status (R346, R349, R358). -/

def Lamp.nodeId (l : Lamp) : Nat := l.num 0x2100 1 0xFFFF
def Lamp.masterId (l : Lamp) : Nat := l.num 0x2100 2 0
def Lamp.standbyId (l : Lamp) : Nat := l.num 0x2100 3 0xFFFF
def Lamp.frames (l : Lamp) : Nat := l.num 0x2100 5 1
def Lamp.frameLen (l : Lamp) : Nat := l.num 0x2100 6 1024

/-- The ring configuration as it is written now. -/
def Lamp.conf (l : Lamp) : RingConf :=
  { nodeId := l.nodeId, masterId := l.masterId, standbyId := l.standbyId, period := l.num 0x2100 4 1000, frames := l.frames,
    frameLen := l.frameLen, source := l.num 0x2100 7 0, cycle := l.num 0x2100 8 20000000 }

def portIdx : RingPort → Fin 2 | .a => 0 | .b => 1
def otherPort : RingPort → RingPort | .a => .b | .b => .a
def Ring.locked (r : Ring) (p : RingPort) : Bool := r.lock[portIdx p]

/-- 0x2101:02 (R349, R354): bypassed while the relay is released. -/
def Ring.stateCode (r : Ring) : Nat :=
  if !r.bypHold then 4 else
  match r.locked .a, r.locked .b with
  | true, true => 1
  | true, false => 2
  | false, true => 3
  | false, false => 0

/-- 0x2101:01. -/
def State.role (s : State) : Nat :=
  let id := s.ring.conf.nodeId
  if id = 0xFFFF then 0 else if s.ring.sweeping then 3 else if id = s.ring.conf.standbyId then 2 else 1

/-- Both cable estimates rest on 16 exchanges (R345). -/
def Ring.calibrated (r : Ring) : Bool := r.cable.all fun l => 16 ≤ l.length

/-- The mean cable delay of a port in 2^-16 ns. -/
def Ring.cableOf (r : Ring) (p : RingPort) : Int :=
  let l := r.cable[portIdx p]
  if l.isEmpty then 0 else l.foldl (· + ·) 0 / l.length

/-- Bits set among bytes. -/
def bitCount (b : List Byte) : Nat := (b.map fun x => popcount x).sum

/-- The CRC-32C of the ring, the flash and the debug wire (R329). -/
def crc32c (b : List Byte) : W32 := (crcRun 0x61EDC6F41#64 0xFFFFFFFF#64 b).truncate 32 ^^^ 0xFFFFFFFF#32

/-! The digest (R342, R379). -/

def Lamp.prefix' (l : Lamp) : Nat := match l.digest with | some d => d.toNat / 2 ^ 192 | none => 0

/-- The objects that hold Config-class values, in ascending index. -/
def configIdx : List Nat :=
  [0x2100] ++ (List.range 4).flatMap (fun n => (List.range 10).map fun o => 0x3000 + n * 0x1000 + o * 16)
    ++ (List.range 4096).map fun g => 0x7000 + g

/-- A value as on the ring: numbers big-endian (R329, R365). -/
def ringOrder (ty : Nat) (b : List Byte) : List Byte := if ty < 0xC then b.reverse else b

/-- The value of a stored object: what is stored, else its default. -/
def State.stored (s : State) (idx sub : Nat) (d : ODef) : List Byte :=
  let b := s.objBytes idx sub
  if b.isEmpty then (if d.ty = 0xD then [] else leBytes d.dflt d.len) else b

/-- The canonical serialisation (R379). -/
def State.serial (s : State) : List Byte :=
  configIdx.flatMap fun idx =>
    ((objRows idx).getD []).flatMap fun r =>
      if r.2.2.store ≠ 1 then [] else
      (List.range (r.2.1 + 1 - r.1)).flatMap fun i =>
        let v := s.stored idx (r.1 + i) r.2.2
        (leBytes idx 2).reverse ++ [BitVec.ofNat 8 (r.1 + i), BitVec.ofNat 8 r.2.2.ty] ++ (leBytes v.length 4).reverse ++ ringOrder r.2.2.ty v

/-! Values the device produces. -/

def itemOf (idx : Nat) : Item := if idx = 0x1F50 then .firmware else if idx = 0x1F51 then .patch else .image (areaChan idx)

/-- Whether a slot holds a valid item (R402, R403). -/
def Lamp.validItem (l : Lamp) (i : Item) (b : List Byte) : Bool :=
  match i with | .image n => imageCode l n 0 0 false b == 0 | _ => vendorCode 0 b == 0

/-- Subindex 09: the version of the slot not active, 0 when it holds no valid item. -/
def Lamp.fallback (l : Lamp) (i : Item) : Nat :=
  let x := l.item i
  let b := x.slot (1 - x.active)
  if l.validItem i b then itemVersion i b else 0

/-- The health bits (R377). -/
def State.health (s : State) : Nat :=
  let l := s.lamp
  let well := fun (n : Fin 4) =>
    let ch := s.ch n
    let m := ch.startMode
    if m = 7 then ch.life == .frost else ch.life == .up && ch.mode == m && ch.trans.isNone
  b2n l.loadOk + 2 * b2n s.ring.calibrated + 4 * b2n l.digest.isSome + 8 * b2n (l.running == (l.item .firmware).active)
    + ((List.finRange 4).map fun n => 2 ^ (4 + n.val) * b2n (well n)).sum
    + ((List.finRange 4).map fun n => 2 ^ (8 + n.val) * b2n ((s.ch n).objN ((s.ch n).idx 0x3040) 2 0 == 0)).sum

/-- The device checks of the isolation object (R323). -/
def Chan.isoChecks (ch : Chan) : Nat :=
  let c6 : Bool := ch.life == .up && 2 ≤ ch.mode && ch.mode ≤ 5
  let plan : Bool := ch.pendingPlan == ch.plan && !ch.planBad
  let sealed : Bool := ch.sealed[1] != 0 && decide (ch.sealed[0] + ch.sealed[1] ≤ saveBase) && (ch.mode != 5 || decide (ch.split ≤ ch.sealed[0]))
  let level := ch.fld 0x300000 0 2
  b2n c6 + 2 * b2n plan + 4 * b2n !ch.lateSeen + 8 * b2n sealed + 16 * b2n !(level != 0 && ch.bit 0x300000 4) + 32 * b2n (level == 0)

/-- Seconds left of a debug grant (R429). -/
def Lamp.grantLeft (l : Lamp) (ch : Chan) : Nat :=
  if ch.fld 0x300000 0 2 = 0 then 0 else (ch.wire.life - l.time + 2999999999) / 3000000000

/-- The value of a device or channel object as the Lamplighter serves it to a node, numbers in memory order. -/
def State.value (s : State) (src : Nat) (idx sub : Nat) (d : ODef) : List Byte :=
  let l := s.lamp
  let n := fun (v : Nat) => leBytes v d.len
  if sub = 0 then n d.dflt
  else if d.acc = .rw then s.stored idx sub d
  else if inArea idx then
    let ch := s.ch (areaChan idx)
    match idx % 0x1000, sub with
    | 0x020, 2 => n (if ch.life = .frost then 7 else ch.mode + 128 * b2n (ch.trans.isSome || ch.life != .up))
    | 0x020, 5 => n (ch.fld 0x14 24 4)
    | 0x060, 6 => n ch.isoChecks
    | 0x010, k => if k ≤ 9 then n (upd (itemOf idx) k) else s.stored idx sub d
    | _, _ => s.stored idx sub d
  else if 0x2048 ≤ idx ∧ idx < 0x2050 then
    let k := l.keys[(idx - 0x2048) % 8]'(Nat.mod_lt _ (by decide))
    let key := if idx = 0x2048 then Config.vendorKey else k.key
    match sub with
    | 1 => n k.state
    | 2 => n k.roles.toNat
    | _ => if k.state = 0 then List.replicate 32 0#8 else (leBytes (sha256 key).toNat 32).reverse
  else if 0x2060 ≤ idx ∧ idx < 0x2064 then
    let ch := s.ch ⟨(idx - 0x2060) % 4, Nat.mod_lt _ (by decide)⟩
    let held := ch.fld 0x300000 0 2
    match sub with
    | 1 => n held
    | 2 => n (if held = 0 then 0 else ch.fld 0x300000 2 3)
    | 3 => n (l.grantLeft ch)
    | 4 => n (if held = 0 then 0xFF else ch.fld 0x300000 8 3)
    | _ => s.stored idx sub d
  else match idx, sub with
  | 0x1000, 4 => n (vendorRev ((l.item .firmware).slot l.running))
  | 0x1000, 5 => n Config.serial.toNat
  | 0x1001, _ => n s.health
  | 0x1010, 1 => n l.store
  | 0x1010, _ => n l.storeGen
  | 0x1F00, 1 => (match l.digest with | some x => (leBytes x.toNat 32).reverse | none => List.replicate 32 0#8)
  | 0x1F00, 2 => n l.prefix'
  | 0x1F00, _ => n (b2n l.digest.isNone)
  | 0x1F50, k => n (upd .firmware k)
  | 0x1F51, k => n (upd .patch k)
  | 0x2030, _ => n (((l.opened.find? fun x => x.1 == src).map fun x => x.2.toNat).getD 0)
  | 0x2040, 1 => n (b2n l.provisioned)
  | 0x2040, 2 => n l.running
  | 0x2040, 3 => n l.attempts
  | 0x2040, 10 => n l.expiries
  | 0x2040, k => n (nth 0 (l.items.toList.map fun x => x.minimum) (k - 4))
  | 0x2101, 1 => n s.role
  | 0x2101, 2 => n s.ring.stateCode
  | 0x2101, 3 => n s.ring.epoch.toNat
  | 0x2101, 4 => n s.ring.master.toNat
  | 0x2101, 5 => n s.ring.delay.toNat
  | 0x2101, 6 => n (b2n s.ring.calibrated)
  | 0x2101, 7 => n (if s.ring.sweeping then s.ring.thead else 0)
  | 0x2101, 8 => n (if s.ring.sweeping then bitCount s.ring.present else 0)
  | 0x2101, 9 => n (if s.ring.sweeping then bitCount s.ring.consist else 0)
  | 0x2101, 10 => if s.ring.sweeping then takePad 512 s.ring.present else List.replicate 512 0#8
  | 0x2101, 11 => if s.ring.sweeping then takePad 512 s.ring.consist else List.replicate 512 0#8
  | 0x2101, 12 => n (b2n (s.ring.sweeping && s.ring.dup))
  | 0x2101, 13 => n l.prefix'
  | _, _ => s.stored idx sub d
where
  /-- Subindexes 02 to 09 of an update object (R403). -/
  upd (i : Item) (k : Nat) : Nat :=
    let x := s.lamp.item i
    match k with
    | 2 => x.staged.length
    | 3 => (crc32c x.staged).toNat
    | 5 => x.state
    | 6 => x.result
    | 7 => x.active
    | 8 => itemVersion i (x.slot x.active)
    | _ => s.lamp.fallback i

/-! Sessions and authority (R367, R368, R382, R383). -/

/-- The class a SESSION carries; `src` none asks for the session alone. -/
def Lamp.authority (l : Lamp) (src : Option (BitVec 12)) (num : W32) : Except Nat Nat :=
  if num = 0#32 then .ok 0 else
  match l.sessions.find? fun x => x.num == num && decide (l.time < x.till) && (match src with | some n => x.node == n | none => true) with
  | some x => .ok x.cls
  | none => .error 6

/-- The class a channel's request carries on an index (R369), and the cap a Mantle other than 0x000 has on application objects. -/
def State.chanAuthority (s : State) (c : Fin 4) (mantle : BitVec 12) (idx : Nat) : Except Nat (Nat × Bool) :=
  let own : Bool := (inArea idx && areaChan idx == c) || (inApps idx && appChan idx == c)
  if own then
    if mantle = 0#12 then .ok ((s.ch c).objN ((s.ch c).idx 0x3080) 1 2, false) else .ok (0, inApps idx)
  else if (0x1000 ≤ idx ∧ idx < 0x2000) ∨ (0x2100 ≤ idx ∧ idx < 0x2104) then .ok (0, false) else .error 5

end Sys2Proof.Machine
end

