-- ==== Sys2Proof/Machine/Update.lean ====
section
/-! DEFINITION. Field update: staging, the commands of an update object, activation and its pauses (R393, R403 to R408), and the
parameter store, digest and key slots (R373, R378, R379, R394, R395). -/

namespace Sys2Proof.Machine

/-! Channels through an activation (R407). -/

/-- A channel cannot be activated: a core is halted by debug, or it rests in THAW (R406). -/
def Chan.unready (ch : Chan) : Bool := ch.anyHalted || (ch.life == .up && ch.mode == 8 && ch.trans.isNone)

/-- The channel stops, writes back and is reset with cause 0x05; its CXL link stays as it is (R407). A channel in DEW is woken first, and one whose start mode
is 0x7 is left in FROST (R51). -/
def Chan.stopForImage (m : MantleTable) (ch : Chan) : Chan :=
  let ch := { ch with trans := none }
  let ch := if ch.mode = 6 then ch.leaveDew else ch
  let ch := ((ch.stopAll m).tracePower 8).writeBack
  let link := [0x60000, 0x60004, 0x60008].map fun o => (o, ch.reg o)
  let sealed := ch.sealed
  let ch := (ch.lose .starting).setObj (ch.idx 0x3000) 3 1 5
  if ch.startMode = 7 then { ch with life := .frost } else
  link.foldl (fun (ch : Chan) r => ch.setReg r.1 r.2) { ch with kept := true, goal := some ch.startMode, sealed := sealed }

/-- The image of a channel takes effect: a channel that is up or resets into a start runs the steps of the cold start again; one in
FROST loads it at its next start. A cold start that has already read its image reads the new one (R191, R407). -/
def State.activateImage (s : State) (c : Fin 4) : State :=
  if (s.ch c).life = .up then
    let s := s.onChan c fun ch => { ch.stopForImage (s.mtl c) with free := ch.free + 1 }
    let it := s.lamp.item (.image c)
    if (s.ch c).life = .frost then
      { s with lamp := s.lamp.setItem (.image c) { it with state := 0, result := 0 }, mantles := s.mantles.set c MantleTable.reset }
    else ({ s with lamp := s.lamp.setItem (.image c) { it with state := 4, result := 0 } } : State).coldStart c none none
  else if (s.ch c).life = .starting ∧ (s.ch c).loaded then
    let s := s.onChan c fun ch => ({ ch with loaded := false, kept := true, free := ch.free + 1 } : Chan).setObj (ch.idx 0x3000) 3 1 5
    ({ s with lamp := s.lamp.setItem (.image c) { s.lamp.item (.image c) with state := 4, result := 0 } } : State).coldStart c none none
  else
    let it := s.lamp.item (.image c)
    { s with lamp := s.lamp.setItem (.image c) { it with state := 0, result := 0 } }

/-- The Lamplighter serves the dictionary (R27, R397, R407). -/
def Lamp.serving (l : Lamp) : Bool := l.life == .up && l.pause.isNone

/-- The firmware runs from another slot: the count of its expiries begins anew (R396). -/
def Lamp.runSlot (l : Lamp) (n : Nat) : Lamp := { l with running := n, attempts := if l.running = n then l.attempts else 0 }

/-- A Lamplighter firmware activation begins: dictionary service pauses, sessions and debug authorisations end (R27, R407, R417). -/
def State.pauseFirmware (s : State) : State :=
  let it := s.lamp.item .firmware
  let l := s.lamp.setItem .firmware { it with state := 4, result := 0 }
  { s with
    chans := s.chans.map fun (ch : Chan) =>
      let ch := ch.endGrant
      { ch with llDown := true, wire := { ch.wire with nonce := none, check := none } },
    lamp := { (l.runSlot it.active) with pause := some false, sessions := [], opened := [], challenges := [] } }

/-- The older of two copies: an invalid one first, else the lower generation. -/
def olderOf (a b : Option Nat) : Fin 2 :=
  match a, b with
  | none, _ => 0
  | _, none => 1
  | some x, some y => if x ≤ y then 0 else 1

/-- The active slots written to the older copy of the boot record, which becomes the newer (R393). -/
def Lamp.writeBoot (l : Lamp) : Lamp :=
  let g := fun (k : Fin 2) => (l.boot[k]).map (·.gen)
  { l with boot := l.boot.set (olderOf (g 0) (g 1)) (some ⟨max ((g 0).getD 0) ((g 1).getD 0) + 1, (l.items.map fun x => x.active).toList⟩) }

/-- An item passes to state 4 with its slots swapped, and the boot record begins to be written (R393, R405, R407). -/
def State.activateItem (s : State) (i : Item) : State :=
  let it := s.lamp.item i
  { s with lamp := { s.lamp.setItem i { it with active := 1 - it.active, staged := [], buffer := [], state := 4, result := 0 } with booting := some (i, false) } }

/-- The boot record names the new slot, and the item is loaded (R407). -/
def State.bootWritten (s : State) : State :=
  match s.lamp.booting with
  | none => s
  | some (i, back) =>
    let s := { s with lamp := { s.lamp.writeBoot with booting := none } }
    let it := s.lamp.item i
    match i with
    | .image c => s.activateImage c
    | .firmware => if back then { s with lamp := { s.lamp.runSlot it.active with pause := some true } } else s.pauseFirmware
    | .patch => { s with lamp := s.lamp.setItem i { it with state := 0, result := 0 } }

/-- The code an item's bytes give under R402 as an update. -/
def State.updateCode (s : State) (i : Item) (b : List Byte) : Nat :=
  let m := (s.lamp.item i).minimum
  match i with
  | .image c => imageCode s.lamp c m (s.objNum ((s.ch c).idx 0x3030) 7 0) true b
  | _ => vendorCode m b

def State.blocked (s : State) (i : Item) : Bool := match i with | .image c => (s.ch c).unready | _ => false

/-- PREPARE, states 0 and 2. -/
def State.prepareItem (s : State) (i : Item) : State × Nat :=
  let it := s.lamp.item i
  if it.state = 0 ∨ it.state = 2 then
    let it := (it.setSlot (1 - it.active) [])
    ({ s with lamp := s.lamp.setItem i { it with staged := [], buffer := [], state := 1 } }, 0)
  else (s, 0x23)

/-- ACTIVATE, state 2 with something staged: state 3. -/
def State.activateStaged (s : State) (i : Item) : State × Nat :=
  let it := s.lamp.item i
  if it.state ≠ 2 ∨ it.staged = [] then (s, 0x23) else ({ s with lamp := s.lamp.setItem i { it with state := 3 } }, 0)

/-- The verification of an item in state 3 ends: the activation begins, or the item goes back to state 2 with the code of the first check
that fails (R402, R405, R406). -/
def State.verified (s : State) (i : Item) : State :=
  let it := s.lamp.item i
  let code := s.updateCode i it.staged
  let code := if code = 0 ∧ s.blocked i then 0x2B else code
  if code ≠ 0 then { s with lamp := s.lamp.setItem i { it with state := 2, result := code } }
  else ({ s with lamp := s.lamp.setItem i (it.setSlot (1 - it.active) it.staged) } : State).activateItem i

/-- The items, in the order in which the Lamplighter verifies those that wait (R408). -/
def allItems : List Item := [.firmware, .patch] ++ (List.finRange 4).map Item.image

/-- What an update does in one cycle in which no command comes: the write of the boot record ends, or else the verification of the first item in
state 3, or neither yet. How long they take is not stated: a free choice (DESIGN CHOICE, log 64). -/
def State.updateTick (s : State) : State :=
  let due := if s.lamp.serving then allItems.find? fun i => (s.lamp.item i).state == 3 else none
  if s.lamp.booting.isNone && due.isNone then s else
  let s' : State := { s with lamp := { s.lamp with free := s.lamp.free + 1 } }
  if s.lamp.life != .up || Config.choice s.lamp.free 98 % 2 == 0 then s'
  else if s.lamp.booting.isSome then s'.bootWritten
  else match due with | some i => s'.verified i | none => s'

/-- ABORT, states 1 and 2. -/
def State.abortItem (s : State) (i : Item) : State × Nat :=
  let it := s.lamp.item i
  if it.state = 1 ∨ it.state = 2 then ({ s with lamp := s.lamp.setItem i { it with staged := [], buffer := [], state := 0 } }, 0) else (s, 0x23)

/-- FALL BACK, state 0. -/
def State.fallBack (s : State) (i : Item) : State × Nat :=
  let it := s.lamp.item i
  if it.state ≠ 0 then (s, 0x23)
  else if s.lamp.fallback i = 0 then (s, 0x2C)
  else if itemSec i (it.slot (1 - it.active)) < it.minimum then (s, 0x28)
  else if s.blocked i then ({ s with lamp := s.lamp.setItem i { it with result := 0x2B } }, 0)
  else (s.activateItem i, 0)

/-- COMMIT: the OTP minimum rises to the active SECVER or patch level. -/
def State.commitItem (s : State) (i : Item) : State × Nat :=
  let it := s.lamp.item i
  let sec := itemSec i (it.slot it.active)
  if 32 < sec then (s, 8) else ({ s with lamp := s.lamp.setItem i { it with minimum := max it.minimum sec } }, 0)

/-- The command of subindex 04 (R405). While another item is activated it is answered 0x0A. -/
def State.itemCommand (s : State) (i : Item) (cmd : Nat) : State × Nat :=
  let others : Bool := allItems.any fun j => j != i && (s.lamp.item j).state == 4
  if cmd < 1 ∨ 5 < cmd then (s, 8) else if others then (s, 0x0A) else
  match cmd with
  | 1 => s.prepareItem i
  | 2 => s.activateStaged i
  | 3 => s.abortItem i
  | 4 => s.fallBack i
  | _ => s.commitItem i

/-- A block of staged data at an offset (R404). -/
def State.stage (s : State) (i : Item) (off : Nat) (b : List Byte) : State × Nat :=
  let it := s.lamp.item i
  if it.state ≠ 2 then (s, 0x23)
  else if off < it.staged.length then (s, if (it.staged.drop off).take b.length = b then 0 else 0x21)
  else if it.staged.length < off then (s, 0x20)
  else if itemSize i < off + b.length then (s, 0x22)
  else if 65536 < it.buffer.sum + b.length then (s, 0x0A)
  else ({ s with lamp := s.lamp.setItem i { it with staged := it.staged ++ b, buffer := it.buffer ++ [b.length] } }, 0)

/-- The end of the flash that the Lamplighter writes (R392). -/
def flashEnd : Nat := 0x1D00000

/-- Where a copy of the boot record and of the parameter store lies in the flash, and their sizes; the two sectors from 0x20000 on are never
written (R392). -/
def bootBase (copy : Nat) : Nat := copy * 0x10000
def paramBase (copy : Nat) : Nat := 0x1C00000 + copy * 0x80000
def bootSize : Nat := 0x10000
def paramSize : Nat := 0x80000

/-- Where a slot of an item lies in the flash (R392). -/
def flashBase (i : Item) (slot : Nat) : Nat :=
  match i with
  | .patch => 0x40000 + slot * 0x10000
  | .firmware => 0x100000 + slot * 0x100000
  | .image c => 0x400000 + (2 * c.val + slot) * 0x300000


/-! Keys (R394, R395). -/

/-- Whether some slot other than s holds an enrolled key with role 4. -/
def Lamp.otherRoot (l : Lamp) (s : Fin 8) : Bool :=
  (List.finRange 8).any fun k => k != s && (l.keys[k]).state == 1 && (l.keys[k]).roles.getLsbD 4

/-- A write of a key slot's subindex 03: 99 bytes, an empty slot 1–7; the first key enrolled holds role 4. -/
def Lamp.enrol (l : Lamp) (s : Fin 8) (b : List Byte) : Lamp × Nat :=
  let roles := BitVec.ofNat 16 (beNat (b.take 2))
  if s = 0 ∨ b.length ≠ 99 ∨ (l.keys[s]).state ≠ 0 ∨ (!l.provisioned ∧ !roles.getLsbD 4) then (l, 8)
  else ({ l with keys := l.keys.set s ⟨1, roles, b.drop 2⟩, provisioned := true }, 0)

/-- A write of a key slot's subindex 05. -/
def Lamp.revoke (l : Lamp) (s : Fin 8) (val : W32) : Lamp × Nat :=
  let k := l.keys[s]
  if s = 0 ∨ val ≠ 0x7265766B#32 ∨ k.state ≠ 1 ∨ !l.otherRoot s then (l, 8) else ({ l with keys := l.keys.set s { k with state := 2 } }, 0)

/-! The parameter store (R373, R378). -/

/-- The Config and Persistent values as they are stored. -/
def State.paramVals (s : State) : List (Nat × List Byte) :=
  let keep := fun (x : Nat × List Byte) =>
    match s.lamp.odef (x.1 / 256) (x.1 % 256) with | .ok d => d.store != 0 | .error _ => false
  s.lamp.objs.filter keep ++ (List.finRange 4).flatMap fun c => (s.ch c).objs.filter keep

/-- The bytes of a copy of the parameter store: every Config and Persistent value behind a header of index, subindex, type code and length, then
the generation and the CRC-32C (R392). The values are in ascending order and the numbers little-endian (DESIGN CHOICE, log 59). -/
def ParamCopy.bytes (p : ParamCopy) : List Byte :=
  let idxs := configIdx.filter (· < 0x2110) ++ [0x2110, 0x2120] ++ configIdx.filter (0x2110 < ·)
  let b := idxs.flatMap fun idx =>
    ((objRows idx).getD []).flatMap fun r =>
      if r.2.2.store = 0 then [] else
      (List.range (r.2.1 + 1 - r.1)).flatMap fun i =>
        let d := r.2.2
        let x := ((p.vals.find? fun x => x.1 == objKey idx (r.1 + i)).map fun x => x.2).getD (if d.ty = 0xD then [] else leBytes d.dflt d.len)
        leBytes idx 2 ++ [BitVec.ofNat 8 (r.1 + i), BitVec.ofNat 8 d.ty] ++ leBytes x.length 4 ++ x
  let b := b ++ leBytes p.gen 4
  b ++ leBytes (crc32c b).toNat 4

/-- A byte of the flash: of an item's slot, or of a valid copy of the parameter store; erased bytes read 0xFF, and so do the sectors never
written. None where a boot record lies, whose layout is not stated, where a copy is not valid, and above what the Lamplighter writes. -/
def Lamp.flashByte (l : Lamp) (a : Nat) : Option Byte :=
  let at' := fun (base size : Nat) (b : Option (List Byte)) => if base ≤ a ∧ a < base + size then some (b.map fun b => nth 0xFF#8 b (a - base)) else none
  let slots := (allItems.flatMap fun i => [(i, 0), (i, 1)]).map fun x => at' (flashBase x.1 x.2) (itemSize x.1) (some ((l.item x.1).slot x.2))
  let copies := (List.finRange 2).map fun k => at' (paramBase k.val) paramSize ((l.copies[k]).map fun p => p.bytes)
  let boots := [at' (bootBase 0) bootSize none, at' (bootBase 1) bootSize none]
  if flashEnd ≤ a then none else ((slots ++ copies ++ boots).findSome? fun x => x).getD (some 0xFF#8)

def copyGen : Option ParamCopy → Nat | some p => p.gen | none => 0

/-- The older of the two copies: an invalid one first, else the lower generation. -/
def Lamp.olderCopy (l : Lamp) : Fin 2 := olderOf ((l.copies[0]).map (·.gen)) ((l.copies[1]).map (·.gen))

/-- The store state after a success: both copies valid, or one. -/
def copiesState (c : Vector (Option ParamCopy) 2) : Nat := if c.all fun x => x.isSome then 0 else if c.any fun x => x.isSome then 1 else 2

/-- A store attempt: the older copy is written and becomes the newer; a failure is a store fault, and leaves that copy either whole or
invalid. -/
def State.storeParams (s : State) (ok : Bool) : State :=
  let l := s.lamp
  let k := l.olderCopy
  let gen := max (copyGen l.copies[0]) (copyGen l.copies[1]) + 1
  if ok then
    let copies := l.copies.set k (some ⟨gen, s.paramVals⟩)
    { s with lamp := { l with copies := copies, store := copiesState copies, storeGen := gen, dirty := false } }
  else
    let copies := if Config.choice l.free 80 % 2 = 0 then l.copies else l.copies.set k none
    { s with lamp := { l with copies := copies, loadOk := false, store := 3, free := l.free + 1 } }

/-! The commands of these rows. An access by its own row leaves its STATUS in `Lamp.status`. -/

/-- An access of class cls by the authority of a ring request (R368): refused with 0x05 or 0x06, or made. -/
def State.serve (s : State) (q : RingAsker) (cls : Nat) (f : State → State × Nat) : Host.Outcome State Fault Refusal :=
  if !s.lamp.serving then .next s else
  match s.lamp.authority (some q.src) q.session with
  | .error e => .next { s with lamp := { s.lamp with status := e } }
  | .ok have' =>
    if have' < cls then .next { s with lamp := { s.lamp with status := 5 } } else
    let (t, st) := f s
    .next { t with lamp := { t.lamp with status := st } }

/-- STAGED_DATA (R404). -/
def execStagedData (item : Item) (q : RingAsker) (off : Nat) (bytes : List (BitVec 8)) (s : State) : Host.Outcome State Fault Refusal :=
  s.serve q 2 fun s => s.stage item off bytes

/-- PREPARE. -/
def execPrepare (item : Item) (q : RingAsker) (s : State) : Host.Outcome State Fault Refusal :=
  s.serve q 2 fun s => s.itemCommand item 1

/-- ACTIVATE. -/
def execActivate (item : Item) (q : RingAsker) (s : State) : Host.Outcome State Fault Refusal :=
  s.serve q 2 fun s => s.itemCommand item 2

/-- ABORT. -/
def execAbort (item : Item) (q : RingAsker) (s : State) : Host.Outcome State Fault Refusal :=
  s.serve q 2 fun s => s.itemCommand item 3

/-- FALL_BACK. -/
def execFallBack (item : Item) (q : RingAsker) (s : State) : Host.Outcome State Fault Refusal :=
  s.serve q 2 fun s => s.itemCommand item 4

/-- COMMIT. -/
def execCommit (item : Item) (q : RingAsker) (s : State) : Host.Outcome State Fault Refusal :=
  s.serve q 2 fun s => s.itemCommand item 5

/-- ERASE_DONE: state 1 becomes 2; a failed erase gives 0x2A and state 0 (R404, R405). -/
def execEraseDone (item : Item) (ok : Bool) (s : State) : Host.Outcome State Fault Refusal :=
  let it := s.lamp.item item
  if s.lamp.life = .up ∧ it.state = 1 then
    let it := if ok then { it with state := 2 } else { it with state := 0, result := 0x2A }
    .next { s with lamp := s.lamp.setItem item it }
  else .next s

/-- FLASH_PROGRAM_DONE: the oldest block leaves the buffer; a failed program gives 0x2A and state 0 (R404). -/
def execFlashProgramDone (item : Item) (ok : Bool) (s : State) : Host.Outcome State Fault Refusal :=
  let it := s.lamp.item item
  if s.lamp.life = .up ∧ it.state = 2 ∧ it.buffer ≠ [] then
    let it := if ok then { it with buffer := it.buffer.tail } else { it with staged := [], buffer := [], state := 0, result := 0x2A }
    .next { s with lamp := s.lamp.setItem item it }
  else .next s

/-- FIRMWARE_ACTIVATION_TIMEOUT: the previous slot is restored in the boot record, and started when that is written (R407). -/
def execFirmwareActivationTimeout (s : State) : Host.Outcome State Fault Refusal :=
  match s.lamp.pause, s.lamp.booting with
  | some false, none =>
    let it := s.lamp.item .firmware
    .next { s with lamp := { s.lamp.setItem .firmware { it with active := 1 - it.active } with booting := some (.firmware, true) } }
  | _, _ => .next s

/-- PARAMETER_STORE_WRITE (R373): the write that follows a change. -/
def execParameterStoreWrite (ok : Bool) (s : State) : Host.Outcome State Fault Refusal :=
  if s.lamp.life = .up ∧ s.lamp.dirty then .next (s.storeParams ok) else .next s

/-- STORE_RETRY (R373): the retry after a store fault. -/
def execStoreRetry (ok : Bool) (s : State) : Host.Outcome State Fault Refusal :=
  if s.lamp.life = .up ∧ s.lamp.store = 3 then .next (s.storeParams ok) else .next s

/-- RESTORE_DEFAULTS (R378). -/
def execRestoreDefaults (q : RingAsker) (val : BitVec 32) (s : State) : Host.Outcome State Fault Refusal :=
  s.serve q 2 fun s => if val = 0x6C6F6164#32 then ({ s with lamp := { s.lamp with restore := true } }, 0) else (s, 8)

/-- DIGEST_COMPUTED (R342, R379). -/
def execDigestComputed (s : State) : Host.Outcome State Fault Refusal :=
  if s.lamp.serving ∧ s.lamp.digest = none then .next { s with lamp := { s.lamp with digest := some (sha256 s.serial) } } else .next s

/-- Whether a ring request may write key slots: Engineer, its session opened by a key with role 4 (R395). -/
def Lamp.keyWriter (l : Lamp) (q : RingAsker) : Except Nat Unit :=
  match l.authority (some q.src) q.session with
  | .error e => .error e
  | .ok c => if c < 2 then .error 5 else if l.sessions.any fun x => x.num == q.session && x.node == q.src && x.root then .ok () else .error 5

/-- ENROL: before the device is provisioned, Observer authority is enough for slots 1–7. -/
def execEnrol (s : Fin 8) (q : RingAsker) (bytes : List (BitVec 8)) (st : State) : Host.Outcome State Fault Refusal :=
  if !st.lamp.serving then .next st else
  let may := if !st.lamp.provisioned ∧ s ≠ 0 then (st.lamp.authority (some q.src) q.session).map fun _ => () else st.lamp.keyWriter q
  match may with
  | .error e => .next { st with lamp := { st.lamp with status := e } }
  | .ok _ =>
    let (l, e) := st.lamp.enrol s bytes
    .next { st with lamp := { l with status := e } }

/-- REVOKE. -/
def execRevoke (s : Fin 8) (q : RingAsker) (val : BitVec 32) (st : State) : Host.Outcome State Fault Refusal :=
  if !st.lamp.serving then .next st else
  match st.lamp.keyWriter q with
  | .error e => .next { st with lamp := { st.lamp with status := e } }
  | .ok _ =>
    let (l, e) := st.lamp.revoke s val
    .next { st with lamp := { l with status := e } }

end Sys2Proof.Machine
end

