-- ==== Sys2Proof/Machine/Dict.lean ====
section
/-! DEFINITION. Access to the dictionary: reads, writes with their checks and effects, sessions, bypass control, retraining, application
objects and the messages between a channel and the Lamplighter (R309, R351, R354, R355, R357, R358, R365 to R371, R382, R383, R387 to
R390, R429). -/

namespace Sys2Proof.Machine

/-- Who asks: the node (none for a channel), the class carried, whether the session's key holds role 4. -/
structure Asker where
  node : Option (BitVec 12)
  cls  : Nat
  root : Bool

/-! Sessions (R382, R383). -/

/-- The bytes of a challenge. -/
def nonceBytes (n : BitVec 256) : List Byte := leBytes n.toNat 32

/-- Seconds as thirds of a nanosecond. -/
def secs (n : Nat) : Nat := n * 3000000000

/-- A new challenge for a node, in place of the one it had, valid for 10 s. -/
def Lamp.challenge (l : Lamp) (src : BitVec 12) : Lamp × BitVec 256 :=
  let n : BitVec 256 := (Config.draw l.free 90).truncate 256
  ({ l with challenges := spPut l.challenges src.toNat (n, l.time + secs 10), free := l.free + 1 }, n)

/-- A session number: random, not zero. -/
def Lamp.newNum (l : Lamp) : W32 := let x : W32 := (Config.draw l.free 91).truncate 32; if x = 0#32 then 1#32 else x

/-- The sessions whose LIFETIME has not ended. -/
def Lamp.open (l : Lamp) : List Session := l.sessions.filter fun x => l.time < x.till

/-- A token written at OFFSET 0 opens a session or is refused; the challenge is spent either way. -/
def Lamp.token (l : Lamp) (src : BitVec 12) (b : List Byte) : Lamp × Nat :=
  let nonce := l.challenges.find? fun x => x.1 == src.toNat
  let l := { l with challenges := spDel l.challenges src.toNat, free := l.free + 1 }
  let at' := fun (off n : Nat) => beNat ((b.drop off).take n)
  let slot := at' 40 1
  let ok : Bool :=
    b.length == 140 && at' 0 1 == 1 && at' 1 1 ≤ 3 && at' 2 2 == src.toNat && 1 ≤ at' 4 4 && at' 4 4 ≤ 86400 && at' 41 3 == 0
      && (match nonce with | some x => (b.drop 8).take 32 == nonceBytes x.2.1 && decide (l.time < x.2.2) | none => false)
      && signedBy (l.key slot 0) (b.take 44) (b.drop 44) && (at' 1 1 != 3 || slot == 0)
  if !ok then (l, 8) else if 16 ≤ l.open.length then (l, 0x0A) else
  let num := l.newNum
  ({ l with
      sessions := l.open ++ [⟨num, src, at' 1 1, (l.key slot 4).isSome, l.time + secs (at' 4 4)⟩],
      opened := (src.toNat, num) :: l.opened.filter fun x => x.1 != src.toNat }, 0)

/-- A session bound to a node is closed. -/
def Lamp.closeSession (l : Lamp) (src : BitVec 12) (num : W32) : Lamp :=
  { l with sessions := l.sessions.filter fun x => !(x.num == num && x.node == src) }

/-! The bypass relay (R354, R355). -/

def Lamp.bypControl (l : Lamp) : Nat := l.num 0x2100 10 0

/-- A node that sweeps leaves the ring: when it joins it again it stays silent and watches (R347). -/
def Ring.silent (r : Ring) : Ring :=
  if r.sweeping then { r with sweeping := false, late := false, due := 0, last := some (r.sweep, r.master) } else r

/-- The frame that a port is sending is cut short (R349, R362). -/
def Ring.cutFrame (r : Ring) (now : Nat) (p : RingPort) : Ring :=
  if now < r.busy[portIdx p] then { r with outs := r.outs ++ [.cut p], busy := r.busy.set (portIdx p) now } else r

/-- BYP_HOLD_N is released: the node is out of the ring (R347, R354, R362). -/
def State.leave (s : State) : State :=
  let r := ((s.ring.cutFrame s.lamp.time .a).cutFrame s.lamp.time .b).silent
  { s with ring := { r with bypHold := false, waiting := [] } }

/-- A link has come up: its estimates begin anew, with the request of the first of 16 exchanges (R345). -/
def State.linkUp (s : State) (p : RingPort) : State :=
  { s with ring := { s.ring with
    cable := s.ring.cable.set (portIdx p) [], waiting := s.ring.waiting ++ (if s.ring.bypHold then [.calRequest p 0#64] else []) } }

/-- BYP_HOLD_N is driven low, when the test frames have passed (R354): the node joins the ring, and its links come up. -/
def State.join (s : State) (pass : Bool) : State :=
  if !pass ∨ s.ring.bypHold then s else
  let s := { s with ring := { s.ring with bypHold := true, bypWait := false, joined := s.lamp.time } }
  [RingPort.a, .b].foldl (fun (s : State) p => if s.ring.locked p then s.linkUp p else s) s

/-- Released for a port fault: counted; after three in a row it stays released. -/
def State.bypFault (s : State) : State :=
  let n := s.ring.bypFaults + 1
  let s := s.leave
  { s with lamp := s.lamp.count 0x2101 18 19 4, ring := { s.ring with bypFaults := n, bypWait := decide (n < 3) } }

/-- Bypass control 0x01. -/
def State.bypRelease (s : State) : State :=
  let s := s.leave
  { s with lamp := s.lamp.setNum 0x2100 10 1 1 0, ring := { s.ring with bypFaults := 0, bypWait := false } }

/-- Bypass control 0x02: the relay is held when the test frames pass; the control then reads 0. Without them the relay waits for the next try
(DESIGN CHOICE, log 59). -/
def State.bypRetry (s : State) (pass : Bool) : State :=
  ({ s with lamp := s.lamp.setNum 0x2100 10 1 0 0, ring := { s.ring with bypFaults := 0, bypWait := !s.ring.bypHold, free := s.ring.free + 1 } } : State).join pass

/-- Bypass control 0x00: automatic. A relay released by control is held again when the test frames pass; one released for a third port fault stays
released (R354, R355). -/
def State.bypAuto (s : State) (pass : Bool) : State :=
  let s := { s with lamp := s.lamp.setNum 0x2100 10 1 0 0 }
  if s.ring.bypHold ∨ 3 ≤ s.ring.bypFaults then s else
  ({ s with ring := { s.ring with bypWait := true, free := s.ring.free + 1 } } : State).join pass

/-! Retraining (R309). -/

/-- CXL link subindex 07: through a stop in a run mode, at once at rest in THAW; refused otherwise. -/
def Chan.askRetrain (ch : Chan) (x : ExpanderFacts) : Chan × Nat :=
  if ch.life ≠ .up ∨ ch.mode = 6 then (ch, 8)
  else if ch.trans.isSome then (ch, 0x11)
  else if ch.anyHalted then (ch, 0x13)
  else if ch.snuff.isSome then (ch, 0x15)
  else if ch.mode = 8 then (ch.retrain x, 0)
  else
    let ch := { ch with expander := some x }.beginTrans ch.mode 0#8 true true
    (ch.putF 0x14 9 1 1, 0)

/-! Groups and bindings (R339, R351). -/

/-- The parent of a group, none when it has none. -/
def Lamp.parent (l : Lamp) (g : Nat) : Option Nat := let p := l.num (0x7000 + g) 1 0xFFFF; if p < 4096 then some p else none

/-- A group and its ancestors, at most n of them. -/
def Lamp.upward (l : Lamp) (g : Nat) : Nat → List Nat
  | 0 => []
  | n + 1 => g :: match l.parent g with | some p => Lamp.upward l p n | none => []

/-- The groups a node lists (R360). -/
def Lamp.direct (l : Lamp) : List Nat := ((List.range 16).map fun i => l.num 0x2120 (i + 1) 0xFFFF).filter fun g => g < 4096

/-- Chains of at most 8 groups, without a cycle. -/
def Lamp.chainsOk (l : Lamp) (g : Nat) : Bool := (g :: l.direct).all fun x => (l.upward x 9).length ≤ 8

/-- Whether this node belongs to a group. -/
def Lamp.belongs (l : Lamp) (g : Nat) : Bool := l.direct.any fun x => (l.upward x 8).contains g

/-- A binding (R339). -/
structure Binding where
  fidx   : Nat
  off    : Nat
  len    : Nat
  insert : Bool
  chan   : Fin 4
  obj    : Nat
  on     : Bool

def bindingOf (v : Nat) : Binding :=
  let f := fun (lo n : Nat) => v / 2 ^ lo % 2 ^ n
  ⟨f 0 4, f 4 14, f 18 11, nbit v 29, ⟨f 30 2 % 4, Nat.mod_lt _ (by decide)⟩, f 32 16, nbit v 48⟩

/-- The enabled bindings of the node with their subindexes, as values of 0x2110. -/
def Lamp.bound (l : Lamp) : List (Nat × Nat) :=
  ((List.range 64).map fun i => (i + 1, l.num 0x2110 (i + 1) 0)).filter fun x => (bindingOf x.2).on
def readBindings (l : List (Nat × Nat)) : List (Nat × Binding) := l.map fun x => (x.1, bindingOf x.2)
def Lamp.bindings (l : Lamp) : List (Nat × Binding) := readBindings l.bound
/-- All bindings of the node that are not 0, enabled or not. -/
def Lamp.written (l : Lamp) : List (Nat × Binding) := readBindings (((List.range 64).map fun i => (i + 1, l.num 0x2110 (i + 1) 0)).filter fun x => x.2 != 0)
/-- The bindings that govern the sweep in progress (R362). -/
def Ring.bindings (r : Ring) : List (Nat × Binding) := readBindings r.binds

/-- Whether a binding may be written (R339). The conditions hold for a binding whatever its EN; the value 0, which is the default, names no binding
and may always be written (DESIGN CHOICE, log 30). -/
def Lamp.bindingOk (l : Lamp) (sub v : Nat) : Bool :=
  let b := bindingOf v
  v == 0 || (v < 2 ^ 49 && 1 ≤ b.fidx && 1 ≤ b.len && b.len ≤ 2040 && b.off + b.len + 4 ≤ l.frameLen
    && inApps b.obj && appChan b.obj == b.chan && (match l.app b.obj with | some a => b.len ≤ a.len | none => false)
    && (!b.insert || l.written.all fun x =>
      x.1 == sub || !x.2.insert || x.2.fidx != b.fidx || x.2.off + x.2.len + 4 ≤ b.off || b.off + b.len + 4 ≤ x.2.off))

/-! Values a write may carry. -/

/-- Whether a listed value (R51, R210, R309, R323, R357, R358, R360, R361, R365, R387, R403, R428). -/
def State.valueOk (s : State) (idx sub v : Nat) (d : ODef) : Bool :=
  let none' := v == 0xFFFF
  if d.ty = 1 then v ≤ 1
  else if inArea idx then
    match idx % 0x1000, sub with
    | 0x010, 10 => v ≤ 1
    | 0x020, 1 => 1 ≤ v && v ≤ 8
    | 0x020, 3 => (1 ≤ v && v ≤ 5) || v == 7
    | 0x020, 4 => v ≤ 2
    | 0x040, 1 => v ≤ 1
    | 0x050, 1 => v ≤ 2
    | 0x050, 3 => 50 ≤ v && v ≤ 4095
    | 0x050, 7 => v == 1
    | 0x060, 1 => v % 4096 == 0 && v < calmEnd && (s.objNum idx 2 0 == 0 || v + s.objNum idx 2 0 ≤ saveBase)
    | 0x060, 2 => v % 4096 == 0 && s.objNum idx 1 0 + v ≤ saveBase
    | 0x060, 3 => v % 0x200000 == 0
    | 0x060, 4 => v % 0x200000 == 0
    | 0x080, 1 => v ≤ 2
    | 0x090, 1 => v ≤ 3
    | _, _ => true
  else if 0x7000 ≤ idx ∧ idx < 0x8000 then
    if sub ≠ 1 then true else
    (none' || v < 4096) && (s.lamp.setNum idx 1 2 v 0xFFFF).chainsOk (idx - 0x7000)
  else match idx, sub with
    | 0x1010, 3 => v == 0x6C6F6164
    | 0x2100, 1 => v < 4096 || none'
    | 0x2100, 4 => 250 ≤ v && v ≤ 100000
    | 0x2100, 5 => 1 ≤ v && v ≤ 16
    | 0x2100, 6 => 32 ≤ v && v ≤ 8966
    | 0x2100, 7 => v == 0 || (0x10 ≤ v && v < 0x20)
    | 0x2100, 8 => 1000 ≤ v && v ≤ 1000000000
    | 0x2100, 10 => v ≤ 2
    | 0x2101, _ => v == 0
    | 0x2102, _ => v == 0
    | 0x2103, _ => v == 0
    | 0x2110, k => s.lamp.bindingOk k v
    | 0x2120, _ => none' || (v < 4096 && (s.lamp.upward v 9).length ≤ 8)
    | _, _ => if 0x2060 ≤ idx ∧ idx < 0x2064 then v == 0x64726F70 else true

/-! Effects. -/

/-- A stored value changes: a Config value takes the digest out of force, a Config or Persistent one is due for the store (R342, R373). -/
def State.keepValue (s : State) (idx sub : Nat) (d : ODef) (b : List Byte) : State :=
  let s := s.putObj idx sub d b
  { s with lamp := { s.lamp with digest := if d.store = 1 then none else s.lamp.digest, dirty := s.lamp.dirty || d.store != 0 } }

/-- A ring counter cleared, with its saturation bit. -/
def Lamp.clearCount (l : Lamp) (idx sub : Nat) : Lamp :=
  let (sat, bit) := if idx = 0x2101 then (19, sub - 14) else (6, sub - 1)
  let old := l.num idx sat 0
  (l.setNum idx sub 2 0 0).setNum idx sat 1 (if nbit old bit then old - 2 ^ bit else old) 0

def askerOk (s : State) (a : Asker) : Bool := 2 ≤ a.cls && (a.root || !s.lamp.provisioned)

/-- The effect of an accepted write whose value acts (R51, R309, R357, R358, R378, R382, R395, R404, R405, R429). -/
def State.act' (s : State) (a : Asker) (idx sub off : Nat) (b : List Byte) (d : ODef) : State × Nat :=
  let v := leNat b
  let store := (s.keepValue idx sub d b, 0)
  if inArea idx then
    let c := areaChan idx
    match idx % 0x1000, sub with
    | 0x010, 1 => s.stage (itemOf idx) off b
    | 0x010, 4 => s.itemCommand (itemOf idx) v
    | 0x020, 1 =>
      match (s.ch c).lampMode v with
      | (ch, some k) => (s.onChan c fun _ => ch, 0x10 + k)
      | (ch, none) => ((s.onChan c fun _ => ch).keepValue idx sub d b, 0)
    | 0x050, 7 =>
      let x := (s.ch c).expander
      (match x with
       | some x => (s.onChan c fun ch => (ch.askRetrain x).1, ((s.ch c).askRetrain x).2)
       | none => (s, 8))
    | 0x090, 1 => (if 2 ≤ v then store.1.onChan c fun ch => ch.endGrant else store.1, 0)
    | _, _ => store
  else if 0x2048 ≤ idx ∧ idx < 0x2050 then
    let k : Fin 8 := ⟨(idx - 0x2048) % 8, Nat.mod_lt _ (by decide)⟩
    let (l, e) := if sub = 3 then (if off = 0 then s.lamp.enrol k b else (s.lamp, 8)) else s.lamp.revoke k (BitVec.ofNat 32 v)
    ({ s with lamp := l }, e)
  else if 0x2060 ≤ idx ∧ idx < 0x2064 then (s.onChan ⟨(idx - 0x2060) % 4, Nat.mod_lt _ (by decide)⟩ fun ch => ch.endGrant, 0)
  else match idx, sub with
  | 0x1010, _ => ({ s with lamp := { s.lamp with restore := true } }, 0)
  | 0x1F50, 1 => s.stage .firmware off b
  | 0x1F50, _ => s.itemCommand .firmware v
  | 0x1F51, 1 => s.stage .patch off b
  | 0x1F51, _ => s.itemCommand .patch v
  | 0x2030, 2 =>
    (match a.node with
     | some n => if off ≠ 0 then (s, 9) else let (l, e) := s.lamp.token n b; ({ s with lamp := l }, e)
     | none => (s, 5))
  | 0x2030, _ =>
    (match a.node with
     | some n => ({ s with lamp := s.lamp.closeSession n (BitVec.ofNat 32 v) }, 0)
     | none => (s, 5))
  | 0x2100, 10 =>
    (match v with
     | 0 => (s.bypAuto (Config.choice s.ring.free 92 % 2 == 1), 0)
     | 1 => (s.bypRelease, 0)
     | _ => (s.bypRetry (Config.choice s.ring.free 92 % 2 == 1), 0))
  | 0x2101, _ => ({ s with lamp := s.lamp.clearCount idx sub }, 0)
  | 0x2102, _ => ({ s with lamp := s.lamp.clearCount idx sub }, 0)
  | 0x2103, _ => ({ s with lamp := s.lamp.clearCount idx sub }, 0)
  | _, _ => store

/-- The class a write of a value needs (R51, R367, R395). -/
def State.needs (s : State) (idx sub : Nat) (d : ODef) (v : Nat) : Nat :=
  if inArea idx ∧ idx % 0x1000 = 0x020 ∧ sub = 1 ∧ (v = 7 ∨ v = 8) then 2
  else if 0x2049 ≤ idx ∧ idx < 0x2050 ∧ sub = 3 ∧ !s.lamp.provisioned then 0
  else d.cls

/-- The error of a write's length (R366); a VSTRING, and an OCTETS value longer than 48 bytes, may come in pieces from a channel (R389). -/
def lengthError (d : ODef) (off : Nat) (b : List Byte) (piece : Bool) (have' : Nat) : Nat :=
  match d.ty with
  | 0xE => if 1024 < b.length then 7 else 0
  | 0xD => if d.len < off + b.length then 7 else if have' < off then 9 else 0
  | 0xC => if (if piece && 48 < d.len then d.len < off + b.length else b.length ≠ d.len) then 7 else 0
  | _ => if b.length ≠ d.len then 7 else 0

/-- A write at OFFSET into bytes of a value. -/
def splice (old b : List Byte) (off : Nat) (keepTail : Bool) : List Byte :=
  old.take off ++ b ++ if keepTail then old.drop (off + b.length) else []

/-- A write (R366, R367, R370, R371, R373): the value is applied whole, or an error answers and nothing changes. -/
def State.objWrite (s : State) (a : Asker) (idx sub off : Nat) (b : List Byte) (piece : Bool) : State × Nat :=
  match s.lamp.odef idx sub with
  | .error e => (s, e)
  | .ok d =>
    if d.acc = .const ∨ d.acc = .ro then (s, 4)
    else if a.cls < s.needs idx sub d (leNat b) then (s, 5)
    else if 0x2048 ≤ idx ∧ idx < 0x2050 ∧ s.lamp.provisioned ∧ !askerOk s a then (s, 5)
    else
      let off := if d.ty < 0xC ∨ (d.ty = 0xC ∧ !(piece && 48 < d.len)) then 0 else off
      let app := s.lamp.app idx
      let cur := match app with | some x => x.value | none => s.stored idx sub d
      let e := lengthError d off b piece cur.length
      if e ≠ 0 then (s, e)
      else match app with
        | some x =>
          if d.ty = 1 ∧ 1 < leNat b then (s, 8) else
          let v := if d.ty = 0xD then splice cur b off false else if d.ty = 0xC then splice cur b off true else b
          ({ s with lamp := { s.lamp with apps := s.lamp.apps.map fun y => if y.index = idx then { x with value := v } else y } }, 0)
        | none =>
          if d.ty < 0xC ∧ !s.valueOk idx sub (leNat b) d then (s, 8)
          else if d.store ≠ 0 ∧ s.lamp.store = 3 then (s, 0x0B)
          else s.act' a idx sub off (if d.ty = 0xD then splice cur b off false else b) d

/-- A read (R366, R367, R382): `want` bytes, 0 for the whole value; at most 1,024 of a DOMAIN. -/
def State.objRead (s : State) (a : Asker) (idx sub off want : Nat) : State × Except Nat (List Byte) :=
  match s.lamp.odef idx sub with
  | .error e => (s, .error e)
  | .ok d =>
    if d.acc = .wo then (s, .error 3) else
    let off := if d.ty < 0xC then 0 else off
    let (s, v) :=
      match s.lamp.app idx with
      | some x => if sub = 0 then (s, leBytes 1 1) else (s, x.value)
      | none =>
        match a.node with
        | some n =>
          if idx = 0x2030 ∧ sub = 1 then let (l, x) := s.lamp.challenge n; ({ s with lamp := l }, nonceBytes x)
          else (s, s.value n.toNat idx sub d)
        | none => (s, s.value 0xFFFF idx sub d)
    if d.ty < 0xC ∧ want ≠ 0 ∧ want ≠ v.length then (s, .error 7)
    else if v.length < off then (s, .error 9)
    else
      let rest := v.drop off
      (s, .ok (rest.take (if d.ty = 0xE then (if want = 0 then 1024 else min want 1024) else if want = 0 then rest.length else want)))

/-! Application objects (R388, R389). -/

/-- The words of a message from or to a channel: header, then words 1 to 15 (R24, R389). -/
def msgWords (h op status vlen idx sub w3 : Nat) (val : List Byte) : List W32 :=
  [BitVec.ofNat 32 h, BitVec.ofNat 32 (op + 256 * status + 65536 * vlen), BitVec.ofNat 32 (idx + 65536 * sub), BitVec.ofNat 32 w3]
    ++ (List.range 12).map fun i => BitVec.ofNat 32 (leNat ((takePad 48 val).drop (4 * i) |>.take 4))

/-- The header of a message from the Lamplighter to a channel; its SRCMANTLE is not stated (log 3). -/
def Lamp.header (l : Lamp) (c : Fin 4) (seq : Nat) : Nat :=
  c.val + 256 * seq + 65536 * (Config.choice l.free 93 % 4096) + 2 ^ 28 * 15

/-- A message left for a channel's slot. -/
def Lamp.post (l : Lamp) (c : Fin 4) (words : List W32) : Lamp :=
  { l with carried := l.carried ++ [⟨15, c.val, words⟩], free := l.free + 1 }

/-- The value bytes a message carries. -/
def msgValue (ws : List W32) : List Byte := (ws.drop 4).flatMap fun x => leBytes x.toNat 4

/-- DECLARE (R388): the error, or the object put in place. -/
def Lamp.declare (l : Lamp) (c : Fin 4) (mantle : BitVec 12) (idx w3 : Nat) (val : List Byte) : Lamp × Nat :=
  let f := fun (lo n : Nat) => w3 / 2 ^ lo % 2 ^ n
  let ty := f 0 8
  let len := if ty < 0xC then tyBytes ty else f 16 12
  let own := l.apps.filter fun a => appChan a.index == c && a.index != idx
  if mantle ≠ 0#12 ∨ !inApps idx ∨ appChan idx ≠ c ∨ ty = 0xE then (l, 0x0C)
  else if 0xC ≤ ty ∧ (len = 0 ∨ 2044 < len) then (l, 0x0C)
  else if ty = 0 ∨ 0xE < ty ∨ f 8 2 = 3 ∨ f 10 2 = 3 ∨ f 28 4 ≠ 0 then (l, 8)
  else match l.app idx with
    | some a =>
      if a.ty = ty ∧ a.len = len ∧ a.acc = f 8 2 then (l, 0)
      else if 65536 < (own.map fun x => x.len).sum + len then (l, 0x0C) else if ty = 1 ∧ 1 < leNat (takePad 1 val) then (l, 8) else (put own ty len, 0)
    | none =>
      if 1024 ≤ own.length ∨ 65536 < (own.map fun x => x.len).sum + len then (l, 0x0C)
      else if ty = 1 ∧ 1 < leNat (takePad 1 val) then (l, 8) else (put own ty len, 0)
where
  /-- The new declaration with the value the message carries. -/
  put (_own : List AppObj) (ty len : Nat) : Lamp :=
    let f := fun (lo n : Nat) => w3 / 2 ^ lo % 2 ^ n
    let v := if ty = 0xD then val.take len else takePad len val
    { l with apps := ⟨idx, ty, f 8 2, f 10 2, nbit w3 12, len, v⟩ :: l.apps.filter fun a => a.index != idx }

/-- The oldest request of a channel that the Lamplighter has carried (R22, R389). -/
def Lamp.request (l : Lamp) (c : Fin 4) : Option Carried := l.carried.find? fun x => x.dst == 15 && x.src == c.val

/-- A request of a channel with the given OP answered: `f` gives the new state, STATUS, and the value of a READ. -/
def State.answer (s : State) (c : Fin 4) (op : Nat) (f : State → BitVec 12 → List W32 → State × Nat × List Byte) : Host.Outcome State Fault Refusal :=
  if !s.lamp.serving then .next s else
  match s.lamp.request c with
  | none => .next s
  | some q =>
    let w := fun (i : Nat) => (nth 0#32 q.words i).toNat
    if w 1 % 256 ≠ op then .next s else
    let s := { s with lamp := { s.lamp with carried := s.lamp.carried.erase q } }
    let (s, st, v) := f s (BitVec.ofNat 12 (w 0 / 65536 % 4096)) q.words
    let v := v.take 48
    let ws := msgWords (s.lamp.header c (w 0 / 256 % 256)) (op + 128) st v.length (w 2 % 65536) (w 2 / 65536 % 256) (w 3) v
    .next { s with lamp := s.lamp.post c ws }

/-- The asker behind a channel's request on an index (R369). -/
def State.chanAsker (s : State) (c : Fin 4) (mantle : BitVec 12) (idx : Nat) : Except Nat Asker :=
  match s.chanAuthority c mantle idx with
  | .error e => .error e
  | .ok (cls, apps) => .ok ⟨none, if apps then 1 else cls, false⟩

/-- DICTIONARY_READ (R369, R389). -/
def execDictionaryRead (c : Fin 4) (s : State) : Host.Outcome State Fault Refusal :=
  s.answer c 1 fun s mantle ws =>
    let w := fun (i : Nat) => (nth 0#32 ws i).toNat
    let idx := w 2 % 65536
    match s.chanAsker c mantle idx with
    | .error e => (s, e, [])
    | .ok a =>
      match s.objRead a idx (w 2 / 65536 % 256) (w 3) (w 1 / 65536 % 65536) with
      | (s, .ok v) => (s, 0, v)
      | (s, .error e) => (s, e, [])

/-- DICTIONARY_WRITE (R369, R389). -/
def execDictionaryWrite (c : Fin 4) (s : State) : Host.Outcome State Fault Refusal :=
  s.answer c 2 fun s mantle ws =>
    let w := fun (i : Nat) => (nth 0#32 ws i).toNat
    let idx := w 2 % 65536
    match s.chanAsker c mantle idx with
    | .error e => (s, e, [])
    | .ok a =>
      let vlen := w 1 / 65536 % 65536
      if 48 < vlen then (s, 7, []) else
      let (s, e) := s.objWrite a idx (w 2 / 65536 % 256) (w 3) ((msgValue ws).take vlen) true
      (s, e, [])

/-- DECLARE (R388, R389). -/
def execDeclare (c : Fin 4) (s : State) : Host.Outcome State Fault Refusal :=
  s.answer c 0x21 fun s mantle ws =>
    let w := fun (i : Nat) => (nth 0#32 ws i).toNat
    let (l, e) := s.lamp.declare c mantle (w 2 % 65536) (w 3) ((msgValue ws).take (w 1 / 65536 % 65536))
    ({ s with lamp := l }, e, [])

/-! The rows of sessions, retraining, the bypass and the withdrawal of a grant. -/

/-- CHALLENGE (R382). -/
def execChallenge (src : BitVec 12) (s : State) : Host.Outcome State Fault Refusal :=
  if s.lamp.serving then .next { s with lamp := (s.lamp.challenge src).1 } else .next s

/-- TOKEN (R383). -/
def execToken (src : BitVec 12) (bytes : List (BitVec 8)) (s : State) : Host.Outcome State Fault Refusal :=
  if s.lamp.serving then
    let (l, e) := s.lamp.token src bytes
    .next { s with lamp := { l with status := e } }
  else .next s

/-- CLOSE (R382). -/
def execClose (src : BitVec 12) (num : BitVec 32) (s : State) : Host.Outcome State Fault Refusal :=
  if s.lamp.serving then .next { s with lamp := { s.lamp.closeSession src num with status := 0 } } else .next s

/-- SESSION_EXPIRY: a session whose LIFETIME has ended (R383). -/
def execSessionExpiry (num : BitVec 32) (s : State) : Host.Outcome State Fault Refusal :=
  .next { s with lamp := { s.lamp with sessions := s.lamp.sessions.filter fun x => x.num != num || decide (s.lamp.time < x.till) } }

/-- CHALLENGE_EXPIRY: a challenge read more than 10 s ago (R382). -/
def execChallengeExpiry (src : BitVec 12) (s : State) : Host.Outcome State Fault Refusal :=
  .next { s with lamp := { s.lamp with challenges := s.lamp.challenges.filter fun x => x.1 != src.toNat || decide (s.lamp.time < x.2.2) } }

/-- WITHDRAW (R417, R429). -/
def execWithdraw (c : Fin 4) (q : RingAsker) (val : BitVec 32) (s : State) : Host.Outcome State Fault Refusal :=
  s.serve q 2 fun s => if val = 0x64726F70#32 then (s.onChan c fun ch => ch.endGrant, 0) else (s, 8)

/-- RETRAIN (R309). -/
def execRetrain (c : Fin 4) (x : ExpanderFacts) (val : BitVec 8) (q : RingAsker) (s : State) : Host.Outcome State Fault Refusal :=
  s.serve q 2 fun s =>
    if val ≠ 1#8 then (s, 8) else (s.onChan c fun ch => (ch.askRetrain x).1, ((s.ch c).askRetrain x).2)

/-- BYPASS_RELEASE (R355); in an activation pause BYP_HOLD_N stays low (R356). -/
def execBypassRelease (why : BypassCause) (s : State) : Host.Outcome State Fault Refusal :=
  if !s.ring.bypHold ∨ s.lamp.pause.isSome then .next s else
  match why with
  | .noBlockLock => if s.ring.locked .a != s.ring.locked .b then .next s.bypFault else .next s
  | .fcsErrors => .next s.bypFault
  | .control => if s.lamp.bypControl = 1 then .next s.bypRelease else .next s

/-- BYPASS_RETRY: 10 s after a port fault, while the firmware runs (R354, R355). -/
def execBypassRetry (testsPass : Bool) (s : State) : Host.Outcome State Fault Refusal :=
  if s.lamp.serving ∧ s.ring.bypWait ∧ s.lamp.bypControl = 0 ∧ testsPass then .next (s.join true)
  else .next s

/-- HOLD_BYPASSED (R358). -/
def execHoldBypassed (q : RingAsker) (s : State) : Host.Outcome State Fault Refusal :=
  s.serve q 2 fun s => (s.bypRelease, 0)

/-- RETRY_NOW (R358). -/
def execRetryNow (q : RingAsker) (testsPass : Bool) (s : State) : Host.Outcome State Fault Refusal :=
  s.serve q 2 fun s => (s.bypRetry testsPass, 0)

end Sys2Proof.Machine
end

