-- ==== Sys2Proof/Machine/HostPort.lean ====
section
/-! DEFINITION. The host port: a channel's slot, in which messages move to and from the Lamplighter and their results reach the sender
(R20 to R28). -/

namespace Sys2Proof.Machine

/-- A message whose result is known: recorded for a channel that sent it, and shown from its next slot on (R22, R26). -/
def Lamp.noteResult (l : Lamp) (x : Carried) (res : Nat) : Lamp :=
  if x.src < 4 then { l with results := l.results ++ [(x.src, getF (nth 0#32 x.words 0) 8 8, res)] } else l

/-- One message that the Lamplighter holds for channel c: into its inbound queue, or its failure recorded (R24, R26). -/
def State.deliverOne (s : State) (c : Fin 4) (x : Carried) : State :=
  let ch := s.ch c
  let s := { s with lamp := { s.lamp with carried := s.lamp.carried.erase x } }
  if ch.mbxDown then { s with lamp := s.lamp.noteResult x 1 }
  else if 16 ≤ ch.mbxIn.length then { s with lamp := s.lamp.noteResult x 2 }
  else
    let s := s.onChan c fun ch => { ch with mbxIn := ch.mbxIn ++ [x.words] }
    { s with lamp := s.lamp.noteResult x 0 }

/-- A request that the Lamplighter answers (R389): READ, WRITE, DECLARE. -/
def isRequest (words : List W32) : Bool := let op := getF (nth 0#32 words 1) 0 8; op == 1 || op == 2 || op == 0x21

/-- The oldest outbound message of channel c carried to the Lamplighter, with the source over header bits [31:16] (R24). -/
def State.carryOne (s : State) (c : Fin 4) : State :=
  match (s.ch c).mbxOut with
  | [] => s
  | m :: rest =>
    let h := nth 0#32 m.words 0
    let h := setF (setF h 16 12 m.mantle.toNat) 28 4 c.val
    let x : Carried := ⟨c.val, getF h 0 4, h :: m.words.tail⟩
    let s := s.onChan c fun ch => { ch with mbxOut := rest }
    if x.dst = 15 then
      let l := s.lamp.noteResult x 0
      { s with lamp := if isRequest x.words then { l with carried := l.carried ++ [x] } else l }
    else { s with lamp := { s.lamp with carried := s.lamp.carried ++ [x] } }

/-- The results known for channel c reach MBX_TXSTAT. -/
def State.showResults (s : State) (c : Fin 4) : State :=
  let mine := s.lamp.results.filter fun r => r.1 == c.val
  let s := s.onChan c fun ch => mine.foldl (fun (ch : Chan) r => ch.mbxResult r.2.1 r.2.2) ch
  { s with lamp := { s.lamp with results := s.lamp.results.filter fun r => r.1 != c.val } }

/-- The messages for channel c that its slot takes: all of them when it refuses them, else at most 8 (R21, R26). -/
def State.forSlot (s : State) (c : Fin 4) : List Carried :=
  let mine := s.lamp.carried.filter fun x => x.dst == c.val
  if (s.ch c).mbxDown then mine else mine.take 8

/-- HOST_PORT_SLOT (R20 to R27): the slot of a channel without power or in reset moves nothing; that of a channel in THAW moves up to 4 KB of the
Lamplighter's bulk transfer and no message; a message for such a channel fails. -/
def execHostPortSlot (c : Fin 4) (s : State) : Host.Outcome State Fault Refusal :=
  if !s.lamp.serving then .next s else
  let s := (s.forSlot c).foldl (fun (s : State) x => s.deliverOne c x) s
  let ch := s.ch c
  if ch.life == .starting then .next (s.onChan c fun ch => ch.bulkMove 4096)
  else if ch.life != .up || ch.mode == 8 then .next s
  else .next ((List.range 8).foldl (fun (s : State) _ => s.carryOne c) (s.showResults c))

end Sys2Proof.Machine
end

