-- ==== Sys2Proof/Machine/Device.lean ====
section
/-! DEFINITION. The device as a whole: PORESET_N, the start of the Lamplighter, its watchdog, the thermal trip (R373, R378, R393, R396 to
R398, R467, R472, R474). -/

namespace Sys2Proof.Machine

/-- A channel after a reset of the device: the expander's memory, the levels outside its pins and the draws taken are outside it. -/
def Chan.power (ch : Chan) : Chan :=
  { Chan.reset ch.num with
    cxl := ch.cxl, cxlTag := ch.cxlTag, cxlPois := ch.cxlPois, epoch := ch.epoch, pinIn := ch.pinIn, pinExt := ch.pinExt, free := ch.free + 1 }

/-- An item after a reset of the device: its slots, the active one and its OTP minimum remain. -/
def ItemSt.power (x : ItemSt) : ItemSt := { x with staged := [], buffer := [], state := 0, result := 0 }

/-- The active slots that the boot record names: those of the newer valid copy, slot A without one (R393). -/
def Lamp.bootSlots (l : Lamp) : List Nat :=
  match l.boot[0], l.boot[1] with
  | some a, some b => if a.gen ≤ b.gen then b.slots else a.slots
  | some a, none => a.slots
  | none, some b => b.slots
  | none, none => []

/-- The Lamplighter after a reset of the device: OTP and flash remain. -/
def Lamp.power (l : Lamp) : Lamp :=
  { Lamp.reset with
    keys := l.keys, provisioned := l.provisioned, boot := l.boot, copies := l.copies, restore := l.restore, free := l.free + 1,
    items := l.items.mapFinIdx fun i (x : ItemSt) _ => { x.power with active := nth 0 l.bootSlots i } }

/-- A write of the boot record that a reset meets: the record names the old slot or the new one (R393). -/
def State.cutBoot (s : State) : State :=
  if s.lamp.booting.isSome ∧ Config.choice s.lamp.free 99 % 2 = 1 then { s with lamp := s.lamp.writeBoot } else s

/-- A store that a reset meets: not begun, done, or the copy it was writing corrupt (R373, R474). -/
def State.cutStore (s : State) : State :=
  if !s.lamp.dirty then s else
  match Config.choice s.lamp.free 96 % 3 with
  | 0 => s
  | 1 => s.storeParams true
  | _ => { s with lamp := { s.lamp with copies := s.lamp.copies.set s.lamp.olderCopy none } }

/-- The device reset (R467): BYP_HOLD_N is released, no channel has power. What is in flight meets it as it meets a channel reset (R261). -/
def State.resetDevice (s : State) : State :=
  let s := s.cutStore.cutBoot
  { chans := s.chans.mapFinIdx fun i (ch : Chan) h => (if ch.life = .frost then ch else ch.cutFlight (s.mtl ⟨i, h⟩)).power, mantles := Vector.replicate 4 MantleTable.reset, lamp := s.lamp.power,
    ring := { Ring.reset with free := s.ring.free + 1 }, pending := s.pending }

/-- PORESET_N (R467): below 100 ns nothing, from 1 µs a reset, between them either. -/
def execPoresetN (ns : Nat) (s : State) : Host.Outcome State Fault Refusal :=
  if 1000 ≤ ns then .next s.resetDevice
  else if ns < 100 then .next s
  else if Config.choice s.lamp.free 97 % 2 = 1 then .next s.resetDevice
  else .next { s with lamp := { s.lamp with free := s.lamp.free + 1 } }

/-- The firmware slot that starts (R397, R398): the one due, else the other, when it passes R402. -/
def Lamp.bootSlot (l : Lamp) : Option Nat :=
  let x := l.item .firmware
  let a := if l.other then 1 - l.running else x.active
  if vendorCode x.minimum (x.slot a) = 0 then some a
  else if vendorCode x.minimum (x.slot (1 - a)) = 0 then some (1 - a) else none

/-- The copy of the parameter store in force: the valid one with the higher generation (R373). -/
def Lamp.newerCopy (l : Lamp) : Option ParamCopy :=
  match l.copies[0], l.copies[1] with
  | some a, some b => some (if a.gen ≤ b.gen then b else a)
  | some a, none => some a
  | none, y => y

/-- A stored value put back. -/
def State.loadValue (s : State) (x : Nat × List Byte) : State :=
  if inArea (x.1 / 256) then s.onChan (areaChan (x.1 / 256)) fun ch => { ch with objs := spSet [] ch.objs x.1 x.2 }
  else { s with lamp := { s.lamp with objs := spSet [] s.lamp.objs x.1 x.2 } }

/-- The parameter store loaded; the defaults when no copy is valid or their restoration is due. Restored defaults are written to the older copy,
which becomes the newer, so that they stay until they are changed (R373, R378; log 59). -/
def State.loadParams (s : State) : State :=
  let l := s.lamp
  match l.newerCopy, l.restore with
  | some p, false => p.vals.foldl State.loadValue { s with lamp := { l with loadOk := true, store := copiesState l.copies, storeGen := p.gen } }
  | _, false => { s with lamp := { l with loadOk := false, store := 2, storeGen := 0 } }
  | _, true =>
    let gen := max (copyGen l.copies[0]) (copyGen l.copies[1]) + 1
    { s with lamp := { l with loadOk := false, store := 2, storeGen := gen, restore := false, copies := l.copies.set l.olderCopy (some ⟨gen, []⟩) } }

/-- DEVICE_START (R397): the firmware runs, its count of expiries begun anew when it is not the slot that ran (R396; DEDUCED, log 48), the
parameter store is loaded, the relay is held when the test frames pass (R354), every channel whose start mode is not 0x7 is commanded to start;
without valid firmware the ROM does nothing more. -/
def execDeviceStart (s : State) : Host.Outcome State Fault Refusal :=
  if s.lamp.life ≠ .held then .next s else
  match s.lamp.bootSlot with
  | none => .next { s with lamp := { s.lamp with life := .dead } }
  | some n =>
    let s : State := { s with lamp := { s.lamp.runSlot n with life := .up, other := false } }
    let s := s.loadParams
    let pass : Bool := s.lamp.bypControl == 0 && Config.choice s.ring.free 95 % 2 == 1
    let s := ({ s with ring := { s.ring with bypWait := !pass, conf := s.lamp.conf, free := s.ring.free + 1 } } : State).join pass
    .next { s with chans := s.chans.map fun (ch : Chan) => ch.startCold none }

/-- LAMPLIGHTER_WATCHDOG_EXPIRY (R355, R398), `secs` seconds after the slot running started: as PORESET_N, but the expiries and the start
attempts are kept; the third in a row within 60 s of a start has the other slot started. -/
def execLamplighterWatchdogExpiry (secs : Nat) (s : State) : Host.Outcome State Fault Refusal :=
  if s.lamp.life ≠ .up then .next s else
  let soon := if secs ≤ 60 then s.lamp.attempts + 1 else 0
  let expiries := sticky 0xFFFF s.lamp.expiries 1
  let running := s.lamp.running
  let s := s.resetDevice
  .next { s with lamp := { s.lamp with
    attempts := if soon = 3 then 0 else soon, other := soon == 3, running := running, expiries := expiries } }

/-- THERMAL_TRIP (R472): held as in reset, THERMTRIP_N low, until PORESET_N. -/
def execThermalTrip (s : State) : Host.Outcome State Fault Refusal :=
  let s := s.resetDevice
  .next { s with lamp := { s.lamp with life := .tripped } }

end Sys2Proof.Machine
end

