-- ==== Sys2Proof/Machine/Event.lean ====
section
/-! DEFINITION. What happens to a channel from outside its cores: tracker edges, slots, timers, captures, pins, the peripherals,
the watchdog's clock, counters and trace (R119 to R172, R432 to R454). An event of a channel without power or held in reset
changes nothing in it. An event of the count, of a tracker or of PTB_TIME brings them to where it takes place (log 26). -/

namespace Sys2Proof.Machine

/-- An event of a running channel. -/
def State.event (s : State) (c : Fin 4) (f : MantleTable → Chan → Chan) : Host.Outcome State Fault Refusal :=
  s.act c fun m ch => if ch.life == .up then f m ch else ch

/-! The Phase Timebase. -/

/-- ENCODER_COUNT (R124, R128, R130). -/
def execEncoderCount (c t : Fin 4) (move : EncMove) (e : CountEdge) (s : State) : Host.Outcome State Fault Refusal :=
  s.event c fun m ch => ch.encoder m t move e.width e.dt

/-- INDEX_EDGE (R129). -/
def execIndexEdge (c t : Fin 4) (e : MarkEdge) (s : State) : Host.Outcome State Fault Refusal :=
  s.event c fun m ch => ch.indexMark m t e

/-- PULSE_EDGE (R129). -/
def execPulseEdge (c t : Fin 4) (e : MarkEdge) (s : State) : Host.Outcome State Fault Refusal := s.event c fun m ch => ch.markEdge m t 2 e

/-- ZERO_CROSSING (R123, R129). -/
def execZeroCrossing (c t : Fin 4) (e : MarkEdge) (s : State) : Host.Outcome State Fault Refusal := s.event c fun m ch => ch.markEdge m t 3 e

/-- RING_PHASE_SAMPLE (R125): a sample that the Lamplighter has delivered is applied; one that no head gave is none. -/
def execRingPhaseSample (c t : Fin 4) (angle turn : BitVec 32) (newMaster : Bool) (e : SampleTime) (s : State) : Host.Outcome State Fault Refusal :=
  s.event c fun m ch =>
    let x : RingSample := ⟨t, angle, turn, newMaster, e, true⟩
    if !ch.samples.contains x then ch else
    ({ ch with samples := ch.samples.map fun y => if y = x then { y with due := false } else y } : Chan).ringSample m t angle turn newMaster e.dt e.stamp

/-- MISSING_EDGE (R130). -/
def execMissingEdge (c t : Fin 4) (s : State) : Host.Outcome State Fault Refusal := s.event c fun m ch => ch.missingEdge m t

/-- HOLDOVER_EXPIRY (R130). -/
def execHoldoverExpiry (c t : Fin 4) (s : State) : Host.Outcome State Fault Refusal := s.event c fun m ch => ch.holdExpiry m t

/-- How far ahead of the advanced position a slot's target lies in a direction (R132, R133, R137). -/
def Chan.ahead (ch : Chan) (n : Fin 64) (bwd : Bool) : Int :=
  let a := ch.adv (ch.slotTrk n)
  if !ch.periodic n then dist a (ch.target n)
  else
    let x : W32 := if bwd then a.truncate 32 - ch.reg (nb n + 8) else ch.reg (nb n + 8) - a.truncate 32
    let d : Int := if x = 0#32 then 2 ^ 32 else x.toNat
    if bwd then -d else d

/-- SLOT_FIRING: the tracker moves on to where the slot's target is reached (R132, R133, R137). -/
def execSlotFiring (c : Fin 4) (n : Fin 64) (bwd : Bool) (s : State) : Host.Outcome State Fault Refusal :=
  s.event c fun m ch =>
    let k := ch.slotTrk n
    let d := ch.ahead n bwd
    if ch.armed n && (ch.trkState k == 2 || ch.trkState k == 3) && ch.dirOk n bwd && ch.moveDir k 0#64 0#64 == bwd && (if bwd then decide (d < 0) else decide (0 < d)) then
      ch.motion m k (ch.adv k) (ch.pos k + BitVec.ofInt 64 d) (ch.tk k).frac
    else ch

/-- DEADLINE: PTB_TIME reaches an armed slot's deadline, less its LEAD (R136). -/
def execDeadline (c : Fin 4) (n : Fin 64) (s : State) : Host.Outcome State Fault Refusal :=
  s.event c fun m ch =>
    let dl : W64 := ch.reg (nb n + 0x14) ++ ch.reg (nb n + 0x10)
    let t := dl - BitVec.ofNat 64 (ch.fld (kb (ch.slotTrk n) + 0x14) 0 16)
    let ch' := { ch with ptb := t - 1#64, fired := [] }
    if ch.armed n && ch.deadlineHit n then ch.deadline m n
    else if ch.armed n && ({ ch with ptb := t } : Chan).deadlineHit n then (({ ch'.releaseDue m with ptb := t } : Chan).deadline m n).releaseDue m
    else ch

/-! Timers. -/

/-- A count or compare value written and not yet in force comes into force first, at the next tick boundary (R148, R152). -/
def Chan.tmSettled (ch : Chan) (n : Fin 16) : Chan :=
  let t := ch.tm n
  if t.newC.isSome || t.newA.isSome || t.newB.isSome then ch.tmTick n else ch

/-- The count brought to a value and direction, and the next tick (R146). -/
def Chan.tmFrom (ch : Chan) (n : Fin 16) (cnt : Nat) (down : Bool) : Chan :=
  ((ch.setReg (tb n + 8) (BitVec.ofNat 32 cnt)).onTm n fun t => { t with down := down, pre := 0 }).tmTick n

/-- TIMER_ZERO: the tick that makes CNT 0 (R146). -/
def execTimerZero (c : Fin 4) (n : Fin 16) (s : State) : Host.Outcome State Fault Refusal :=
  s.event c fun _ ch =>
    if !ch.tmRun n then ch else
    let ch := ch.tmSettled n
    if ch.updown n then ch.tmFrom n 1 true else ch.tmFrom n (ch.reg (tb n + 4)).toNat false

/-- TIMER_PEAK: the tick that makes CNT PER, in up-down mode (R146). -/
def execTimerPeak (c : Fin 4) (n : Fin 16) (s : State) : Host.Outcome State Fault Refusal :=
  s.event c fun _ ch =>
    if !ch.tmRun n || !ch.updown n then ch else
    let ch := ch.tmSettled n
    ch.tmFrom n (ch.perUD n - 1) false

/-- COMPARE_MATCH: the next tick that makes CNT the compare value, when the count can reach it (R149). -/
def execCompareMatch (c : Fin 4) (n : Fin 16) (b : Bool) (s : State) : Host.Outcome State Fault Refusal :=
  s.event c fun _ ch =>
    if !ch.tmRun n then ch else
    let ch := ch.tmSettled n
    let v := (ch.reg (tb n + if b then 0x14 else 0x10)).toNat
    if ch.updown n then
      let p := ch.perUD n
      if p < v then ch
      else if v = 0 ∨ ((ch.tm n).down ∧ v < p) then ch.tmFrom n (v + 1) true
      else ch.tmFrom n (v - 1) false
    else
      let per := (ch.reg (tb n + 4)).toNat
      if per < v then ch else if v = 0 then ch.tmFrom n per false else ch.tmFrom n (v - 1) false

/-- CAPTURE: the count is latched for an edge that CAPCFG selects, which came 3 cycles and the filter's width before on a pin that the input is
assigned to; a pulse narrower than the filter is rejected (R155, R165). An edge brought by PIN_EDGE takes this time in idle steps instead. -/
def execCapture (c : Fin 4) (n : Fin 16) (m : Fin 4) (e : CaptureEdge) (s : State) : Host.Outcome State Fault Refusal :=
  s.event c fun _ ch =>
    if ch.capSel n m e.rising && ch.selects 3 (4 * n.val + m.val) && decide (ch.capFilt n m ≤ e.width) then ch.capture n m false else ch

/-- DEAD_TIME_END: a rising edge of output A or B, H or L, after DT (R151). -/
def execDeadTimeEnd (c : Fin 4) (n : Fin 16) (b low : Bool) (s : State) : Host.Outcome State Fault Refusal :=
  s.event c fun _ ch => ch.tmRise n (2 * b2n b + b2n low)

/-! The watchdog's clock. -/

/-- WATCHDOG_WARNING (R160). -/
def execWatchdogWarning (c : Fin 4) (s : State) : Host.Outcome State Fault Refusal := s.event c fun _ ch => ch.wdtWarn

/-- SERVICE_GAP_EXPIRY (R161). -/
def execServiceGapExpiry (c : Fin 4) (s : State) : Host.Outcome State Fault Refusal := s.event c fun _ ch => ch.wdtGap

/-! Pins and peripherals. -/

/-- PIN_EDGE: the outside drives a ball (R165); a channel that does not run keeps only the level. -/
def execPinEdge (c : Fin 4) (pin : Fin 64) (level : Bool) (s : State) : Host.Outcome State Fault Refusal :=
  s.act c fun _ ch =>
    if ch.life == .up then ch.pinEdge pin.val level else
    let bit : BitVec 64 := BitVec.ofNat 64 (2 ^ pin.val)
    { ch with pinExt := ch.pinExt ||| bit, pinIn := if level then ch.pinIn ||| bit else ch.pinIn &&& ~~~bit }

/-- CHARACTER_RECEIVED (R169). -/
def execCharacterReceived (c : Fin 4) (u : Fin 2) (ch' : BitVec 8) (parErr frmErr brk : Bool) (s : State) : Host.Outcome State Fault Refusal :=
  s.event c fun _ ch => ch.uartRx u ch' parErr frmErr brk

/-- CHARACTER_SENT (R169). -/
def execCharacterSent (c : Fin 4) (u : Fin 2) (s : State) : Host.Outcome State Fault Refusal := s.event c fun _ ch => ch.pinsMoved (ch.uartSent u)

/-- RXTO (R169). -/
def execRxTimeout (c : Fin 4) (u : Fin 2) (s : State) : Host.Outcome State Fault Refusal := s.event c fun _ ch => ch.uartTimeout u

/-- SPI_FRAME_DONE (R170). -/
def execSpiFrameDone (c : Fin 4) (rx : BitVec 32) (s : State) : Host.Outcome State Fault Refusal := s.event c fun _ ch => ch.pinsMoved (ch.spiDone rx)

/-- I2C_BYTE_DONE (R171). -/
def execI2cByteDone (c : Fin 4) (rx : BitVec 8) (nack : Bool) (s : State) : Host.Outcome State Fault Refusal := s.event c fun _ ch => ch.pinsMoved (ch.i2cDone rx nack)

/-- ARBITRATION_LOST (R171). -/
def execArbitrationLost (c : Fin 4) (s : State) : Host.Outcome State Fault Refusal := s.event c fun _ ch => ch.pinsMoved (ch.i2cLost)

/-- STRETCH_TIMEOUT (R171). -/
def execStretchTimeout (c : Fin 4) (s : State) : Host.Outcome State Fault Refusal := s.event c fun _ ch => ch.pinsMoved (ch.i2cStretch)

/-- FRAME_SENT (R172). -/
def execFrameSent (c : Fin 4) (s : State) : Host.Outcome State Fault Refusal := s.event c fun _ ch => ch.ethSent

/-- FRAME_RECEIVED (R172). -/
def execFrameReceived (c : Fin 4) (bytes : List (BitVec 8)) (ok : Bool) (s : State) : Host.Outcome State Fault Refusal :=
  s.event c fun _ ch => ch.ethRx bytes ok

/-- LINK_CHANGE (R172). -/
def execLinkChange (c : Fin 4) (up : Bool) (speed : BitVec 2) (hdx : Bool) (s : State) : Host.Outcome State Fault Refusal :=
  s.event c fun _ ch => ch.ethLink up speed hdx

/-- MDIO_DONE (R172). -/
def execMdioDone (c : Fin 4) (data : BitVec 16) (s : State) : Host.Outcome State Fault Refusal := s.event c fun _ ch => ch.pinsMoved (ch.mdioDone data)

/-! Counters and trace. -/

/-- COUNTER_OVERFLOW: the increment that wraps the counter, while counting is enabled (R437). -/
def execCounterOverflow (k : CoreId) (b : Fin 14) (s : State) : Host.Outcome State Fault Refusal :=
  s.event k.ch fun _ ch =>
    if !ch.bit (pcr k.w 0x1000) 0 then ch else
    ((ch.setReg (pcr k.w (0x1100 + b.val * 8)) 0xFFFFFFFF#32).setReg (pcr k.w (0x1104 + b.val * 8)) 0xFFFF#32).bump k.w b.val 1

/-- TRIGGER (R452). -/
def execTrigger (c : Fin 4) (ev : TriggerEvent) (s : State) : Host.Outcome State Fault Refusal :=
  s.event c fun _ ch => match ev with
    | .software => ch.trigger 1 0
    | .patchMatch u => ch.trigger 2 u.val
    | .slotFired n => ch.trigger 3 n.val
    | .overflow w => ch.trigger 4 w.val

/-- POST_END: the count of POST ends (R452). -/
def execPostEnd (c : Fin 4) (s : State) : Host.Outcome State Fault Refusal :=
  s.event c fun _ ch => if ch.trcState = 2 then ch.traceHalt else ch

/-- TRACE_STALL: LEVEL has reached 56 KB with STALL at 1 and a port (R450). -/
def execTraceStall (c : Fin 4) (s : State) : Host.Outcome State Fault Refusal :=
  s.event c fun _ ch => if ch.bit 0x200000 3 && ch.trcPort != 0 && decide (3584 ≤ ch.trcUsed / 16) then { ch with stall := true } else ch

/-- TRACE_STALL_END: LEVEL has fallen below 32 KB (R450). -/
def execTraceStallEnd (c : Fin 4) (s : State) : Host.Outcome State Fault Refusal :=
  s.event c fun _ ch => if ch.trcUsed / 16 < 2048 then { ch with stall := false } else ch

/-- ROOM_RETURNS (R451). -/
def execRoomReturns (c : Fin 4) (s : State) : Host.Outcome State Fault Refusal := s.event c fun _ ch => ch.traceRoom

/-- SYNC_CYCLE_LIMIT: 2^35 − 1 cycles without a packet of a traced core (R442). -/
def execSyncCycleLimit (k : CoreId) (s : State) : Host.Outcome State Fault Refusal :=
  s.event k.ch fun _ ch =>
    let c := ch.core k.w
    match c.trcOn, c.trcLast with
    | true, some l =>
      let t := l + (2 ^ 35 - 1)
      let ch := ch.onCore k.w fun c => { c with cyc := max c.cyc t }
      let ch := (ch.flushBr k.w).pktCore k.w 1 t (ch.syncPayload c.pc c.pcc.mantle)
      ch.onCore k.w fun c => { c with trcSync := false, trcSince := 0, trcMtl := c.pcc.mantle, trcAddr := c.pc.truncate 48 }
    | _, _ => ch

end Sys2Proof.Machine
end

