-- ==== Sys2Proof/Machine/Fp.lean ====
section
/-! DEFINITION. Scalar floating point, fused operations and the vector pipe (R71 to R73, R91, R100). -/

namespace Sys2Proof.Machine

/-- An FP result with its flags: FPCTL.FLAGS first, then Arithmetic for an enabled exception, else the result (R71, R72). -/
def Chan.fpDone (ch : Chan) (w : Fin 8) (fl : FFlags) (write : Chan → Chan) : Res :=
  let tr := fpTrap (ch.fpctl w) fl
  let ch := ch.setFlags w fl
  if tr = 0#5 then .next (write ch) 1 else ch.fail w ⟨9, tr.toNat, 0#64⟩

/-- The bits of a scalar operand (R71). -/
def Chan.fpv (ch : Chan) (w : Fin 8) (d : Bool) (r : Fin 32) : Nat := (ch.rv w r).toNat % 2 ^ (if d then 64 else 32)

/-- FPCTL.RM as an instruction issued now reads it (R72). -/
def Chan.rm (ch : Chan) (w : Fin 8) : Nat := fpRm (ch.fpctl w)

/-- The word of a scalar operation of major 0x2C. -/
def encF (p d : Bool) (rd rs1 rs2 fn : Nat) : W32 := encR 0x2C p rd rs1 rs2 0 (fn + 16 * b2n d)

/-- A scalar result into v[rd], upper bits clear (R71). -/
def Chan.fpToV (ch : Chan) (w : Fin 8) (rd : Fin 32) (dist : Nat) (r : Nat × FFlags) : Res :=
  ch.fpDone w r.2 fun ch => ch.wv w rd dist (BitVec.ofNat 128 r.1)

/-- FDIV and FSQRT: long operations that carry their flags to completion (R96, R100). -/
def Chan.fpLong (m : MantleTable) (ch : Chan) (w : Fin 8) (op : LoqOp) (rd : Fin 32) (most : Nat) (r : Nat × FFlags) : Res :=
  ch.longOp m w fun ch => .next (ch.loqPut m w op (some true) rd (BitVec.ofNat 128 r.1) r.2 none most) 1

/-- FADD (R71). -/
def execFadd (k : CoreId) (p d : Bool) (rd rs1 rs2 : Fin 32) (s : State) : Host.Outcome State Fault Refusal :=
  s.wick k (encF p d rd.val rs1.val rs2.val 0) fun _ w ch =>
    ch.fpToV w rd 4 (fpArith 0 d (ch.rm w) (ch.fpv w d rs1) (ch.fpv w d rs2))

/-- FSUB (R71). -/
def execFsub (k : CoreId) (p d : Bool) (rd rs1 rs2 : Fin 32) (s : State) : Host.Outcome State Fault Refusal :=
  s.wick k (encF p d rd.val rs1.val rs2.val 1) fun _ w ch =>
    ch.fpToV w rd 4 (fpArith 1 d (ch.rm w) (ch.fpv w d rs1) (ch.fpv w d rs2))

/-- FMUL (R71). -/
def execFmul (k : CoreId) (p d : Bool) (rd rs1 rs2 : Fin 32) (s : State) : Host.Outcome State Fault Refusal :=
  s.wick k (encF p d rd.val rs1.val rs2.val 2) fun _ w ch =>
    ch.fpToV w rd 5 (fpArith 2 d (ch.rm w) (ch.fpv w d rs1) (ch.fpv w d rs2))

/-- FMIN (R71). -/
def execFmin (k : CoreId) (p d : Bool) (rd rs1 rs2 : Fin 32) (s : State) : Host.Outcome State Fault Refusal :=
  s.wick k (encF p d rd.val rs1.val rs2.val 5) fun _ w ch =>
    ch.fpToV w rd 4 (fpArith 5 d (ch.rm w) (ch.fpv w d rs1) (ch.fpv w d rs2))

/-- FMAX (R71). -/
def execFmax (k : CoreId) (p d : Bool) (rd rs1 rs2 : Fin 32) (s : State) : Host.Outcome State Fault Refusal :=
  s.wick k (encF p d rd.val rs1.val rs2.val 6) fun _ w ch =>
    ch.fpToV w rd 4 (fpArith 6 d (ch.rm w) (ch.fpv w d rs1) (ch.fpv w d rs2))

/-- FDIV (R71). -/
def execFdiv (k : CoreId) (p d : Bool) (rd rs1 rs2 : Fin 32) (s : State) : Host.Outcome State Fault Refusal :=
  s.wick k (encF p d rd.val rs1.val rs2.val 3) fun m w ch =>
    ch.fpLong m w .fdiv rd (if d then 20 else 12) (fpArith 3 d (ch.rm w) (ch.fpv w d rs1) (ch.fpv w d rs2))

/-- FSQRT (R71). -/
def execFsqrt (k : CoreId) (p d : Bool) (rd rs1 : Fin 32) (s : State) : Host.Outcome State Fault Refusal :=
  s.wick k (encF p d rd.val rs1.val 0 4) fun m w ch =>
    ch.fpLong m w .fsqrt rd (if d then 24 else 14) (fpArith 4 d (ch.rm w) (ch.fpv w d rs1) 0)

/-- FCPS: the magnitude of v[rs1] with the sign of v[rs2] (R71), of a NaN too, whose payload and sign stay: DESIGN CHOICE (log 53). -/
def execFcps (k : CoreId) (p d : Bool) (rd rs1 rs2 : Fin 32) (s : State) : Host.Outcome State Fault Refusal :=
  s.wick k (encF p d rd.val rs1.val rs2.val 7) fun _ w ch =>
    let h := 2 ^ (if d then 63 else 31)
    ch.fpToV w rd 4 (ch.fpv w d rs1 % h + ch.fpv w d rs2 / h * h, 0#5)

/-- FCVTP: from the other precision (R71). -/
def execFcvtp (k : CoreId) (p d : Bool) (rd rs1 : Fin 32) (s : State) : Host.Outcome State Fault Refusal :=
  s.wick k (encF p d rd.val rs1.val 0 8) fun _ w ch => ch.fpToV w rd 4 (fCvt (fmtOf !d) (fmtOf d) (ch.rm w) (ch.fpv w (!d) rs1))

/-- FTOI (R71). -/
def execFtoi (k : CoreId) (p d : Bool) (rd rs1 : Fin 32) (s : State) : Host.Outcome State Fault Refusal :=
  s.wick k (encF p d rd.val rs1.val 0 9) fun _ w ch =>
    let r := fToI (ch.rm w) (unpack (fmtOf d) (ch.fpv w d rs1))
    ch.fpDone w r.2 fun ch => ch.wg w rd 4 r.1

/-- FFROMI (R71). -/
def execFfromi (k : CoreId) (p d : Bool) (rd rs1 : Fin 32) (s : State) : Host.Outcome State Fault Refusal :=
  s.wick k (encF p d rd.val rs1.val 0 10) fun _ w ch => ch.fpToV w rd 4 (fFromI (fmtOf d) (ch.rm w) (ch.rg w rs1))

/-- FBITS.G (R71). -/
def execFbitsG (k : CoreId) (p d : Bool) (rd rs1 : Fin 32) (s : State) : Host.Outcome State Fault Refusal :=
  s.wick k (encF p d rd.val rs1.val 0 11) fun _ w ch => .next (ch.wg w rd 4 (BitVec.ofNat 64 (ch.fpv w d rs1))) 1

/-- FBITS.V (R71). -/
def execFbitsV (k : CoreId) (p d : Bool) (rd rs1 : Fin 32) (s : State) : Host.Outcome State Fault Refusal :=
  s.wick k (encF p d rd.val rs1.val 0 12) fun _ w ch =>
    .next (ch.wv w rd 4 (BitVec.ofNat 128 ((ch.rg w rs1).toNat % 2 ^ (if d then 64 else 32)))) 1

/-- FCEQ (R71). -/
def execFceq (k : CoreId) (p d : Bool) (rd rs1 rs2 : Fin 32) (s : State) : Host.Outcome State Fault Refusal :=
  s.wick k (encF p d rd.val rs1.val rs2.val 13) fun _ w ch =>
    let r := fpCmp 13 d (ch.fpv w d rs1) (ch.fpv w d rs2)
    ch.fpDone w r.2 fun ch => ch.wg w rd 4 (b2w r.1)

/-- FCLT (R71). -/
def execFclt (k : CoreId) (p d : Bool) (rd rs1 rs2 : Fin 32) (s : State) : Host.Outcome State Fault Refusal :=
  s.wick k (encF p d rd.val rs1.val rs2.val 14) fun _ w ch =>
    let r := fpCmp 14 d (ch.fpv w d rs1) (ch.fpv w d rs2)
    ch.fpDone w r.2 fun ch => ch.wg w rd 4 (b2w r.1)

/-- FCLE (R71). -/
def execFcle (k : CoreId) (p d : Bool) (rd rs1 rs2 : Fin 32) (s : State) : Host.Outcome State Fault Refusal :=
  s.wick k (encF p d rd.val rs1.val rs2.val 15) fun _ w ch =>
    let r := fpCmp 15 d (ch.fpv w d rs1) (ch.fpv w d rs2)
    ch.fpDone w r.2 fun ch => ch.wg w rd 4 (b2w r.1)

/-- FMAC (R71). -/
def execFmac (k : CoreId) (p d : Bool) (rd rs1 rs2 rs3 : Fin 32) (s : State) : Host.Outcome State Fault Refusal :=
  s.wick k (encR 0x2D p rd.val rs1.val rs2.val rs3.val (0 + 16 * b2n d)) fun _ w ch =>
    ch.fpToV w rd 5 (fpFused 0 d (ch.rm w) (ch.fpv w d rs1) (ch.fpv w d rs2) (ch.fpv w d rs3))

/-- FMSC (R71). -/
def execFmsc (k : CoreId) (p d : Bool) (rd rs1 rs2 rs3 : Fin 32) (s : State) : Host.Outcome State Fault Refusal :=
  s.wick k (encR 0x2D p rd.val rs1.val rs2.val rs3.val (1 + 16 * b2n d)) fun _ w ch =>
    ch.fpToV w rd 5 (fpFused 1 d (ch.rm w) (ch.fpv w d rs1) (ch.fpv w d rs2) (ch.fpv w d rs3))

/-- FNMAC (R71). -/
def execFnmac (k : CoreId) (p d : Bool) (rd rs1 rs2 rs3 : Fin 32) (s : State) : Host.Outcome State Fault Refusal :=
  s.wick k (encR 0x2D p rd.val rs1.val rs2.val rs3.val (2 + 16 * b2n d)) fun _ w ch =>
    ch.fpToV w rd 5 (fpFused 2 d (ch.rm w) (ch.fpv w d rs1) (ch.fpv w d rs2) (ch.fpv w d rs3))

/-- FNMSC (R71). -/
def execFnmsc (k : CoreId) (p d : Bool) (rd rs1 rs2 rs3 : Fin 32) (s : State) : Host.Outcome State Fault Refusal :=
  s.wick k (encR 0x2D p rd.val rs1.val rs2.val rs3.val (3 + 16 * b2n d)) fun _ w ch =>
    ch.fpToV w rd 5 (fpFused 3 d (ch.rm w) (ch.fpv w d rs1) (ch.fpv w d rs2) (ch.fpv w d rs3))

/-- Lane type in fn[4:3] of major 0x2E (R73). -/
def laneCode : LaneType → Nat | .f32 => 0 | .i32 => 1 | .i16 => 2 | .i8 => 3

/-- A vector result with its flags (R73). -/
def Chan.vecDone (ch : Chan) (w : Fin 8) (rd : Fin 32) (r : W128 × FFlags) : Res := ch.fpDone w r.2 fun ch => ch.wv w rd 5 r.1

/-- Vector ADD (R73). -/
def execVectorAdd (k : CoreId) (p : Bool) (lane : LaneType) (rd rs1 rs2 : Fin 32) (s : State) : Host.Outcome State Fault Refusal :=
  s.wick k (encR 0x2E p rd.val rs1.val rs2.val 0 (0 + 8 * laneCode lane)) fun _ w ch =>
    ch.vecDone w rd (vecOp lane 0 (ch.rm w) (ch.rv w rs1) (ch.rv w rs2))

/-- Vector SUB (R73). -/
def execVectorSub (k : CoreId) (p : Bool) (lane : LaneType) (rd rs1 rs2 : Fin 32) (s : State) : Host.Outcome State Fault Refusal :=
  s.wick k (encR 0x2E p rd.val rs1.val rs2.val 0 (1 + 8 * laneCode lane)) fun _ w ch =>
    ch.vecDone w rd (vecOp lane 1 (ch.rm w) (ch.rv w rs1) (ch.rv w rs2))

/-- Vector MUL (R73). -/
def execVectorMul (k : CoreId) (p : Bool) (lane : LaneType) (rd rs1 rs2 : Fin 32) (s : State) : Host.Outcome State Fault Refusal :=
  s.wick k (encR 0x2E p rd.val rs1.val rs2.val 0 (2 + 8 * laneCode lane)) fun _ w ch =>
    ch.vecDone w rd (vecOp lane 2 (ch.rm w) (ch.rv w rs1) (ch.rv w rs2))

/-- Vector MIN (R73). -/
def execVectorMin (k : CoreId) (p : Bool) (lane : LaneType) (rd rs1 rs2 : Fin 32) (s : State) : Host.Outcome State Fault Refusal :=
  s.wick k (encR 0x2E p rd.val rs1.val rs2.val 0 (3 + 8 * laneCode lane)) fun _ w ch =>
    ch.vecDone w rd (vecOp lane 3 (ch.rm w) (ch.rv w rs1) (ch.rv w rs2))

/-- Vector MAX (R73). -/
def execVectorMax (k : CoreId) (p : Bool) (lane : LaneType) (rd rs1 rs2 : Fin 32) (s : State) : Host.Outcome State Fault Refusal :=
  s.wick k (encR 0x2E p rd.val rs1.val rs2.val 0 (4 + 8 * laneCode lane)) fun _ w ch =>
    ch.vecDone w rd (vecOp lane 4 (ch.rm w) (ch.rv w rs1) (ch.rv w rs2))

/-- Vector AND (R73). -/
def execVectorAnd (k : CoreId) (p : Bool) (lane : LaneType) (rd rs1 rs2 : Fin 32) (s : State) : Host.Outcome State Fault Refusal :=
  s.wick k (encR 0x2E p rd.val rs1.val rs2.val 0 (5 + 8 * laneCode lane)) fun _ w ch =>
    ch.vecDone w rd (vecOp lane 5 (ch.rm w) (ch.rv w rs1) (ch.rv w rs2))

/-- Vector OR (R73). -/
def execVectorOr (k : CoreId) (p : Bool) (lane : LaneType) (rd rs1 rs2 : Fin 32) (s : State) : Host.Outcome State Fault Refusal :=
  s.wick k (encR 0x2E p rd.val rs1.val rs2.val 0 (6 + 8 * laneCode lane)) fun _ w ch =>
    ch.vecDone w rd (vecOp lane 6 (ch.rm w) (ch.rv w rs1) (ch.rv w rs2))

/-- Vector XOR (R73). -/
def execVectorXor (k : CoreId) (p : Bool) (lane : LaneType) (rd rs1 rs2 : Fin 32) (s : State) : Host.Outcome State Fault Refusal :=
  s.wick k (encR 0x2E p rd.val rs1.val rs2.val 0 (7 + 8 * laneCode lane)) fun _ w ch =>
    ch.vecDone w rd (vecOp lane 7 (ch.rm w) (ch.rv w rs1) (ch.rv w rs2))

/-- VFMA.S4 (R73). -/
def execVfmaS4 (k : CoreId) (p : Bool) (rd rs1 rs2 rs3 : Fin 32) (s : State) : Host.Outcome State Fault Refusal :=
  s.wick k (encR 0x2F p rd.val rs1.val rs2.val rs3.val 0) fun _ w ch =>
    ch.vecDone w rd (vecFma false (ch.rm w) (ch.rv w rs1) (ch.rv w rs2) (ch.rv w rs3))

/-- VFNMA.S4 (R73). -/
def execVfnmaS4 (k : CoreId) (p : Bool) (rd rs1 rs2 rs3 : Fin 32) (s : State) : Host.Outcome State Fault Refusal :=
  s.wick k (encR 0x2F p rd.val rs1.val rs2.val rs3.val 1) fun _ w ch =>
    ch.vecDone w rd (vecFma true (ch.rm w) (ch.rv w rs1) (ch.rv w rs2) (ch.rv w rs3))

/-- VSHUF (R73). -/
def execVshuf (k : CoreId) (p : Bool) (rd rs1 rs2 : Fin 32) (s : State) : Host.Outcome State Fault Refusal :=
  s.wick k (encR 0x2F p rd.val rs1.val rs2.val 0 2) fun _ w ch => .next (ch.wv w rd 5 (vecShuf (ch.rv w rs1) (ch.rv w rs2))) 1

/-- VSPLAT.W (R73). -/
def execVsplatW (k : CoreId) (p : Bool) (rd rs1 : Fin 32) (s : State) : Host.Outcome State Fault Refusal :=
  s.wick k (encR 0x2F p rd.val rs1.val 0 0 3) fun _ w ch =>
    let x : W32 := (ch.rg w rs1).truncate 32
    .next (ch.wv w rd 5 (x ++ x ++ x ++ x)) 1

/-- VEXT.W (R73). -/
def execVextW (k : CoreId) (p : Bool) (rd rs1 : Fin 32) (lane' : Fin 4) (s : State) : Host.Outcome State Fault Refusal :=
  s.wick k (encR 0x2F p rd.val rs1.val lane'.val 0 4) fun _ w ch => .next (ch.wg w rd 5 (sx (lane 32 (ch.rv w rs1) lane'.val))) 1

end Sys2Proof.Machine
end

