-- ==== Sys2Proof/Machine/Phase.lean ====
section
/-! DEFINITION. The phase instructions (R83 to R85, R91, R115, R140, R200). -/

namespace Sys2Proof.Machine

/-- WAITPH (R83): it ends at once with status 0 or 2, else it holds issue. -/
def execWaitph (k : CoreId) (p : Bool) (rd rs1 : Fin 32) (slot : Fin 64) (s : State) : Host.Outcome State Fault Refusal :=
  s.wick k (encP p rd.val rs1.val 0 slot.val 0) fun m w ch =>
    let cost := if ch.fixedCore w then 2 else 1
    if ch.relBit w slot then .next ((ch.clrRel w slot).wg w rd 1 0#64) cost
    else if !ch.armed slot then .next (ch.wg w rd 1 2#64) cost
    else
      let t := (ch.rg w rs1).toNat
      .ctl (((ch.splitPair m w).meltAll m w).onCore w fun c => { c with wait := .waitph slot rd (if t = 0 then none else some t), waitP := p })

/-- The timeout of a waiting WAITPH expires (R83). -/
def execWaitphTimeout (k : CoreId) (s : State) : Host.Outcome State Fault Refusal :=
  s.act k.ch fun m ch =>
    match (ch.core k.w).wait with
    | .waitph _ rd (some _) => if ch.stands k.w then ch else ch.endWaitph m k.w rd 1#64
    | _ => ch

/-- STPH: checks as a store, then the write queued; status at distance 2 (R85). -/
def execStph (k : CoreId) (p : Bool) (rd rs1 rs2 : Fin 32) (slot : Fin 64) (s : State) : Host.Outcome State Fault Refusal :=
  s.wick k (encP p rd.val rs1.val rs2.val slot.val 1) fun m w ch =>
    ch.access m w (ch.rc w 0) accStph (ch.rg w rs1) 4 false fun ch ps =>
      let off := ((ps.map fun x => x.pa).headD 0) - ctrlBase
      let (ch, ok) := ch.stphPut ⟨slot, off, (ch.rg w rs2).truncate 32, (ch.core w).pcc.mantle⟩
      .next (ch.wg w rd 2 (b2w !ok)) (if ch.fixedCore w then 2 else 1)

end Sys2Proof.Machine
end

