-- ==== Sys2Proof/Machine/Frame.lean ====
section
/-! DEFINITION. The bytes of Lampline frames (R327, R329 to R335): what the frames that the ring node sends are on the wire. -/

namespace Sys2Proof.Machine

/-- An n-byte field, most significant byte first (R329). -/
def beField (n x : Nat) : List Byte := (leBytes x n).reverse

/-- SA of this node (R330): 02:45:48 and the low 24 bits of the serial number. -/
def nodeSa : BitVec 48 := 0x024548#24 ++ Config.serial.truncate 24

/-- The header fields of R330 that the frames of the model do not all carry. -/
structure FrameHdr where
  group  : Nat
  sa     : BitVec 48
  typ    : Nat
  wrap   : Bool
  dir    : Bool
  master : BitVec 12
  epoch  : BitVec 16
  sweep  : W32
  fidx   : Nat
  nfr    : Nat

/-- The 30 bytes of R330 before `len` bytes of payload. -/
def FrameHdr.bytes (h : FrameHdr) (len : Nat) : List Byte :=
  beField 6 (0x034C50000000 + h.group) ++ beField 6 h.sa.toNat ++ beField 2 0x88B5 ++ beField 1 (16 + h.typ) ++ beField 1 (b2n h.wrap + 2 * b2n h.dir)
    ++ beField 2 h.master.toNat ++ beField 2 h.epoch.toNat ++ beField 4 h.sweep.toNat ++ beField 1 h.fidx ++ beField 1 h.nfr ++ beField 2 len ++ beField 2 0

/-- A frame from DA through FCS; a marked one carries the complement (R327). -/
def FrameHdr.frame (h : FrameHdr) (body : List Byte) (marked : Bool) : List Byte :=
  let b := h.bytes body.length ++ body
  b ++ leBytes (if marked then ~~~(fcs b) else fcs b).toNat 4

/-- A head frame (R331). -/
def headBytes (h : HeadFrame) : List Byte :=
  FrameHdr.frame ⟨1, h.sa, 1, h.wrap, h.dir, h.master, h.epoch, h.sweep, 0, h.nfr⟩
    (beField 8 h.expDig.toNat ++ beField 4 h.rAngle.toNat ++ beField 4 h.rTurn.toNat ++ beField 8 h.delay.toNat ++ beField 2 h.standby.toNat
      ++ beField 4 h.period.toNat ++ beField 4 (b2n h.phValid + 2 * b2n h.wrapped) ++ takePad 512 h.present ++ takePad 512 h.consist
      ++ beField 4 (b2n h.dup)) h.marked

/-- A data frame (R332). -/
def dataBytes (f : DataFrame) : List Byte :=
  FrameHdr.frame ⟨1, f.sa, 2, f.wrap, f.dir, f.master, f.epoch, f.sweep, f.fidx, f.nfr⟩ f.payload f.marked

/-- An object record: with a right CRC, or with the failing one it came with (R334). -/
def recordBytes (r : ObjRecord) : List Byte :=
  let b := beField 2 r.index.toNat ++ beField 1 r.sub.toNat ++ beField 1 r.rstat.toNat ++ beField 4 r.offset.toNat ++ beField 2 r.vlen
    ++ beField 1 (b2n r.differ) ++ beField 1 0 ++ r.value
  let b := takePad ((b.length + 3) / 4 * 4) b
  b ++ beField 4 (if r.crcOk then crc32c b else r.crc).toNat

/-- A mailbox frame (R333). -/
def mailboxBytes (f : MailboxFrame) : List Byte :=
  FrameHdr.frame ⟨2, f.sa, 3, f.wrap, f.dir, f.master, f.epoch, 0#32, 0, 0⟩
    (beField 2 (f.dst.toNat + 32768 * b2n f.group) ++ beField 2 f.src.toNat ++ beField 2 f.tid.toNat ++ beField 1 f.op.toNat
      ++ beField 1 f.status.toNat ++ beField 4 f.session.toNat ++ beField 2 f.records.length ++ beField 2 f.contrib ++ beField 2 f.hops.toNat
      ++ f.records.flatMap recordBytes) f.marked

/-- A calibration frame of this node, with the MASTER and EPOCH last received (R330, R335). -/
def calBytes (r : Ring) (step : Nat) (t1 t2 t3 : W64) : List Byte :=
  FrameHdr.frame ⟨2, nodeSa, 4, false, false, r.master, r.epoch, 0#32, 0, 0⟩
    (takePad 30 (beField 1 step ++ beField 1 0 ++ beField 8 t1.toNat ++ beField 8 t2.toNat ++ beField 8 t3.toNat)) false

/-- The bytes that leave by the ports for a frame sent; the second copy of a wrapped master carries DIR 1 (R330, R346). What a frame that is only forwarded holds is not kept. -/
def RingOut.wire (r : Ring) : RingOut → List (RingPort × List Byte)
  | .forwarded .. => []
  | .head a b h => (if a then [(.a, headBytes h)] else []) ++ if b then [(.b, headBytes { h with dir := h.dir || a })] else []
  | .data a b f => (if a then [(.a, dataBytes f)] else []) ++ if b then [(.b, dataBytes { f with dir := f.dir || a })] else []
  | .mailbox f => [(f.port, mailboxBytes f)]
  | .calRequest p t1 => [(p, calBytes r 0 t1 0#64 0#64)]
  | .calReturn p t1 t2 t3 => [(p, calBytes r 1 t1 t2 t3)]
  | .cut _ => []

/-- The ports by which a frame leaves, and its bytes. -/
def RingOut.ports : RingOut → List (RingPort × Nat)
  | .forwarded p _ _ _ n => [(p, n)]
  | .head a b _ => (if a then [(.a, 1096)] else []) ++ if b then [(.b, 1096)] else []
  | .data a b f => (if a then [(.a, f.payload.length + 34)] else []) ++ if b then [(.b, f.payload.length + 34)] else []
  | .mailbox f => [(f.port, (mailboxBytes f).length)]
  | .calRequest p _ => [(p, 64)]
  | .calReturn p _ _ _ => [(p, 64)]
  | .cut _ => []

end Sys2Proof.Machine
end

