-- ==== Sys2Proof/Machine/Ring.lean ====
section
/-! DEFINITION. The Lampline ring: forwarding, the sweep, process data, master arbitration, breaks, mailbox exchanges and groups,
calibration (R325 to R353, R356, R357). -/

namespace Sys2Proof.Machine

def portObj : RingPort → Nat | .a => 0x2102 | .b => 0x2103

/-- A port counter: 1 FCSERR, 2 MARKED, 3 LINKDN, 4 SWDELAY, 5 OTHER (R357, R359). -/
def State.portCount (s : State) (p : RingPort) (sub : Nat) : State := { s with lamp := s.lamp.count (portObj p) sub 6 (sub - 1) }
/-- A node counter: 14 OBJCRC, 15 SWMISS, 16 OVERRUN, 17 DUPID, 18 BYPASS (R357, R358). -/
def State.nodeCount (s : State) (sub : Nat) : State := { s with lamp := s.lamp.count 0x2101 sub 19 (sub - 14) }

/-- The node takes part in the ring at a port: the relay is held and the port has block lock. -/
def State.hears (s : State) (p : RingPort) : Bool := s.ring.bypHold && s.ring.locked p

/-- A frame that can be used: its FCS has checked (R327). -/
def good (fcsOk marked : Bool) : Bool := fcsOk && !marked

/-- A received frame counted: MARKED, or FCSERR where its FCS fails and it is not marked; SWDELAY for a sweep frame that waited (R327, R328). -/
def State.noteFrame (s : State) (p : RingPort) (fcsOk marked waited : Bool) : State :=
  let s := if marked then s.portCount p 2 else if !fcsOk then s.portCount p 1 else s
  if waited then s.portCount p 4 else s

/-- A frame that a loss of the link has cut short: its FCS fails, and it is dropped here (R349). -/
def State.dropCut (s : State) (p : RingPort) : State := s.noteFrame p false false false

/-- The configuration as written governs from this head on (R358). -/
def State.latch (s : State) : State := { s with ring := { s.ring with conf := s.lamp.conf } }

/-! Sending (R325, R328). Times are in thirds of a nanosecond: a byte takes 12/5 of one at 10 Gb/s, and 8 bytes of preamble and SFD come first. -/

/-- How long a frame of n bytes takes on the wire. -/
def wireTime (n : Nat) : Nat := (12 * (n + 8) + 4) / 5

/-- The ports by which a frame leaves are busy with it, behind what they send already. -/
def Ring.occupy (r : Ring) (now : Nat) (o : RingOut) : Ring :=
  o.ports.foldl (fun (r : Ring) x => { r with busy := r.busy.set (portIdx x.1) (max now r.busy[portIdx x.1] + wireTime x.2) }) r

def State.send (s : State) (o : RingOut) : State :=
  { s with ring := { s.ring.occupy s.lamp.time o with outs := s.ring.outs ++ [o] } }

/-- The time of a node's clock in a stamp (R335): thirds of a nanosecond as 2^-16 ns. -/
def Lamp.stamp (l : Lamp) : W64 := BitVec.ofNat 64 (l.time * 65536 / 3)

/-- Whether a frame of the node's own may start: its port is idle, and it ends 2 µs before the predicted arrival of the next head (R328). -/
def State.mayStart (s : State) (o : RingOut) : Bool :=
  o.ports.all fun x => decide (s.ring.busy[portIdx x.1] ≤ s.lamp.time) &&
    match s.ring.headAt with
    | none => true
    | some t => decide (s.lamp.time + wireTime x.2 + 6000 ≤ t + 3000 * s.ring.conf.period)

/-- A calibration frame is stamped as it leaves (R335). -/
def RingOut.stamped (o : RingOut) (t : W64) : RingOut :=
  match o with
  | .calRequest p _ => .calRequest p t
  | .calReturn p t1 t2 _ => .calReturn p t1 t2 t
  | o => o

/-- A frame of the node's own: sent, or kept until it may start. -/
def State.own (s : State) (o : RingOut) : State :=
  if s.mayStart o then s.send (o.stamped s.lamp.stamp) else { s with ring := { s.ring with waiting := s.ring.waiting ++ [o] } }

/-- The frames kept, in their order: each that may start now leaves. It happens in the cycles in which no command comes. -/
def State.release (s : State) : State :=
  s.ring.waiting.foldl (fun (s : State) o => s.own o) { s with ring := { s.ring with waiting := [] } }

/-- Where a frame that arrived on a port goes on: the other port, or back with WRAP at a break (R349). -/
def Ring.onward (r : Ring) (p : RingPort) : RingPort × Bool := if r.locked (otherPort p) then (otherPort p, false) else (p, true)

/-! Forwarding (R326 to R328, R350). -/

/-- FORWARD. -/
def execForward (port : RingPort) (f : FrameIn) (s : State) : Host.Outcome State Fault Refusal :=
  if !s.hears port then .next s else
  if f.cut then .next (s.dropCut port) else
  let s := s.noteFrame port f.fcsOk f.marked (f.waited && (f.typ == 1 || f.typ == 2))
  let hops := if f.typ = 3 then f.hops + 1#16 else f.hops
  if f.typ = 4 ∨ (f.typ = 3 ∧ 8192 ≤ f.hops.toNat + 1) then .next s else
  let (out, wrap) := s.ring.onward port
  .next (s.send (.forwarded out (!f.fcsOk || f.marked) wrap hops f.len))

/-- OTHER: not forwarded, counted. -/
def execOther (f : OtherFrame) (s : State) : Host.Outcome State Fault Refusal :=
  if s.hears f.port then .next ((s.noteFrame f.port f.fcsOk f.marked false).portCount f.port 5) else .next s

/-! Process data (R337 to R339, R390). -/

def bitGet (b : List Byte) (n : Nat) : Bool := (nth 0#8 b (n / 8)).getLsbD (n % 8)
def bitPut (b : List Byte) (n : Nat) : List Byte := (takePad 512 b).modify (n / 8) fun x => x ||| BitVec.ofNat 8 (2 ^ (n % 8))

/-- Whether a channel's insert bindings take a new snapshot: not in reset, FROST or THAW (R339). -/
def Chan.offers (ch : Chan) : Bool := ch.life == .up && ch.mode != 8

/-- The snapshots of the insert bindings as the head's SFD reaches the node; in an activation pause the last ones stay (R356). -/
def State.snapshots (s : State) : List (Nat × List Byte) :=
  if s.lamp.pause.isSome then s.ring.snap else
  (s.lamp.bindings.filter fun x => x.2.insert).filterMap fun x =>
    let old := (s.ring.snap.find? fun y => y.1 == x.1).map fun y => (x.1, y.2)
    if (s.ch x.2.chan).offers then
      match s.lamp.app x.2.obj with
      | some a => some (x.1, takePad x.2.len a.value)
      | none => old
    else old

/-- Bytes put into a payload at an offset. -/
def putAt (p b : List Byte) (off : Nat) : List Byte := p.take off ++ b ++ p.drop (off + b.length)

/-- A CRC-32C field, big-endian. -/
def crcField (b : List Byte) : List Byte := (leBytes (crc32c b).toNat 4).reverse

/-- The messages that deliver an object's value to its channel (R389). -/
def Lamp.deliver (l : Lamp) (c : Fin 4) (a : AppObj) : Lamp :=
  (List.range ((a.value.length + 47) / 48)).foldl (fun (l : Lamp) i =>
    let v := (a.value.drop (48 * i)).take 48
    l.post c (msgWords (l.header c (Config.choice l.free 94 % 256)) 0x31 0 v.length a.index 1 (48 * i) v)) l

/-- An extracted value written into its object, and offered to the channel when the object was declared with NOTIFY; bytes the object
does not admit, another value of a BOOL among them (R365; log 59), count OBJCRC (R390). -/
def State.extract (s : State) (obj : Nat) (b : List Byte) : State :=
  match s.lamp.app obj with
  | none => s.nodeCount 14
  | some a =>
    if a.len < b.length ∨ (a.ty = 1 ∧ 1 < leNat b) then s.nodeCount 14 else
    let a := { a with value := splice a.value b 0 true }
    let l := { s.lamp with apps := s.lamp.apps.map fun x => if x.index = obj then a else x }
    { s with lamp := if a.notify then l.deliver (appChan obj) a else l }

/-- The extract bindings of a frame whose FCS has checked; in an activation pause they go to holding buffers (R356). -/
def State.extracts (s : State) (f : DataFrame) : State :=
  (s.ring.bindings.filter fun x => !x.2.insert && x.2.fidx == f.fidx).foldl (fun (s : State) x =>
    let b := (f.payload.drop x.2.off).take x.2.len
    let crc := (f.payload.drop (x.2.off + x.2.len)).take 4
    if crc ≠ crcField b then s.nodeCount 14
    else if s.lamp.pause.isSome then { s with ring := { s.ring with inbox := spPut s.ring.inbox x.2.obj b } }
    else s.extract x.2.obj b) s

/-- The payload with this node's insert bindings. -/
def State.inserts (s : State) (fidx : Nat) (p : List Byte) : List Byte :=
  (s.ring.bindings.filter fun x => x.2.insert && x.2.fidx == fidx).foldl (fun p x =>
    match s.ring.snap.find? fun y => y.1 == x.1 with
    | some y => putAt p (y.2 ++ crcField y.2) x.2.off
    | none => p) p

/-! Ring time and phase (R125, R336, R344, R345). -/

/-- 2^-16 ns as thirds of a nanosecond, and as PTB cycles. -/
def toThirds (x : W64) : Nat := x.toNat * 3 / 65536
def toCycles (x : W64) : Nat := x.toNat * 3 / (5 * 65536)

/-- The ring phase at the device time: the last reference carried on by the ring cycle of subindex 08. -/
def State.phaseNow (s : State) : W32 × W32 :=
  let cycle := 3 * s.ring.conf.cycle
  let p := s.ring.phase.turn.toNat * 2 ^ 32 + s.ring.phase.angle.toNat + (s.lamp.time - s.ring.phase.time) * 2 ^ 32 / cycle
  (BitVec.ofNat 32 p, BitVec.ofNat 32 (p / 2 ^ 32))

/-- RANGLE, RTURN and PHVALID of a head that leaves now. -/
def State.headPhase (s : State) : W32 × W32 × Bool :=
  let src := s.ring.conf.source
  if src < 0x10 then let p := s.phaseNow; (p.1, p.2, true) else
  let ch := s.ch ⟨(src - 0x10) / 4 % 4, Nat.mod_lt _ (by decide)⟩
  let k : Fin 4 := ⟨src % 4, Nat.mod_lt _ (by decide)⟩
  let a := ch.pos k
  (a.truncate 32, (a >>> 32).truncate 32, ch.life == .up && ch.trkState k == 2)

/-- A ring-phase sample for each tracker of the channel that selects the ring source: its phase was true `back` PTB cycles ago (R125, R345). -/
def Chan.deliverSample (ch : Chan) (angle turn : W32) (newMaster : Bool) (back : Nat) : Chan :=
  if ch.life != .up then ch else
  let stamp := ch.ptb - BitVec.ofNat 64 back
  let one := fun (k : Fin 4) =>
    let old := ch.samples.find? fun x => x.trk == k
    if ch.trkSrc k ≠ 4 then old else
    some ⟨k, angle, turn, newMaster || (match old with | some x => x.due && x.newMaster | none => false),
      ⟨match old with | some x => (stamp - x.e.stamp).toNat | none => 0, stamp⟩, true⟩
  { ch with samples := (List.finRange 4).filterMap one }

/-- The samples of a head that has arrived `arrived` after its SFD left the master: only from one with PHVALID, and only with valid cable estimates
(R344, R345). In an activation pause the Lamplighter delivers none (R27). -/
def State.deliverSamples (s : State) (h : HeadFrame) (arrived : W64) : State :=
  if !(h.phValid && s.ring.calibrated) || s.lamp.pause.isSome then s else
  let fresh := match s.ring.sampled with | some m => m != h.master | none => false
  { s with chans := s.chans.map (fun (ch : Chan) => ch.deliverSample h.rAngle h.rTurn fresh (toCycles arrived)), ring := { s.ring with sampled := some h.master } }

/-! The head (R337, R340, R342, R348). -/

/-- Epochs compare as signed 16-bit differences (R348). -/
def epochDiff (a b : BitVec 16) : Int := (a - b).toInt

/-- Whether a head makes a sweeping node stop (R348): a later epoch, or the same one from the master of subindex 02. -/
def State.stopsFor (s : State) (h : HeadFrame) : Bool :=
  let d := epochDiff h.epoch s.ring.epoch
  s.ring.sweeping && (decide (0 < d) || (d == 0 && h.master.toNat == s.ring.conf.masterId))

/-- Whether a node accepts a head: while it sweeps, only one that makes it stop; otherwise one whose epoch is not earlier. -/
def State.accepts (s : State) (h : HeadFrame) : Bool :=
  if s.ring.sweeping then s.stopsFor h else s.ring.last.isNone || decide (0 ≤ epochDiff h.epoch s.ring.epoch)

/-- The CONSIST bit of this node for a head (R337, R342). -/
def Lamp.consistent (l : Lamp) (h : HeadFrame) : Bool := match l.digest with | some _ => l.prefix' == h.expDig.toNat | none => false

/-- What a node takes from a head that it processes and whose FCS has checked: DUPID, snapshots, bindings, the delay and the ring phase, a sample
for each channel (R125, R337, R344, R345, R362). -/
def State.takeHead (s : State) (port : RingPort) (h : HeadFrame) : State :=
  let arrived := h.delay + BitVec.ofInt 64 (s.ring.cableOf port)
  let s := if bitGet h.present s.ring.conf.nodeId then s.nodeCount 17 else s
  let phase := if h.phValid && s.ring.calibrated then ⟨h.rAngle, h.rTurn, s.lamp.time - toThirds arrived⟩ else s.ring.phase
  ({ s with ring := { s.ring with
    snap := s.snapshots, port := port, binds := if s.lamp.pause.isSome then s.ring.binds else s.lamp.bound, last := some (h.sweep, h.master),
    delay := arrived, phase := phase } } : State).deliverSamples h arrived

/-- HEAD_FRAME: a head of another master; what the node takes from it needs a good FCS (R327). A sweeping node stops for one also when it came back
from a break (R348). -/
def execHeadFrame (port : RingPort) (h : HeadFrame) (s : State) : Host.Outcome State Fault Refusal :=
  if !s.hears port then .next s else
  if h.cut then .next (s.dropCut port) else
  let s := (s.noteFrame port h.fcsOk h.marked h.waited).latch
  let id := s.ring.conf.nodeId
  let ok := good h.fcsOk h.marked
  let (out, wrap) := s.ring.onward port
  let send := fun (s : State) (h : HeadFrame) =>
    ({ s with ring := { s.ring with outs := [] } } : State).send (.head (out == .a) (out == .b) { h with wrap := h.wrap || wrap, marked := !ok })
  let others : Bool := h.master.toNat != id
  let mine : Bool := id != 0xFFFF && others && !h.wrap && s.ring.last != some (h.sweep, h.master) && s.accepts h
  let s := if ok && others && s.stopsFor h then { s with ring := { s.ring with sweeping := false, late := false, due := 0, epoch := h.epoch, master := h.master } } else s
  let s := if ok && !h.wrap then { s with ring := { s.ring with headAt := some s.lamp.time, missed := 0 } } else s
  if !mine then .next (send s h) else
  let h' := { h with
    present := bitPut h.present id, consist := if s.lamp.consistent h then bitPut h.consist id else h.consist, dup := h.dup || bitGet h.present id,
    delay := h.delay + BitVec.ofInt 64 (s.ring.cableOf port) + h.res }
  if !ok then .next (send s h') else
  let s := s.takeHead port h
  .next (send { s with ring := { s.ring with epoch := h.epoch, master := h.master, phValid := h.phValid } } h')

/-- The copy a frame belongs to: true for the one sent out of port A. -/
def copyA (port : RingPort) (wrap : Bool) : Bool := (port == .a) == wrap

/-! The master (R336, R338, R343, R346, R347). -/

/-- The bytes of data frame k for the next sweep (R338). -/
def State.nextData (s : State) (k : Nat) : List Byte :=
  let sent := takePad s.ring.conf.frameLen (nth [] s.ring.image (k - 1))
  let a := (s.ring.backA.find? fun x => x.1 == k).map fun x => x.2
  let b := (s.ring.backB.find? fun x => x.1 == k).map fun x => x.2
  match a, b with
  | some a, some b =>
    if s.ring.wrapped then (List.range sent.length).map fun i => if nth 0#8 a i ≠ nth 0#8 sent i then nth 0#8 a i else nth 0#8 b i
    else takePad s.ring.conf.frameLen a
  | some a, none => takePad s.ring.conf.frameLen a
  | none, some b => if s.ring.wrapped then takePad s.ring.conf.frameLen b else sent
  | none, none => sent

/-- A sweep leaves now: the head, and the data frames right behind it (R336). -/
def State.startSweep (s : State) : State :=
  let nfr := s.ring.conf.frames
  let ph := s.headPhase
  let image := (List.range (nfr - 1)).map fun i => s.nextData (i + 1)
  let own := s.lamp.num 0x2100 9 0
  let h : HeadFrame :=
    { sa := nodeSa, dir := false, fcsOk := true, wrap := false, master := BitVec.ofNat 12 s.ring.conf.nodeId, epoch := s.ring.epoch, sweep := s.ring.sweep + 1#32, nfr := nfr,
      expDig := BitVec.ofNat 64 (if own ≠ 0 then own else s.lamp.prefix'), rAngle := ph.1, rTurn := ph.2.1, delay := 0#64,
      standby := BitVec.ofNat 16 s.ring.conf.standbyId, period := BitVec.ofNat 32 s.ring.conf.period, phValid := ph.2.2, wrapped := s.ring.wrapped,
      present := List.replicate 512 0#8, consist := List.replicate 512 0#8, dup := false, res := 0#64 }
  let data := (List.range image.length).map fun i =>
    RingOut.data true s.ring.wrapped { sa := nodeSa, master := h.master, epoch := h.epoch, nfr := nfr, fcsOk := true, wrap := false, sweep := h.sweep, fidx := i + 1, payload := nth [] image i }
  (RingOut.head true s.ring.wrapped h :: data).foldl (fun (s : State) o => s.send o) { s with ring := { s.ring with
    sweeping := true, master := h.master, sweep := h.sweep, image := image, backA := [], backB := [], headAt := some s.lamp.time, heads := 0, late := false,
    due := if s.ring.wrapped then 2 * nfr else nfr, phValid := ph.2.2, outs := [] } }

/-- SWEEP: at the next multiple of PERIOD; the master of subindex 02 begins on a ring where no sweep has arrived within 3.25 × PERIOD of its joining
(R346). While frames of the sweep before are out, OVERRUN counts and the sweep waits for them; frames that are still out a PERIOD later are
taken as lost (DESIGN CHOICE, log 65). -/
def execSweep (s : State) : Host.Outcome State Fault Refusal :=
  let s' := s.latch
  let c := s'.ring.conf
  let t := (s.lamp.time / (3000 * c.period) + 1) * (3000 * c.period)
  let begins : Bool := !s.ring.sweeping && c.nodeId == c.masterId && s.ring.last.isNone && s.ring.headAt.isNone && decide (s.ring.joined + 9750 * c.period ≤ t)
  if c.nodeId = 0xFFFF ∨ !s.ring.bypHold ∨ !(s.ring.sweeping || begins) then .next s else
  let s := { s' with lamp := { s.lamp with time := t } }
  if s.ring.due = 0 then .next s.startSweep else
  let s := s.nodeCount 16
  if s.ring.late then .next s.startSweep else .next { s with ring := { s.ring with late := true } }

/-- A frame of the sweep has returned; a sweep that waits starts 2 µs after the last one (R336). -/
def State.oneBack (s : State) : State :=
  let s := { s with ring := { s.ring with due := s.ring.due - 1 } }
  if s.ring.late ∧ s.ring.due = 0 then ({ s with lamp := { s.lamp with time := s.lamp.time + 6000 } } : State).startSweep else s

/-- DATA_FRAME: insert and extract bindings of the copy of the sweep being processed; at the master, the frame has returned (R337, R338). -/
def execDataFrame (port : RingPort) (f : DataFrame) (s : State) : Host.Outcome State Fault Refusal :=
  if !s.hears port then .next s else
  if f.cut then .next (s.dropCut port) else
  let s := s.noteFrame port f.fcsOk f.marked f.waited
  let ok := good f.fcsOk f.marked
  let home : Bool := s.ring.sweeping && f.sweep == s.ring.sweep && f.master == s.ring.master
  let mine : Bool := s.ring.conf.nodeId != 0xFFFF && !f.wrap && port == s.ring.port && s.ring.last == some (f.sweep, f.master)
  let p := if mine then s.inserts f.fidx f.payload else f.payload
  let s := if mine && ok then s.extracts f else s
  if home then
    let r := s.ring
    let r := if !ok then r else if copyA port f.wrap then { r with backA := spPut r.backA f.fidx p } else { r with backB := spPut r.backB f.fidx p }
    .next ({ s with ring := r } : State).oneBack
  else
    let (out, wrap) := s.ring.onward port
    .next (s.send (.data (out == .a) (out == .b) { f with payload := p, wrap := f.wrap || wrap, marked := !ok }))

def orBytes (a b : List Byte) : List Byte := (List.range 512).map fun i => nth 0#8 a i ||| nth 0#8 b i

/-- HEAD_RETURN: bitmaps, counts and DUP are published; two copies are ORed (R343, R349); WRAP decides whether two are sent (R346). The master
processes the first copy without WRAP, as every node does (R337). -/
def execHeadReturn (port : RingPort) (h : HeadFrame) (ns : Nat) (s : State) : Host.Outcome State Fault Refusal :=
  let id := s.ring.conf.nodeId
  if !s.hears port ∨ !s.ring.sweeping ∨ h.master.toNat ≠ id ∨ h.sweep ≠ s.ring.sweep then .next s else
  if h.cut then .next (s.dropCut port) else
  let s := s.noteFrame port h.fcsOk h.marked h.waited
  if !good h.fcsOk h.marked then .next s.oneBack else
  let mine : Bool := !h.wrap && s.ring.last != some (h.sweep, h.master)
  let first := s.ring.heads == 0
  let present := if mine then bitPut h.present id else takePad 512 h.present
  let consist := if mine && s.lamp.consistent h then bitPut h.consist id else takePad 512 h.consist
  let dup := h.dup || (mine && bitGet h.present id)
  let s := if mine then s.takeHead port h else s
  let wrapped := if h.wrap && copyA port h.wrap == (port == .a) then true else if !h.wrap && port == .b then false else s.ring.wrapped
  .next ({ s with ring := { s.ring with
    present := if first then present else orBytes s.ring.present present, consist := if first then consist else orBytes s.ring.consist consist,
    dup := dup || (!first && s.ring.dup), thead := ns, wrapped := wrapped, missed := 0, heads := s.ring.heads + 1 } } : State).oneBack

/-- SWMISS: counted; the third in a row makes the standby, or a previous master, take over with the next epoch (R347). -/
def execSwMiss (s : State) : Host.Outcome State Fault Refusal :=
  if s.ring.sweeping ∨ s.ring.headAt = none then .next s else
  let s := s.nodeCount 15
  let n := s.ring.missed + 1
  let c := s.ring.conf
  let s := { s with ring := { s.ring with headAt := s.ring.headAt.map fun t => t + 3000 * c.period } }
  if 3 ≤ n ∧ c.nodeId ≠ 0xFFFF ∧ (c.nodeId = c.standbyId ∨ c.nodeId = c.masterId) then
    .next { s with ring := { s.ring with
      missed := 0, sweeping := true, epoch := s.ring.epoch + 1#16, master := BitVec.ofNat 12 c.nodeId, sweep := (s.ring.last.map fun x => x.1).getD 0#32, due := 0,
      late := false } }
  else .next { s with ring := { s.ring with missed := n } }

/-! Mailbox exchanges and groups (R333, R334, R350 to R353, R371, R381). -/

/-- STATUS: the first RSTAT that is not 0x00. -/
def frameStatus (rs : List ObjRecord) : BitVec 8 := ((rs.find? fun r => r.rstat != 0#8).map fun r => r.rstat).getD 0#8

/-- The asker behind a ring request (R368). -/
def State.ringAsker (s : State) (f : MailboxFrame) : Except Nat Asker :=
  match s.lamp.authority (some f.src) f.session with
  | .error e => .error e
  | .ok c => .ok ⟨some f.src, c, s.lamp.sessions.any fun x => x.num == f.session && x.node == f.src && x.root⟩

def State.tyOf (s : State) (idx sub : Nat) : Nat := match s.lamp.odef idx sub with | .ok d => d.ty | .error _ => 0xC

/-- A record answered: its CRC first, then the access. A record that failed keeps the CRC it came with (DESIGN CHOICE, log 59). -/
def State.record (s : State) (f : MailboxFrame) (write : Bool) (r : ObjRecord) : State × ObjRecord :=
  if !r.crcOk then (s.nodeCount 14, { r with rstat := 0xF0#8 }) else
  match s.ringAsker f with
  | .error e => (s, { r with rstat := BitVec.ofNat 8 e })
  | .ok a =>
    let idx := r.index.toNat
    let sub := r.sub.toNat
    let ty := s.tyOf idx sub
    let off := if ty = 0xE then r.offset.toNat else 0
    if write then
      let (s, e) := s.objWrite a idx sub off (ringOrder ty r.value) false
      (s, { r with rstat := BitVec.ofNat 8 e })
    else match s.objRead a idx sub off r.vlen with
      | (s, .ok v) => (s, { r with rstat := 0#8, vlen := v.length, value := ringOrder ty v })
      | (s, .error e) => (s, { r with rstat := BitVec.ofNat 8 e })

def State.records (s : State) (f : MailboxFrame) (write : Bool) : List ObjRecord → State × List ObjRecord
  | [] => (s, [])
  | r :: rs =>
    let (s, r) := s.record f write r
    let (s, rs) := State.records s f write rs
    (s, r :: rs)

/-- A mailbox frame sent on, unless its HOPS reaches 8,192. -/
def State.passOn (s : State) (f : MailboxFrame) : State :=
  let (out, wrap) := s.ring.onward f.port
  if 8192 ≤ f.hops.toNat + 1 then s else
  s.send (.mailbox { f with hops := f.hops + 1#16, port := out, wrap := f.wrap || wrap, marked := !good f.fcsOk f.marked })

/-- A request of this node's own: it leaves by port A, downstream, and its transaction begins; a group write is refused here (R350, R352). -/
def State.ask (s : State) (f : MailboxFrame) (write : Bool) : State :=
  if !s.lamp.serving then s else
  if write && f.group then { s with ring := { s.ring with answers := s.ring.answers ++ [{ f with status := 0xF3#8 }] } } else
  let s := { s with ring := { s.ring with
    asked := (s.ring.asked.filter fun x => x != f.tid) ++ [f.tid], answers := s.ring.answers.filter fun x => x.tid != f.tid } }
  if s.hears .a then
    s.own (.mailbox { f with port := .a, sa := nodeSa, dir := false, wrap := false, master := s.ring.master, epoch := s.ring.epoch, hops := 0#16, fcsOk := true, marked := false })
  else s

/-- A request that names this node is applied record by record and answered in its frame; one of the node's own begins; any other passes on. -/
def State.mailbox (s : State) (f : MailboxFrame) (write : Bool) : State :=
  if f.src.toNat = s.ring.conf.nodeId then s.ask f write else
  if !s.hears f.port then s else
  if f.cut then s.dropCut f.port else
  let s := s.noteFrame f.port f.fcsOk f.marked false
  if f.group ∨ f.dst.toNat ≠ s.ring.conf.nodeId ∨ !s.lamp.serving ∨ !good f.fcsOk f.marked then s.passOn f else
  let (s, rs) := s.records f write f.records
  s.passOn { f with op := f.op ||| 0x80#8, status := frameStatus rs, records := rs }

/-- READ. -/
def execRingRead (f : MailboxFrame) (s : State) : Host.Outcome State Fault Refusal := .next (s.mailbox f false)

/-- WRITE. -/
def execRingWrite (f : MailboxFrame) (s : State) : Host.Outcome State Fault Refusal := .next (s.mailbox f true)

/-- The group rule of a value (R381): 0 AND, 1 MAX, 2 CONSENSUS. -/
def groupRule (idx sub : Nat) : Option Nat :=
  let o := idx % 0x1000
  if idx = 0x1001 ∧ sub = 1 then some 0
  else if idx = 0x2101 ∧ 14 ≤ sub ∧ sub ≤ 18 then some 1
  else if (idx = 0x2102 ∨ idx = 0x2103) ∧ 1 ≤ sub ∧ sub ≤ 5 then some 1
  else if inArea idx ∧ ((o = 0 ∧ (sub = 1 ∨ sub = 2)) ∨ (o = 0x040 ∧ sub = 2) ∨ (o = 0x050 ∧ sub = 6)) then some 1
  else if (idx = 0x1000 ∧ (sub = 3 ∨ sub = 4)) ∨ (idx = 0x1F00 ∧ (sub = 1 ∨ sub = 2)) then some 2
  else none

/-- This node's value of a record folded in; `n` members have folded before (R352). -/
def State.fold (s : State) (n : Nat) (r : ObjRecord) : ObjRecord :=
  let idx := r.index.toNat
  let sub := r.sub.toNat
  match groupRule idx sub, s.lamp.odef idx sub with
  | some rule, .ok d =>
    let own := ringOrder d.ty (s.value s.ring.conf.nodeId idx sub d)
    (match rule with
     | 0 => { r with value := (takePad own.length r.value).zipWith (fun a b => a &&& b) own }
     | 1 => if beNat r.value < beNat own then { r with value := own } else r
     | _ => if n = 0 then { r with value := own } else if r.value = own then r else { r with differ := true })
  | _, _ => { r with rstat := 0xF2#8 }

/-- A member's part in a GROUP READ: every record folded, or none when a CRC failed. -/
def State.foldFrame (s : State) (f : MailboxFrame) : MailboxFrame :=
  if f.records.all fun r => r.crcOk then
    let rs := f.records.map fun r => if r.rstat = 0#8 then s.fold f.contrib r else r
    { f with records := rs, contrib := f.contrib + 1, status := frameStatus rs }
  else
    let rs := f.records.map fun r => if r.crcOk then r else { r with rstat := 0xF0#8 }
    { f with records := rs, status := frameStatus rs }

/-- GROUP_READ. -/
def execGroupRead (f : MailboxFrame) (s : State) : Host.Outcome State Fault Refusal :=
  if f.src.toNat = s.ring.conf.nodeId then .next (s.ask f false) else
  if !s.hears f.port then .next s else
  if f.cut then .next (s.dropCut f.port) else
  let s := s.noteFrame f.port f.fcsOk f.marked false
  if f.group ∧ s.lamp.belongs f.dst.toNat ∧ s.lamp.serving ∧ good f.fcsOk f.marked then .next (s.passOn (s.foldFrame f)) else .next (s.passOn f)

/-- What the requester makes of a GROUP READ that is back (R352, R353). -/
def State.closeGroup (s : State) (f : MailboxFrame) : MailboxFrame :=
  let g := f.dst.toNat
  let f := if s.lamp.belongs g then s.foldFrame f else f
  let want := s.lamp.num (0x7000 + g) 2 0
  if want = 0 then { f with status := 0xF4#8 }
  else if f.contrib ≠ want then
    let fix := fun (r : ObjRecord) =>
      match groupRule r.index.toNat r.sub.toNat with
      | some 0 => { r with value := r.value.map fun _ => 0#8 }
      | some 2 => { r with differ := true }
      | _ => r
    { f with status := 0xF1#8, records := f.records.map fix }
  else f

/-- MAILBOX_RETURN: the sender removes its frame and takes the answer. -/
def execMailboxReturn (f : MailboxFrame) (s : State) : Host.Outcome State Fault Refusal :=
  if !s.hears f.port ∨ f.src.toNat ≠ s.ring.conf.nodeId then .next s else
  if f.cut then .next (s.dropCut f.port) else
  let s := s.noteFrame f.port f.fcsOk f.marked false
  if !s.lamp.serving ∨ !good f.fcsOk f.marked then .next s else
  let f := if f.op = 0x11#8 ∧ f.group then s.closeGroup f else f
  .next { s with ring := { s.ring with answers := s.ring.answers ++ [f], asked := s.ring.asked.filter fun x => x != f.tid } }

/-- MAILBOX_TIMEOUT: a transaction of the node's own without an answer is reported so. -/
def execMailboxTimeout (tid : BitVec 16) (s : State) : Host.Outcome State Fault Refusal :=
  if s.ring.asked.contains tid then
    .next { s with ring := { s.ring with lost := s.ring.lost ++ [tid], asked := s.ring.asked.filter fun x => x != tid } }
  else .next s

/-! Calibration and block lock (R335, R345, R349). -/

/-- CALIBRATION_REQUEST: returned on the same link with this node's stamps. -/
def execCalibrationRequest (port : RingPort) (t1 : BitVec 64) (fcsOk marked : Bool) (s : State) : Host.Outcome State Fault Refusal :=
  if !s.hears port then .next s else
  let s := s.noteFrame port fcsOk marked false
  if good fcsOk marked then .next (s.own (.calReturn port t1 s.lamp.stamp s.lamp.stamp)) else .next s

/-- CALIBRATION_RETURN: T4 is stamped, and one more estimate of the cable delay is made; the last 16 count. After link-up the next exchange follows
until 16 have completed (R345). -/
def execCalibrationReturn (port : RingPort) (t1 t2 t3 : BitVec 64) (fcs : FcsSeen) (s : State) : Host.Outcome State Fault Refusal :=
  if !s.hears port then .next s else
  let s := s.noteFrame port fcs.ok fcs.marked false
  if !good fcs.ok fcs.marked then .next s else
  let c : Int := ((s.lamp.stamp - t1) - (t3 - t2)).toInt / 2
  let l := s.ring.cable[portIdx port] ++ [c]
  let s := { s with ring := { s.ring with cable := s.ring.cable.set (portIdx port) (l.drop (l.length - 16)) } }
  if l.length < 16 then .next (s.own (.calRequest port 0#64)) else .next s

/-- CALIBRATION_TIMER. -/
def execCalibrationTimer (port : RingPort) (s : State) : Host.Outcome State Fault Refusal :=
  if s.hears port then .next (s.own (.calRequest port 0#64)) else .next s

/-- BLOCK_LOCK_LOSS: what the port is sending is cut short; a node that sweeps and has lost both its neighbours goes silent (R347, R349). -/
def execBlockLockLoss (port : RingPort) (s : State) : Host.Outcome State Fault Refusal :=
  if s.ring.locked port then
    let s := s.portCount port 3
    let r := { s.ring.cutFrame s.lamp.time port with lock := s.ring.lock.set (portIdx port) false }
    .next { s with ring := if r.locked (otherPort port) then r else r.silent }
  else .next s

/-- BLOCK_LOCK_GAIN: the estimates of the link begin anew with the request of the first of 16 exchanges. -/
def execBlockLockGain (port : RingPort) (s : State) : Host.Outcome State Fault Refusal :=
  if s.ring.locked port then .next s else
  .next (({ s with ring := { s.ring with lock := s.ring.lock.set (portIdx port) true } } : State).linkUp port)

/-! The end of an activation pause (R27, R356, R407). -/

/-- ACTIVATION_PAUSE_END: service resumes; the values extracted meanwhile are delivered. -/
def execActivationPauseEnd (s : State) : Host.Outcome State Fault Refusal :=
  match s.lamp.pause with
  | none => .next s
  | some restored =>
    let it := s.lamp.item .firmware
    let l := s.lamp.setItem .firmware { it with state := 0, result := if restored then 0x2E else 0 }
    let s := { s with lamp := { l with pause := none }, chans := s.chans.map fun (ch : Chan) => { ch with llDown := false } }
    let held := s.ring.inbox
    .next (held.foldl (fun (s : State) x => s.extract x.1 x.2) { s with ring := { s.ring with inbox := [] } })

end Sys2Proof.Machine
end

