-- ==== Sys2Proof/Machine/Sys.lean ====
section
/-! DEFINITION. System instructions: calls, breakpoints, return, the special registers, MKMANTLE, TLB invalidation, undefined
encodings; and what the Flare controller does to a core (R76, R77, R87, R88, R201 to R203, R211, R216 to R218, R221, R237). -/

namespace Sys2Proof.Machine

/-- SYSCALL. -/
def execSyscall (k : CoreId) (p : Bool) (s : State) : Host.Outcome State Fault Refusal :=
  s.wick k (encR 0x33 p 0 0 0 0 0) fun _ w ch => .trap ch ⟨10, 0, 0#64⟩ ((ch.core w).pc + 4#64)

/-- BRK: a halt when BRKHALT is 1 and the authorisation covers the Mantle, else Debug (R76, R422). -/
def execBrk (k : CoreId) (p : Bool) (s : State) : Host.Outcome State Fault Refusal :=
  s.wick k (encR 0x33 p 0 0 0 0 7) fun m w ch =>
    if ch.bit 0x30000C 0 && ch.haltAuth m (ch.core w).pcc.mantle then .halt (ch.haltReq w 4 0) else ch.fail w ⟨8, 1, 0#64⟩

/-- The granules of a frame that fail RETX's checks, as REASON names them (R215, R218). -/
def forged (gs : List (W128 × Bool)) : Nat :=
  let g := fun i => nth (0#128, false) gs i
  b2n (!((g 0).2 && getW (g 0).1 120 8 == 0xFF)) + 2 * b2n !(g 1).2 + 4 * b2n !(g 2).2 + 8 * b2n !(g 3).2

/-- The vector of a frame is no longer active: on the core, and on the channel for a source that the core owns (R206, R218). -/
def Chan.vectorDone (ch : Chan) (w : Fin 8) (v : Nat) : Chan :=
  if 32 ≤ v ∧ ch.fld (flrCfg v) 12 3 = w.val then { ch with activ := ch.activ &&& ~~~(BitVec.ofNat 256 (2 ^ v)) } else ch

/-- RETX (R102, R216 to R218): as it issues it ends the window; where Long-Operation Fault takes its place, it has not. -/
def Chan.retx (m : MantleTable) (ch : Chan) (w : Fin 8) (word : W32) : Res :=
  let old := ch.core w
  match ((ch.onCore w fun c => { c with wact := false, wrem := 0 }).drain94 m w 7).settle m w with
  | (ch, true) =>
    let ch := (ch.onCore w fun c => { c with wact := old.wact, wrem := old.wrem }).windowTick w ((ch.core w).cyc - old.cyc)
    let ch := ch.deliverLof m w
    .ctl (if old.stepping && ch.snuff.isNone then ch.nowHalted w 6 else ch)
  | (ch, false) =>
    if old.wovr then (ch.onCore w fun c => { c with wovr := false }).fail w ⟨12, 0, 0#64⟩
    else match ch.readFrame m w with
      | (ch, .error e) => ch.fail w e
      | (ch, .ok gs) =>
        if forged gs ≠ 0 then ch.fail w ⟨7, forged gs, 0#64⟩ else
        let c := (ch.core w).restore gs
        let ch := ch.commit m w old word c.pc 36 false true
        let ch := ch.onCore w fun c => { (c.restore gs) with pend := [], slotA := none, resv := none, hold := none }
        let ch := (ch.vectorDone w (getW (nth (0#128, false) gs 0).1 3 8)).mantleSwitch m w old.pcc.mantle c.pcc.mantle
        .ctl ((ch.traceInd w old.cyc c.pc).endStep m w)

/-- RETX. -/
def execRetx (k : CoreId) (p : Bool) (s : State) : Host.Outcome State Fault Refusal :=
  s.wick k (encR 0x33 p 0 0 0 0 1) fun m w ch => ch.retx m w (encR 0x33 p 0 0 0 0 1)

/-- SRR: an unlisted number is an undefined encoding (R77). -/
def execSrr (k : CoreId) (p : Bool) (rd n : Fin 32) (s : State) : Host.Outcome State Fault Refusal :=
  s.wick k (encR 0x33 p rd.val n.val 0 0 2) fun _ w ch =>
    if 7 < n.val then ch.fail w ⟨2, 0, 0#64⟩ else .next (ch.wg w rd 1 (ch.special w n)) 1

/-- SRW: numbers 0 to 3 need System in the PCC; the result has distance 6; a write of MASK ends a window (R77, R91, R216). -/
def execSrw (k : CoreId) (p : Bool) (n rs1 : Fin 32) (s : State) : Host.Outcome State Fault Refusal :=
  s.wick k (encR 0x33 p n.val rs1.val 0 0 3) fun _ w ch =>
    if 5 < n.val then ch.fail w ⟨2, 0, 0#64⟩
    else if n.val ≤ 3 && !(ch.core w).pcc.has 5 then ch.fail w ⟨1, 1, 0#64⟩
    else
      let v := ch.rg w rs1
      let ch := ch.onCore w fun c => c.put (.sr n) 6 (v.zeroExtend 129)
      let ch := if n.val = 0 then ch.onCore w fun c => { c with wact := false, wrem := 0 } else ch
      .next ch (if ch.fixedCore w then 2 else 1)

/-! MKMANTLE (R201 to R203). -/

/-- The status of CREATE for a parent and a class, with the new entry when it is 0. -/
def mkCreate (m : MantleTable) (parent : BitVec 12) (cls : Nat) : Nat × Option Mantle :=
  match m[parent.toNat]? with
  | none => (3, none)
  | some pm =>
    if 8 ≤ pm.depth then (1, none)
    else if 4096 ≤ m.length then (2, none)
    else if cls < pm.cls.toNat ∨ cls = 3 then (3, none)
    else (0, some ⟨parent, BitVec.ofNat 2 cls, pm.depth + 1⟩)

/-- The status of BRAND. -/
def mkBrand (m : MantleTable) (own named : BitVec 12) : Nat :=
  if decide (named.toNat < m.length) && inParty m named own then 0 else 4

/-- The safe point of MKMANTLE after 40 microwords: what completes by then has completed, and whether an event stops it there (R180, R182). A
step takes no interrupt here (R424). -/
def Chan.mkPoll (m : MantleTable) (ch : Chan) (w : Fin 8) : Chan × Bool :=
  let now := (ch.core w).cyc + 40
  let ch := (ch.core w).loqOrder.foldl (fun (ch : Chan) i =>
    if ch.doneAt w i ≤ now ∧ ch.farFree w i then ch.completeAt m w i (ch.doneAt w i) else ch) ch
  let c := ch.core w
  (ch, c.dueFault.isSome || (!c.wact && !c.stepping && (c.haltReq != 0#8 || ch.trans.isSome || (ch.receives w).isSome)))

/-- What an MKMANTLE does once it issues and no event stops it: its result and the Mantle table after it. -/
def Chan.mkDo (m : MantleTable) (ch : Chan) (w : Fin 8) (cd cs : Fin 16) (rs2 rs3 : Fin 32) : Res × MantleTable :=
  let t := ch.rc w cs
  let x := (ch.rg w rs2).toNat
  let fin := fun (ch : Chan) (status : Nat) => Res.next (ch.wg w rs3 1 (BitVec.ofNat 64 status)) 96
  if !(ch.core w).pcc.has 5 then (ch.fail w ⟨1, 1, 0#64⟩, m)
  else if 2 ≤ x / 4 % 4 then (fin ch 5, m)
  else match taperOwn m (ch.core w).pcc.mantle t with
    | some 3 => (ch.fail w ⟨1, 2, 0#64⟩, m)
    | some r => (ch.fail w ⟨4, r, 0#64⟩, m)
    | none =>
      if x / 4 % 4 = 0 then
        match mkCreate m t.mantle (x % 4) with
        | (_, some e) => (fin (ch.wc w cd 1 (t.withMantle (BitVec.ofNat 12 m.length))) 0, m ++ [e])
        | (st, none) => (fin ch st, m)
      else
        let named := BitVec.ofNat 12 (x / 16)
        match mkBrand m t.mantle named with
        | 0 => (fin (ch.wc w cd 1 (t.withMantle named)) 0, m)
        | st => (fin ch st, m)

/-- What an MKMANTLE does once it issues: an event at its safe point abandons it without effect (R182). -/
def Chan.mkMantle (m : MantleTable) (ch : Chan) (w : Fin 8) (cd cs : Fin 16) (rs2 rs3 : Fin 32) : Res × MantleTable :=
  match ((ch.drain94 m w 7).onCore w fun c => { c with pend := [] }).mkPoll m w with
  | (ch, true) => (.ctl ((((ch.splitPair m w).elapse m w 40).windowTick w 40).endStep m w), m)
  | (ch, false) => ch.mkDo m w cd cs rs2 rs3

/-- An MKMANTLE as a command: its effect on its channel and on the channel's Mantle table. -/
def State.mkMantle (s : State) (k : CoreId) (word : W32) (cd cs : Fin 16) (rs2 rs3 : Fin 32) : Host.Outcome State Fault Refusal :=
  let m := s.mtl k.ch
  let ch : Chan := { s.ch k.ch with free := (s.ch k.ch).free + 1 }
  match ch.issue m k.w word with
  | .stop ch => .next (s.onChan k.ch fun _ => ch)
  | .go ch =>
    let x := (ch.pairCycle k.w word).mkMantle m k.w cd cs rs2 rs3
    .next { s.onChan k.ch fun _ => Chan.retire m k.w (ch.core k.w) word x.1 with mantles := s.mantles.set k.ch x.2 }

/-- MKMANTLE, the row of its operation CREATE. -/
def execCreate (k : CoreId) (p : Bool) (cd cs : Fin 16) (rs2 rs3 : Fin 32) (s : State) : Host.Outcome State Fault Refusal :=
  s.mkMantle k (encR 0x33 p cd.val cs.val rs2.val rs3.val 4) cd cs rs2 rs3

/-- MKMANTLE, the row of its operation BRAND: the word is the same, g[rs2][3:2] selects. -/
def execBrand (k : CoreId) (p : Bool) (cd cs : Fin 16) (rs2 rs3 : Fin 32) (s : State) : Host.Outcome State Fault Refusal :=
  s.mkMantle k (encR 0x33 p cd.val cs.val rs2.val rs3.val 4) cd cs rs2 rs3

/-! TLB invalidation (R237). -/

/-- TLBINV. -/
def execTlbinv (k : CoreId) (p : Bool) (rs1 rs2 : Fin 32) (s : State) : Host.Outcome State Fault Refusal :=
  s.wick k (encR 0x33 p 0 rs1.val rs2.val 0 5) fun _ w ch =>
    if !(ch.core w).pcc.has 5 then ch.fail w ⟨1, 1, 0#64⟩ else
    let va := (ch.rg w rs1).toNat % 2 ^ 48
    let x := ch.rg w rs2
    let keep := fun (e : TlbEnt) => !(e.vpn == va / 2 ^ e.size && (x.getLsbD 12 || e.asid == x.truncate 12 || e.leaf.getLsbD 7))
    .next (ch.onCore w fun c => { c with itlb := c.itlb.filter keep, dtlb := c.dtlb.filter keep, l2tlb := c.l2tlb.filter keep }) 4

/-- TLBINVALL. -/
def execTlbinvall (k : CoreId) (p : Bool) (s : State) : Host.Outcome State Fault Refusal :=
  s.wick k (encR 0x33 p 0 0 0 0 6) fun _ w ch =>
    if !(ch.core w).pcc.has 5 then ch.fail w ⟨1, 1, 0#64⟩
    else .next (ch.onCore w fun c => { c with itlb := [], dtlb := [], l2tlb := [] }) 16

/-- The word of an undefined encoding; a word that is defined is no such command, and changes nothing. -/
def execUndefinedInstruction (k : CoreId) (insn : BitVec 32) (s : State) : Host.Outcome State Fault Refusal :=
  s.act k.ch fun m ch => if definedWord ch.ucode insn then ch else ch.insn m k.w insn fun ch => ch.fail k.w ⟨2, 0, 0#64⟩

/-! Interrupts and the window. -/

/-- The core takes the interrupt it is offered, unless a window runs (R211, R216, R221). -/
def execInterruptEntry (k : CoreId) (s : State) : Host.Outcome State Fault Refusal :=
  s.act k.ch fun m ch =>
    if ch.takes k.w then
      match ch.receives k.w with
      | some v => ((ch.windowLimit k.w).interrupt m k.w v).1
      | none => ch
    else ch

/-- The window of a core reaches its limit (R216). -/
def execWindowLimit (k : CoreId) (s : State) : Host.Outcome State Fault Refusal :=
  s.act k.ch fun _ ch => if ch.life == .up then ch.windowLimit k.w else ch

end Sys2Proof.Machine
end

