-- ==== Sys2Proof/Machine/Ucode.lean ====
section
/-! DEFINITION. Page 0x3F: the sequencer on the customer regions (R173 to R184, R186, R192, R193). One command runs a routine from its
entry, or from the POLL where it stands, to its next commit point. -/

namespace Sys2Proof.Machine

/-- The operations of unit INT (R64). -/
def intFn (fn : Nat) (a b : W64) : W64 :=
  match fn with
  | 0 => a + b
  | 1 => a - b
  | 2 => a &&& b
  | 3 => a ||| b
  | 4 => a ^^^ b
  | 5 => a <<< sh6 b
  | 6 => a >>> sh6 b
  | 7 => a.sshiftRight (sh6 b)
  | 8 => b2w (a.slt b)
  | 9 => b2w (a.ult b)
  | 10 => minS a b
  | 11 => maxS a b
  | 12 => minU a b
  | 13 => maxU a b
  | 14 => a.rotateLeft (sh6 b)
  | 15 => a.rotateRight (sh6 b)
  | 16 => BitVec.ofNat 64 (clzN a)
  | 17 => BitVec.ofNat 64 (ctzN a)
  | 18 => BitVec.ofNat 64 (popcount a)
  | 19 => b2w (parity a)
  | 20 => brev64 a
  | 21 => brevb a
  | 22 => bswap a
  | _ => a &&& ~~~b

/-- The operations of unit MUL (R65). -/
def mulFn (fn : Nat) (a b c : W64) : W64 :=
  match fn with
  | 0 => a * b
  | 1 => mulHi a.toInt b.toInt
  | 2 => mulHi a.toNat b.toNat
  | 3 => mulHi a.toInt b.toNat
  | 4 => sx (lo32 (a * b))
  | _ => a * b + c

/-- A routine under way: its channel, the registers it has written, their values on a copy of the core, its temporaries, the
stores held back with their bytes, the microwords executed since the last commit point, the microword from which every result
can be read, and the cycles beyond one for each microword. -/
structure Work where
  ch     : Chan
  core   : Core
  dirty  : List RegRef
  mi     : Micro
  stores : List SbEnt
  held   : List (Nat × Byte)
  idx    : Nat
  ready  : Nat
  extra  : Nat

/-- The fields of the word that select a routine's registers: rd, rs1, rs2. -/
def fieldReg (word : W32) (i : Nat) : Fin 32 := ⟨(if i = 0 then rdOf word else if i = 1 then rs1Of word else rs2Of word) % 32, Nat.mod_lt _ (by decide)⟩

/-- A source selector (R177). -/
def Work.src (x : Work) (word : W32) (imm : W64) (sel : Nat) : W128 :=
  if 1 ≤ sel ∧ sel ≤ 3 then (x.core.raw (.g (fieldReg word (sel - 1)))).truncate 128
  else if 4 ≤ sel ∧ sel ≤ 6 then (x.core.raw (.v (fieldReg word (sel - 4)))).truncate 128
  else if sel = 7 then BitVec.ofNat 128 (word.toNat / 64 % 16)
  else if sel = 8 then imm.zeroExtend 128
  else if sel = 9 then x.mi.cnt.zeroExtend 128
  else if 16 ≤ sel ∧ sel < 24 then nth 0#128 x.mi.u.toList (sel - 16)
  else 0#128

/-- A register of the instruction written, uncommitted. -/
def Work.putReg (x : Work) (r : RegRef) (v : W128) : Work :=
  { x with core := x.core.setRaw r (v.zeroExtend 129), dirty := if r ∈ x.dirty then x.dirty else x.dirty ++ [r] }

/-- A destination selector (R177). -/
def Work.dst (x : Work) (word : W32) (sel : Nat) (v : W128) : Work :=
  if 1 ≤ sel ∧ sel ≤ 3 then x.putReg (.g (fieldReg word (sel - 1))) v
  else if 4 ≤ sel ∧ sel ≤ 6 then x.putReg (.v (fieldReg word (sel - 4))) v
  else if sel = 9 then { x with mi := { x.mi with cnt := v.truncate 16 } }
  else if 16 ≤ sel ∧ sel < 24 then { x with mi := { x.mi with u := Vector.ofFn fun i => if i.val = sel - 16 then v else x.mi.u[i] } }
  else x

/-- A result of a unit with its micro-distance, and Z and N with SETF (R176, R178, R179). -/
def Work.result (x : Work) (word : W32) (nano : BitVec 144) (dist : Nat) (v : W128) : Work :=
  let x := x.dst word (nano.toNat / 2 ^ 10 % 32) v
  let lo : W64 := v.truncate 64
  let mi := if nano.getLsbD 30 then { x.mi with z := lo == 0#64, n := lo.getLsbD 63 } else x.mi
  { x with mi := mi, ready := max x.ready (x.idx + dist) }

/-- A result of an FP unit: its flags, or Arithmetic (R181, R183). -/
def Work.fp (x : Work) (w : Fin 8) (word : W32) (nano : BitVec 144) (dist : Nat) (v : W128) (fl : FFlags) : Except Res Work :=
  let tr := fpTrap x.core.fpctl fl
  if tr ≠ 0#5 then .error (x.ch.fail w ⟨9, tr.toNat, 0#64⟩) else
  let x := if fl = 0#5 then x else x.putReg (.sr 4) ((fpctlSet x.core.fpctl fl).zeroExtend 128)
  .ok (x.result word nano dist v)

/-- The scalar operations of unit FP (R71). -/
def fpFn (op rm : Nat) (a b : W128) : W128 × FFlags :=
  let d : Bool := decide (16 ≤ op)
  let n := 2 ^ (if d then 64 else 32)
  let x := a.toNat % n
  let y := b.toNat % n
  let nat := fun (r : Nat × FFlags) => (BitVec.ofNat 128 r.1, r.2)
  match op % 16 with
  | 7 => let h := n / 2; (BitVec.ofNat 128 (x % h + y / h * h), 0#5)
  | 8 => nat (fCvt (fmtOf !d) (fmtOf d) rm (a.toNat % 2 ^ (if d then 32 else 64)))
  | 9 => let r := fToI rm (unpack (fmtOf d) x); (r.1.zeroExtend 128, r.2)
  | 10 => nat (fFromI (fmtOf d) rm (a.truncate 64))
  | 11 | 12 => (BitVec.ofNat 128 x, 0#5)
  | 13 => let r := fpCmp 13 d x y; ((b2w r.1).zeroExtend 128, r.2)
  | 14 => let r := fpCmp 14 d x y; ((b2w r.1).zeroExtend 128, r.2)
  | 15 => let r := fpCmp 15 d x y; ((b2w r.1).zeroExtend 128, r.2)
  | fn => nat (fpArith fn d rm x y)

/-- Units of R178 that compute; the lane of VEXT.W is operand B (log 24). -/
def Work.compute (x : Work) (w : Fin 8) (word : W32) (nano : BitVec 144) (unit op : Nat) (a b c : W128) : Except Res Work :=
  let a64 : W64 := a.truncate 64
  let b64 : W64 := b.truncate 64
  let c64 : W64 := c.truncate 64
  let rm := fpRm x.core.fpctl
  match unit with
  | 1 => .ok (x.result word nano 1 ((intFn op a64 b64).zeroExtend 128))
  | 2 => .ok (x.result word nano 3 ((mulFn op a64 b64 c64).zeroExtend 128))
  | 3 => .ok (x.result word nano 2 ((crcRun c64 a64 (regBytes b64 (2 ^ (op % 4)))).zeroExtend 128))
  | 4 => let r := fpFn op rm a b; x.fp w word nano 4 r.1 r.2
  | 5 =>
    let d : Bool := decide (16 ≤ op)
    let n := 2 ^ (if d then 64 else 32)
    let r := fpFused (op % 4) d rm (a.toNat % n) (b.toNat % n) (c.toNat % n)
    x.fp w word nano 5 (BitVec.ofNat 128 r.1) r.2
  | 6 =>
    let lane : LaneType := match op / 8 with | 0 => .f32 | 1 => .i32 | 2 => .i16 | _ => .i8
    let r := vecOp lane (op % 8) rm a b
    x.fp w word nano 5 r.1 r.2
  | 7 =>
    (match op with
    | 0 => let r := vecFma false rm a b c; x.fp w word nano 5 r.1 r.2
    | 1 => let r := vecFma true rm a b c; x.fp w word nano 5 r.1 r.2
    | 2 => .ok (x.result word nano 5 (vecShuf a b))
    | 3 => let y : W32 := a.truncate 32; .ok (x.result word nano 5 (y ++ y ++ y ++ y))
    | _ => .ok (x.result word nano 5 ((sx (lane 32 a (b.toNat % 4))).zeroExtend 128)))
  | _ => .ok x

/-- The checks of an access under c0, as the ordinary load or store makes them. -/
def Work.check (m : MantleTable) (x : Work) (w : Fin 8) (a : Access) (va : W64) (n : Nat) : Except Res (Work × List Part) :=
  let t := x.core.c[0]
  match x.ch.check m w t a va n false with
  | (ch, .error e) => .error (ch.fail w e)
  | (ch, .ok ps) =>
    match ch.authority w t a va ps with
    | some e => .error (ch.fail w e)
    | none => match ch.watched m w a va ps with | .inl ch => .ok ({ x with ch := ch }, ps) | .inr r => .error r

/-- One part of a LOAD: the routine's own stores held back supply their bytes (R179, R246). -/
def Work.part (m : MantleTable) (x : Work) (w : Fin 8) (p : Part) : Work × List Byte × Bool :=
  let own := (List.range p.n).map fun i => x.held.find? fun h => h.1 == p.pa + i
  if (p.attr = .calm ∨ p.attr = .cacheable) ∧ own.all Option.isSome then (x, own.map fun h => (h.map (·.2)).getD 0#8, false) else
  let (ch, b, q, _) := x.ch.loadPart m w p false
  ({ x with ch := ch }, (own.zip b).map fun y => (y.1.map (·.2)).getD y.2, q)

/-- Cycles beyond one for a LOAD or STORE (R193). -/
def accExtra (ps : List Part) (load : Bool) : Nat :=
  if ps.any fun p => p.attr = .device then (if load then 13 else 1) else if ps.any fun p => p.attr = .calm then 1 else 0

/-- Unit LOAD (R178). -/
def Work.load (m : MantleTable) (x : Work) (w : Fin 8) (word : W32) (nano : BitVec 144) (op : Nat) (va : W64) : Except Res Work :=
  let n := match op with | 0 => 1 | 1 => 2 | 2 => 4 | 3 => 8 | 4 => 1 | 5 => 2 | 6 => 4 | _ => 16
  match x.check m w accLoad va n with
  | .error r => .error r
  | .ok (x, ps) =>
    let r := ps.foldl (fun (y : Work × List Byte × Option Nat) p =>
      if y.2.2.isSome then y else
      let (z, b, q) := y.1.part m w p
      (z, y.2.1 ++ b, if q then some y.2.1.length else none)) (x, [], none)
    match r with
    | (x, _, some off) => .error (x.ch.fail w ⟨5, daPoison, va + BitVec.ofNat 64 off⟩)
    | (x, b, none) =>
      let v : W128 := if op = 7 then BitVec.ofNat 128 (leNat b) else if op < 4 then (zext b).zeroExtend 128 else (sext b).zeroExtend 128
      .ok { x.result word nano 3 v with extra := x.extra + accExtra ps true }

/-- Unit STORE: its data waits for the commit point (R178, R180). -/
def Work.store (m : MantleTable) (x : Work) (w : Fin 8) (op : Nat) (va : W64) (data : W128) : Except Res Work :=
  let n := 2 ^ (op % 8)
  match x.check m w accStore va n with
  | .error r => .error r
  | .ok (x, ps) =>
    let bytes := leBytes data.toNat n
    let es := elemEnts (joinParts ps) bytes x.core.pcc.mantle
    let held := (ps.foldl (fun (y : List (Nat × Byte) × List Byte) p =>
      (((y.2.take p.n).zipIdx.map fun b => (p.pa + b.2, b.1)) ++ y.1, y.2.drop p.n)) (x.held, bytes)).1
    .ok { x with stores := x.stores ++ es, held := held, extra := x.extra + accExtra ps false }

/-- A nanoword (R176, R178). -/
def Work.nano (m : MantleTable) (x : Work) (w : Fin 8) (word : W32) (nano : BitVec 144) : Except Res Work :=
  let f := fun (lo n : Nat) => nano.toNat / 2 ^ lo % 2 ^ n
  let imm := BitVec.ofNat 64 (f 32 64)
  let a := x.src word imm (f 15 5)
  let b := x.src word imm (f 20 5)
  let c := x.src word imm (f 25 5)
  match f 0 4 with
  | 8 => x.load m w word nano (f 4 6) (a.truncate 64 + b.truncate 64)
  | 9 => x.store m w (f 4 6) (a.truncate 64 + b.truncate 64) c
  | u => x.compute w word nano u (f 4 6) a b c

/-- The commit: registers, FPCTL flags and stores together (R180). -/
def Work.commit (m : MantleTable) (x : Work) (w : Fin 8) : Chan :=
  let ch := x.dirty.foldl (fun (ch : Chan) r => ch.onCore w fun c => c.put r 1 (x.core.raw r)) x.ch
  ch.enter m w x.stores

/-- Cycles since the last commit point, with the hold of POLL or END (R179, R193). -/
def Work.cost (x : Work) : Nat := x.idx + 1 + x.extra + (x.ready - x.idx)

/-- The condition of a BRANCH, and CNT after it (R175); the vendor's values 6 to 15 are ignored (R184). -/
def Micro.cond (mi : Micro) (c : Nat) : Bool × Micro :=
  match c with
  | 0 => (true, mi)
  | 1 => (mi.z, mi)
  | 2 => (!mi.z, mi)
  | 3 => (mi.n, mi)
  | 4 => (!mi.n, mi)
  | 5 => let n := mi.cnt - 1#16; (n != 0#16, { mi with cnt := n })
  | _ => (false, mi)

/-- Microwords up to the next commit point: an accepted image reaches one within 64 (R187 check 8). -/
def Work.run (m : MantleTable) (w : Fin 8) (word : W32) (x : Work) : Nat → Res
  | 0 => .ctl x.ch
  | fuel + 1 =>
    let mw := nth 0xC0000#20 x.ch.ucode.micro (x.mi.at' - 0x1C00)
    let bad := fun (nano : Bool) (a : Nat) => x.ch.badWords.contains ⟨w, nano, a⟩
    if bad false x.mi.at' || (mw.toNat / 2 ^ 18 == 0 && bad true (mw.toNat % 1024)) then .ctl (x.ch.parityStop m w) else
    let next := fun (y : Work) (a : Nat) => { y with mi := { y.mi with at' := a }, idx := y.idx + 1 }
    match mw.toNat / 2 ^ 18 with
    | 0 =>
      (match x.nano m w word (nth 0#144 x.ch.ucode.nano (mw.toNat % 1024 - 0x380)) with
      | .error r => r
      | .ok y => Work.run m w word (next y (y.mi.at' + 1)) fuel)
    | 1 =>
      let (t, mi) := x.mi.cond (mw.toNat / 2 ^ 14 % 16)
      Work.run m w word (next { x with mi := mi } (if t then mw.toNat % 2 ^ 13 else mi.at' + 1)) fuel
    | 2 =>
      let ch := x.commit m w
      .ctl ((ch.onCore w fun c => { c with micro := { x.mi with at' := x.mi.at' + 1 } }).pause m w word x.cost)
    | _ => .next ((x.commit m w).onCore w fun c => { c with elem := none }) x.cost

/-- A page 0x3F instruction: an unclaimed word is an undefined encoding (R86, R186). -/
def execCustomerRoutine (k : CoreId) (p : Bool) (xop : Fin 64) (rd rs1 rs2 : Fin 32) (imm4 : BitVec 4) (s : State) :
    Host.Outcome State Fault Refusal :=
  let word := encX p rd.val rs1.val rs2.val imm4.toNat xop.val
  s.wick k word fun m w ch =>
    if !definedWord ch.ucode word then ch.fail w ⟨2, 0, 0#64⟩ else
    let ch := if (ch.core w).elem.isSome then ch else (ch.drain94 m w 7).onCore w fun c => { c with pend := [] }
    let c := ch.core w
    let mi := if c.elem.isSome then c.micro else { Micro.zero with at' := (nth 0#16 ch.ucode.entry xop.val).toNat % 2 ^ 13 }
    Work.run m w word ⟨ch, c, [], mi, [], [], 0, 0, if c.elem.isSome then 0 else 2⟩ 72

end Sys2Proof.Machine
end

