-- ==== Sys2Proof/Machine/Wire.lean ====
section
/-! DEFINITION. The debug wire: its wake and sleep, the host's frames and their answers, tokens and grants, what a READ or WRITE reaches
(R318 to R321, R409 to R422, R424, R425, R428 to R431). -/

namespace Sys2Proof.Machine

/-- Subindex 01 of the channel debug object (R428). -/
def Chan.wireMode (ch : Chan) : Nat := ch.objN (ch.idx 0x3090) 1 0

/-- Frames are answered (R407, R411, R428). -/
def State.wireOn (s : State) (c : Fin 4) : Bool := s.lamp.serving && (s.ch c).wire.awake && (s.ch c).wireMode ≤ 1

def Chan.onWire (ch : Chan) (f : Wire → Wire) : Chan := { ch with wire := f ch.wire }

/-- A host frame answered: what it does, the status, the payload. -/
def State.frame (s : State) (c : Fin 4) (tag : BitVec 8) (f : State → State × Nat × List Byte) : Host.Outcome State Fault Refusal :=
  if !s.wireOn c then .next s else
  let (s, st, b) := f (s.onChan c fun ch => { ch with free := ch.free + 1 })
  .next (s.onChan c fun ch => ch.onWire fun w => { w with answer := some (st, tag, b) })

/-- A frame whose payload must have n bytes (R413). -/
def wantBytes (n : Nat) (b : List Byte) (s : State) (r : State × Nat × List Byte) : State × Nat × List Byte := if b.length = n then r else (s, 3, [])

/-! Wake, sleep, frames that get no answer. -/

/-- WAKE_PATTERN (R409, R411): a low of 2 to 20 µs; 0x03 leaves the wire off. -/
def execWakePattern (c : Fin 4) (ns : Nat) (s : State) : Host.Outcome State Fault Refusal :=
  if 2000 ≤ ns ∧ ns ≤ 20000 ∧ s.lamp.life ≠ .held ∧ s.lamp.life ≠ .tripped ∧ (s.ch c).wireMode ≠ 3 then
    .next (s.onChan c fun ch => ch.onWire fun w => { w with awake := true })
  else .next s

/-- WIRE_SLEEP (R411). -/
def execWireSleep (c : Fin 4) (s : State) : Host.Outcome State Fault Refusal :=
  .next (s.onChan c fun ch => ch.onWire fun w => { w with awake := false })

/-- REFUSED_FRAME (R412): counted, WIREERR; the block of a channel without power or in reset stays at its reset values. -/
def execRefusedFrame (c : Fin 4) (s : State) : Host.Outcome State Fault Refusal :=
  if !s.wireOn c then .next s else
  .next (s.onChan c fun ch =>
    let ch := ch.bumpObj 0x3090 2
    if ch.life == .up then ch.setBit 0x300004 3 else ch)

/-- A CODE that R413 lists. -/
def wireCode (code : Nat) : Bool := (1 ≤ code && code ≤ 5) || code == 0x10 || code == 0x11

/-- UNKNOWN_COMMAND (R414). -/
def execUnknownCommand (c : Fin 4) (code tag : BitVec 8) (_payload : List (BitVec 8)) (s : State) : Host.Outcome State Fault Refusal :=
  if wireCode code.toNat then .next s else s.frame c tag fun s => (s, 2, [])

/-! INFO, CHALLENGE, TOKEN, DROP, STATUS (R413 to R417). -/

/-- INFO: device identity, channel number, wire mode. -/
def execInfo (c : Fin 4) (tag : BitVec 8) (payload : List (BitVec 8)) (s : State) : Host.Outcome State Fault Refusal :=
  s.frame c tag fun s =>
    wantBytes 0 payload s (s, 0, leBytes 0x4548 4 ++ leBytes 0x04032000 4 ++ leBytes 0x21 1 ++ leBytes c.val 1 ++ leBytes (s.ch c).wireMode 1 ++ [0#8]
      ++ leBytes Config.serial.toNat 8)

/-- CHALLENGE: a new nonce in place of the one the wire held. -/
def execDebugChallenge (c : Fin 4) (tag : BitVec 8) (payload : List (BitVec 8)) (s : State) : Host.Outcome State Fault Refusal :=
  s.frame c tag fun s =>
    let n : BitVec 256 := ((s.ch c).draw 98).truncate 256
    wantBytes 0 payload s (s.onChan c fun ch => ch.onWire fun w => { w with nonce := some n }, 0, nonceBytes n)

/-- TOKEN: any token frame spends the challenge. -/
def execDebugToken (c : Fin 4) (tag : BitVec 8) (payload : List (BitVec 8)) (s : State) : Host.Outcome State Fault Refusal :=
  s.frame c tag fun s =>
    let w := (s.ch c).wire
    let put := fun (st : Nat) (check : Option (List Byte × BitVec 256)) =>
      (s.onChan c fun ch => ch.onWire fun w => { w with nonce := none, check := check, result := if w.check.isSome then w.result else st }, st, [])
    if w.check.isSome then put 9 w.check
    else if payload.length ≠ 148 then put 3 none
    else match w.nonce with
      | none => put 8 none
      | some n => put 1 (some (payload, n))

/-- The conditions of R416 on a token of channel c that spent challenge n. -/
def State.tokenOk (s : State) (c : Fin 4) (b : List Byte) (n : BitVec 256) : Bool :=
  let f := fieldAt b
  f 0 1 == 1 && (f 1 1 == 1 || f 1 1 == 2) && 1 ≤ f 2 1 && f 2 1 ≤ 7 && f 3 1 == c.val && f 4 8 == Config.serial.toNat
    && 1 ≤ f 12 4 && f 12 4 ≤ 86400 && (b.drop 16).take 32 == nonceBytes n && f 49 3 == 0
    && signedBy (s.lamp.key (f 48 1) 1) (b.take 52) (b.drop 52) && (s.ch c).wireMode ≤ 1

/-- A grant: DBG_AUTH, GRANT, its end. It replaces an earlier one. -/
def Chan.grant (ch : Chan) (now : Nat) (b : List Byte) : Chan :=
  let auth := fieldAt b 1 1 + 4 * fieldAt b 2 1 + 256 * fieldAt b 48 1
  ((ch.setReg 0x300000 (BitVec.ofNat 32 auth)).setBit 0x300004 0).onWire fun w => { w with life := now + 3000000000 * fieldAt b 12 4 }

/-- TOKEN_CHECK: the check ends with a grant or a refusal, each counted in the authorisation object (R416, R429). A channel without power
or in reset holds no authorisation. -/
def execTokenCheck (c : Fin 4) (s : State) : Host.Outcome State Fault Refusal :=
  match (s.ch c).wire.check with
  | none => .next s
  | some (b, n) =>
    if !s.lamp.serving then .next s else
    let ok := (s.ch c).life == .up && s.tokenOk c b n
    let sub := if ok then 6 else 7
    let idx := 0x2060 + c.val
    let l := s.lamp.setNum idx sub 2 (sticky 0xFFFF (s.lamp.num idx sub 0) 1) 0
    .next ({ s with lamp := l } |>.onChan c fun ch =>
      let ch := ch.onWire fun w => { w with check := none, result := if ok then 0 else 7 }
      if ok then ch.grant l.time b else ch)

/-- DROP. -/
def execDrop (c : Fin 4) (tag : BitVec 8) (payload : List (BitVec 8)) (s : State) : Host.Outcome State Fault Refusal :=
  s.frame c tag fun s => wantBytes 0 payload s (s.onChan c fun ch => ch.endGrant, 0, [])

/-- STATUS. -/
def execStatus (c : Fin 4) (tag : BitVec 8) (payload : List (BitVec 8)) (s : State) : Host.Outcome State Fault Refusal :=
  s.frame c tag fun s =>
    let ch := s.ch c
    wantBytes 0 payload s (s, 0, leBytes (ch.peekCtrl 0x300000).toNat 4 ++ leBytes ch.wire.result 4
      ++ (List.finRange 8).map fun w => BitVec.ofNat 8 (ch.peekCtrl (dbgStat w)).toNat)

/-- AUTHORISATION_EXPIRY (R417). -/
def execAuthorisationExpiry (c : Fin 4) (s : State) : Host.Outcome State Fault Refusal := .next (s.onChan c fun ch => ch.endGrant)

/-- DEBUG_CHALLENGE_EXPIRY (R416). -/
def execDebugChallengeExpiry (c : Fin 4) (s : State) : Host.Outcome State Fault Refusal :=
  .next (s.onChan c fun ch => ch.onWire fun w => { w with nonce := none })

/-! What the wire reaches (R419, R420). -/

/-- LEVEL and SCOPE of DBG_AUTH. -/
def Chan.dbgLevel (ch : Chan) : Nat := ch.fld 0x300000 0 2
def Chan.scopePlain (ch : Chan) : Bool := ch.bit 0x300000 2 || ch.bit 0x300000 3
def Chan.scopeSealed (ch : Chan) : Bool := ch.bit 0x300000 4

/-- Whether the channel may be reached: powered, and in THAW only at rest (R320). -/
def Chan.reachable (ch : Chan) : Bool := ch.life == .up && !(ch.mode == 8 && ch.trans.isSome)

/-- The block of an offset (R31); the local peripherals are one. -/
def blockOf (off : Nat) : Nat := if 0x500000 ≤ off ∧ off < 0x600000 then 0x50 else off / 0x10000

/-- Whether n bytes at a address lie in one place that the wire may reach (R413, R419). -/
def Chan.placeOk (ch : Chan) (a n : Nat) : Bool :=
  a % 4 == 0 &&
  ((decide (a + n ≤ saveBase)) || (inCtrl a && inCtrl (a + n - 1) && blockOf (a - ctrlBase) == blockOf (a + n - 1 - ctrlBase))
    || (ch.mode != 6 && ch.mode != 8 && ch.inHdm a && ch.inHdm (a + n - 1)))

/-- Whether n bytes at a touch a Sealed range, and whether they touch anything else (R419). -/
def Chan.touches (ch : Chan) (a n : Nat) : Bool × Bool :=
  let (lo, len) := if inCtrl a then (0, 0) else if a < calmEnd then (ch.sealed[0], ch.sealed[1]) else (hdmBase + ch.sealed[2], ch.sealed[3])
  let hit := len ≠ 0 && a < lo + len && lo < a + n
  (hit, !(lo ≤ a && a + n ≤ lo + len))

/-- The level and scope that an access of physical memory or registers needs (R419). -/
def Chan.levelOk (ch : Chan) (a n : Nat) (write : Bool) : Bool :=
  let (inSealed, outside) := ch.touches a n
  (!inSealed || (ch.dbgLevel == 2 && ch.scopeSealed)) && (!outside || (ch.scopePlain && (if write then ch.dbgLevel == 2 else 1 ≤ ch.dbgLevel)))

/-- The zeroing before the first debug access of a stay in THAW: the Sealed Calm range, the Sealed ways of the L3 and their directory
entries (R320). -/
def Chan.zeroSealed (ch : Chan) : Chan :=
  if ch.mode ≠ 8 || ch.zeroed then ch else
  let lo := ch.sealed[0]
  let hi := lo + ch.sealed[1]
  let mine := fun (owner : Nat) => owner == 2 || (8 ≤ owner && getF (nth 0#32 ch.plan.allot (owner - 8)) 1 2 == 2)
  let ch := { ch with
    calm := ch.calm.filter (fun x => !(lo ≤ x.1 && x.1 < hi)), calmTag := ch.calmTag.filter (fun g => !(lo ≤ g * 16 && g * 16 < hi)),
    calmPois := ch.calmPois.filter (fun l => !(lo ≤ l * 64 && l * 64 < hi)), l3 := ch.l3.filter (fun x => !mine x.owner),
    dir := ch.dir.filter (fun x => !mine x.owner), zeroed := true }
  ch.bumpObj 0x3060 7

/-- One word read: its value, none when poisoned. -/
def Chan.wireWord (m : MantleTable) (ch : Chan) (a : Nat) : Chan × Option W32 :=
  if inCtrl a then (ch, some (ch.peekCtrl (a - ctrlBase)))
  else
    let ch := ch.settleFar m a 4
    if inCalm a then (ch, if setHas ch.calmPois (a / 64) then none else some (BitVec.ofNat 32 (leNat (readBytes ch.calm a 4))))
    else match ch.homeAccess ⟨.ucr a 4, 0, a / 64, 0, false, .none⟩ with
      | (ch, some r) => (ch, if r.poison then none else some (r.value.truncate 32))
      | (ch, none) => (ch, none)

/-- Words read upward from a until one is poisoned. -/
def Chan.wireRead (m : MantleTable) (ch : Chan) (a : Nat) : Nat → Chan × Nat × List Byte
  | 0 => (ch, 0, [])
  | n + 1 =>
    match ch.wireWord m a with
    | (ch, none) => (ch, 0xA, [])
    | (ch, some v) =>
      let (ch, st, b) := Chan.wireRead m ch (a + 4) n
      (ch, st, leBytes v.toNat 4 ++ b)

/-- A write that no core makes waits for every hold on its line (R258, log 57). -/
def Chan.waitHolds (m : MantleTable) (ch : Chan) (line : Nat) : Chan :=
  (List.finRange 8).foldl (fun (ch : Chan) v =>
    match (ch.core v).hold with | some h => if h.line = line then ch.outlast m v else ch | none => ch) ch

/-- One word written (R420): a control register as by a store (the Mantle a message would carry is not stated; log 3); memory with its
tag cleared, its line out of every L1I, no reservation of the Calm store touched. In THAW it is a write of the Lamplighter (R41), which removes
poison (R281). -/
def Chan.wirePut (m : MantleTable) (ch : Chan) (a : Nat) (v : W32) : Chan :=
  if inCtrl a then ch.writeCtrl m (a - ctrlBase) v (BitVec.ofNat 12 (ch.pick 99 4096)) true
  else
    let ch := ch.settleFar m a 4
    let b := leBytes v.toNat 4
    let done :=
      if inCalm a then
        let new := ch.calmWrite none a b false (ch.mode == 8)
        { new with cores := new.cores.mapFinIdx fun i (x : Core) h => { x with resv := (ch.core ⟨i, h⟩).resv } }
      else ((ch.waitHolds m (a / 64)).homeAccess ⟨.ucw a 4 (v.zeroExtend 128) false 0#4, 0, a / 64, 0, false, .none⟩).1
    { done with cores := done.cores.map fun (x : Core) => { x with l1i := setDel x.l1i (a / 64) } }

/-- Words written upward from a. -/
def Chan.wireWrite (m : MantleTable) (ch : Chan) (a : Nat) : List W32 → Chan
  | [] => ch
  | v :: vs => Chan.wireWrite m (ch.wirePut m a v) (a + 4) vs

/-! The register space of a core (R421). -/

/-- Word i of a 128-bit register, and the register with it replaced. -/
def word128 (x : W128) (i : Nat) : W32 := (x >>> (32 * i)).truncate 32
def setWord128 (x : W128) (i : Nat) (v : W32) : W128 :=
  (x &&& ~~~((0xFFFFFFFF#128) <<< (32 * i))) ||| (v.zeroExtend 128 <<< (32 * i))
def word64 (x : W64) (i : Nat) : W32 := (x >>> (32 * i)).truncate 32
def setWord64 (x : W64) (i : Nat) (v : W32) : W64 := if i = 0 then (x >>> 32 <<< 32) ||| zx v else (zx v <<< 32) ||| (x &&& 0xFFFFFFFF#64)

def reg32 (n : Nat) : Fin 32 := ⟨n % 32, Nat.mod_lt _ (by decide)⟩
def reg16 (n : Nat) : Fin 16 := ⟨n % 16, Nat.mod_lt _ (by decide)⟩

/-- A word of the register space. -/
def Chan.regWord (ch : Chan) (w : Fin 8) (i : Nat) : W32 :=
  let c := ch.core w
  if i < 0x40 then word64 (c.g[reg32 (i / 2)]) (i % 2)
  else if i < 0xC0 then word128 (c.v[reg32 ((i - 0x40) / 4)]) (i % 4)
  else if i < 0x100 then word128 ((c.c[reg16 ((i - 0xC0) / 4)]).bits) (i % 4)
  else if i = 0x100 then ofBits 32 fun n => n < 16 && (c.c[reg16 n]).tag
  else if i = 0x102 ∨ i = 0x103 then word64 c.pc (i - 0x102)
  else if 0x104 ≤ i ∧ i < 0x108 then word128 c.pcc.bits (i - 0x104)
  else if i = 0x108 then BitVec.ofNat 32 (b2n c.pcc.tag)
  else if 0x140 ≤ i ∧ i < 0x180 then
    let k := reg32 ((i - 0x140) / 2)
    word64 (match k.val with | 6 | 7 => ch.special w k | _ => c.sr k) (i % 2)
  else 0#32

/-- A word of the register space written: a Taper loses its tag. -/
def Core.putWord (c : Core) (i : Nat) (v : W32) : Core :=
  if i < 0x40 then
    let r := reg32 (i / 2)
    if r = 0 then c else { c with g := c.g.set r (setWord64 (c.g[r]) (i % 2) v) }
  else if i < 0xC0 then
    let r := reg32 ((i - 0x40) / 4)
    { c with v := c.v.set r (setWord128 (c.v[r]) (i % 4) v) }
  else if i < 0x100 then
    let r := reg16 ((i - 0xC0) / 4)
    { c with c := c.c.set r ⟨setWord128 ((c.c[r]).bits) (i % 4) v, false⟩ }
  else if i = 0x102 ∨ i = 0x103 then { c with pc := align4 (setWord64 c.pc (i - 0x102) v) }
  else if 0x104 ≤ i ∧ i < 0x108 then { c with pcc := ⟨setWord128 c.pcc.bits (i - 0x104) v, false⟩ }
  else if 0x140 ≤ i ∧ i < 0x180 then
    let k := reg32 ((i - 0x140) / 2)
    c.setSr k (setWord64 (c.sr k) (i % 2) v)
  else c

def Core.putWords (c : Core) (i : Nat) : List W32 → Core
  | [] => c
  | v :: vs => (c.putWord i v).putWords (i + 1) vs

/-- The status of an access to the register space; 0 when it may be made (R419, R421): a stopped core, the class of its PCC in SCOPE. -/
def Chan.regAccess (m : MantleTable) (ch : Chan) (w : Fin 8) (write : Bool) : Nat :=
  let held : Bool := match ch.snuff with | some x => x.done | none => false
  let mt := (ch.core w).pcc.mantle
  if ch.dbgLevel = 0 then 4
  else if !(ch.life == .up && (ch.halted w || (held && !write))) then 6
  else if !ch.inScope m mt then 4
  else if (write || clsOf m mt == 2) && ch.dbgLevel != 2 then 4 else 0

/-! READ and WRITE (R413). -/

/-- The fields of a READ or WRITE: SPACE, CORE, COUNT, ADDR. -/
structure WireAcc where
  space : Nat
  core  : Nat
  count : Nat
  addr  : Nat

def wireAcc (b : List Byte) : WireAcc := ⟨fieldAt b 0 1, fieldAt b 1 1, fieldAt b 2 2, fieldAt b 4 8⟩

def WireAcc.fieldsOk (x : WireAcc) : Bool := x.space ≤ 1 && 1 ≤ x.count && x.count ≤ 64 && (x.space == 0 || x.core < 8)
def WireAcc.w (x : WireAcc) : Fin 8 := ⟨x.core % 8, Nat.mod_lt _ (by decide)⟩

/-- The status of an access to physical addresses; 0 when it may be made. In THAW only memory is written (R319); that a write of a control
register is answered 0x05 there is a DESIGN CHOICE (log 60). -/
def Chan.physAccess (ch : Chan) (x : WireAcc) (write : Bool) : Nat :=
  if ch.dbgLevel = 0 then 4
  else if !ch.reachable || !ch.placeOk x.addr (4 * x.count) || (write && ch.mode == 8 && inCtrl x.addr) then 5
  else if !ch.levelOk x.addr (4 * x.count) write then 4 else 0

/-- READ. -/
def State.wireReadFrame (s : State) (c : Fin 4) (b : List Byte) : State × Nat × List Byte :=
  let x := wireAcc b
  let ch := s.ch c
  if b.length ≠ 12 ∨ !x.fieldsOk then (s, 3, [])
  else if x.space = 1 then
    let st := ch.regAccess (s.mtl c) x.w false
    if st ≠ 0 then (s, st, [])
    else (s, 0, (List.range x.count).flatMap fun i => leBytes (ch.regWord x.w (x.addr + i)).toNat 4)
  else
    let st := ch.physAccess x false
    if st ≠ 0 then (s, st, [])
    else
      let r := ch.zeroSealed.wireRead (s.mtl c) x.addr x.count
      (s.onChan c fun _ => r.1, r.2.1, r.2.2)

/-- The words of a WRITE. -/
def wireWords (b : List Byte) (n : Nat) : List W32 := (List.range n).map fun i => BitVec.ofNat 32 (fieldAt b (12 + 4 * i) 4)

/-- WRITE. -/
def State.wireWriteFrame (s : State) (c : Fin 4) (b : List Byte) : State × Nat × List Byte :=
  let x := wireAcc b
  let ch := s.ch c
  if !x.fieldsOk ∨ b.length ≠ 12 + 4 * x.count then (s, 3, [])
  else if x.space = 1 then
    let st := ch.regAccess (s.mtl c) x.w true
    if st ≠ 0 then (s, st, []) else (s.onChan c fun ch => ch.onCore x.w fun k => k.putWords x.addr (wireWords b x.count), 0, [])
  else
    let st := ch.physAccess x true
    if st ≠ 0 then (s, st, [])
    else (s.onChan c fun ch => ch.zeroSealed.wireWrite (s.mtl c) x.addr (wireWords b x.count), 0, [])

/-- DEBUG_READ (R419 to R421). -/
def execDebugRead (c : Fin 4) (tag : BitVec 8) (payload : List (BitVec 8)) (s : State) : Host.Outcome State Fault Refusal :=
  s.frame c tag fun s => s.wireReadFrame c payload

/-- DEBUG_WRITE (R419 to R421). -/
def execDebugWrite (c : Fin 4) (tag : BitVec 8) (payload : List (BitVec 8)) (s : State) : Host.Outcome State Fault Refusal :=
  s.frame c tag fun s => s.wireWriteFrame c payload

/-! Halt, resume, step. -/

/-- The write of one DBG register from the wire, as a WRITE would make it. -/
def State.wireReg (s : State) (c : Fin 4) (off : Nat) (v : W32) : Host.Outcome State Fault Refusal :=
  s.act c fun m ch =>
    if s.wireOn c && ch.physAccess ⟨0, 0, 1, ctrlBase + off⟩ true == 0 then ch.zeroSealed.wirePut m (ctrlBase + off) v else ch

/-- DBG_HALTREQ (R321, R422). -/
def execDbgHaltreq (c : Fin 4) (val : BitVec 32) (s : State) : Host.Outcome State Fault Refusal := s.wireReg c 0x300010 val

/-- DBG_RESUME (R425). -/
def execDbgResume (c : Fin 4) (val : BitVec 32) (s : State) : Host.Outcome State Fault Refusal := s.wireReg c 0x300014 val

/-- DBG_STEP (R424). -/
def execDbgStep (c : Fin 4) (val : BitVec 32) (s : State) : Host.Outcome State Fault Refusal := s.wireReg c 0x300018 val

/-- PATCH_CTL_WRITE, by a core's store or from the wire (R420, R426, R430). -/
def execPatchCtlWrite (k : CoreId) (insn : BitVec 32) (u : Fin 32) (wire : Bool) (val : BitVec 32) (s : State) :
    Host.Outcome State Fault Refusal :=
  if wire then s.wireReg k.ch (pu u + 8) val else s.store32 k insn (pu u + 8) val

/-- Whether a pending halt of core w takes effect now (R422, R423): outside a window and a transition, within level and scope. -/
def Chan.mayHalt (m : MantleTable) (ch : Chan) (w : Fin 8) : Bool :=
  let c := ch.core w
  ch.life == .up && runMode ch.mode && ch.trans.isNone && ch.snuff.isNone && !ch.halted w && c.haltReq != 0#8 && !c.wact && c.slotA.isNone
    && ch.haltAuth m c.pcc.mantle

/-- HALT (R423, R425). -/
def execHalt (k : CoreId) (s : State) : Host.Outcome State Fault Refusal :=
  s.act k.ch fun m ch => if ch.mayHalt m k.w then ch.takeHalt m k.w (firstCause (ch.core k.w).haltReq) else ch

end Sys2Proof.Machine
end

