-- ==== Sys2Proof/Machine/Dispatch.lean ====
section
/-! DEFINITION. One arm per command, each a direct call of its meaning. -/

namespace Sys2Proof.Machine

/-- The effect of a command on everything but the queue. -/
def exec (i : Instr) (s : State) : Host.Outcome State Fault Refusal :=
  match i with
  | .registerWrite k insn off size cap val => Sys2Proof.Machine.execRegisterWrite k insn off size cap val s
  | .mbxTxgo k insn val => Sys2Proof.Machine.execMbxTxgo k insn val s
  | .mbxRxpop k insn val => Sys2Proof.Machine.execMbxRxpop k insn val s
  | .hostPortSlot c => Sys2Proof.Machine.execHostPortSlot c s
  | .modeRequestGale c src tag => Sys2Proof.Machine.execModeRequestGale c src tag s
  | .modeRequestBreeze c src tag => Sys2Proof.Machine.execModeRequestBreeze c src tag s
  | .modeRequestDrizzle c src tag => Sys2Proof.Machine.execModeRequestDrizzle c src tag s
  | .modeRequestCalm c src tag => Sys2Proof.Machine.execModeRequestCalm c src tag s
  | .modeRequestHaze c src tag => Sys2Proof.Machine.execModeRequestHaze c src tag s
  | .modeRequestDew c src tag => Sys2Proof.Machine.execModeRequestDew c src tag s
  | .modeRequestFrost c src tag => Sys2Proof.Machine.execModeRequestFrost c src tag s
  | .modeRequestThaw c src tag => Sys2Proof.Machine.execModeRequestThaw c src tag s
  | .modeTransitionDone c us rail => Sys2Proof.Machine.execModeTransitionDone c us rail s
  | .dewWake c ev => Sys2Proof.Machine.execDewWake c ev s
  | .coldChannelStart c x memFail rail => Sys2Proof.Machine.execColdChannelStart c x memFail rail s
  | .coreRelease c => Sys2Proof.Machine.execCoreRelease c s
  | .channelReset c ns => Sys2Proof.Machine.execChannelReset c ns s
  | .add k p rd rs1 rs2 => Sys2Proof.Machine.execAdd k p rd rs1 rs2 s
  | .sub k p rd rs1 rs2 => Sys2Proof.Machine.execSub k p rd rs1 rs2 s
  | .and k p rd rs1 rs2 => Sys2Proof.Machine.execAnd k p rd rs1 rs2 s
  | .or k p rd rs1 rs2 => Sys2Proof.Machine.execOr k p rd rs1 rs2 s
  | .xor k p rd rs1 rs2 => Sys2Proof.Machine.execXor k p rd rs1 rs2 s
  | .shl k p rd rs1 rs2 => Sys2Proof.Machine.execShl k p rd rs1 rs2 s
  | .shr k p rd rs1 rs2 => Sys2Proof.Machine.execShr k p rd rs1 rs2 s
  | .sar k p rd rs1 rs2 => Sys2Proof.Machine.execSar k p rd rs1 rs2 s
  | .lts k p rd rs1 rs2 => Sys2Proof.Machine.execLts k p rd rs1 rs2 s
  | .ltu k p rd rs1 rs2 => Sys2Proof.Machine.execLtu k p rd rs1 rs2 s
  | .min k p rd rs1 rs2 => Sys2Proof.Machine.execMin k p rd rs1 rs2 s
  | .max k p rd rs1 rs2 => Sys2Proof.Machine.execMax k p rd rs1 rs2 s
  | .minu k p rd rs1 rs2 => Sys2Proof.Machine.execMinu k p rd rs1 rs2 s
  | .maxu k p rd rs1 rs2 => Sys2Proof.Machine.execMaxu k p rd rs1 rs2 s
  | .rol k p rd rs1 rs2 => Sys2Proof.Machine.execRol k p rd rs1 rs2 s
  | .ror k p rd rs1 rs2 => Sys2Proof.Machine.execRor k p rd rs1 rs2 s
  | .clz k p rd rs1 => Sys2Proof.Machine.execClz k p rd rs1 s
  | .ctz k p rd rs1 => Sys2Proof.Machine.execCtz k p rd rs1 s
  | .popc k p rd rs1 => Sys2Proof.Machine.execPopc k p rd rs1 s
  | .par k p rd rs1 => Sys2Proof.Machine.execPar k p rd rs1 s
  | .brev k p rd rs1 => Sys2Proof.Machine.execBrev k p rd rs1 s
  | .brevb k p rd rs1 => Sys2Proof.Machine.execBrevb k p rd rs1 s
  | .bswap k p rd rs1 => Sys2Proof.Machine.execBswap k p rd rs1 s
  | .andn k p rd rs1 rs2 => Sys2Proof.Machine.execAndn k p rd rs1 rs2 s
  | .add32 k p rd rs1 rs2 => Sys2Proof.Machine.execAdd32 k p rd rs1 rs2 s
  | .sub32 k p rd rs1 rs2 => Sys2Proof.Machine.execSub32 k p rd rs1 rs2 s
  | .and32 k p rd rs1 rs2 => Sys2Proof.Machine.execAnd32 k p rd rs1 rs2 s
  | .or32 k p rd rs1 rs2 => Sys2Proof.Machine.execOr32 k p rd rs1 rs2 s
  | .xor32 k p rd rs1 rs2 => Sys2Proof.Machine.execXor32 k p rd rs1 rs2 s
  | .shl32 k p rd rs1 rs2 => Sys2Proof.Machine.execShl32 k p rd rs1 rs2 s
  | .shr32 k p rd rs1 rs2 => Sys2Proof.Machine.execShr32 k p rd rs1 rs2 s
  | .sar32 k p rd rs1 rs2 => Sys2Proof.Machine.execSar32 k p rd rs1 rs2 s
  | .lts32 k p rd rs1 rs2 => Sys2Proof.Machine.execLts32 k p rd rs1 rs2 s
  | .ltu32 k p rd rs1 rs2 => Sys2Proof.Machine.execLtu32 k p rd rs1 rs2 s
  | .addi k p rd rs1 imm => Sys2Proof.Machine.execAddi k p rd rs1 imm s
  | .andi k p rd rs1 imm => Sys2Proof.Machine.execAndi k p rd rs1 imm s
  | .ori k p rd rs1 imm => Sys2Proof.Machine.execOri k p rd rs1 imm s
  | .xori k p rd rs1 imm => Sys2Proof.Machine.execXori k p rd rs1 imm s
  | .shli k p rd rs1 sh => Sys2Proof.Machine.execShli k p rd rs1 sh s
  | .shri k p rd rs1 sh => Sys2Proof.Machine.execShri k p rd rs1 sh s
  | .sari k p rd rs1 sh => Sys2Proof.Machine.execSari k p rd rs1 sh s
  | .rori k p rd rs1 sh => Sys2Proof.Machine.execRori k p rd rs1 sh s
  | .ltsi k p rd rs1 imm => Sys2Proof.Machine.execLtsi k p rd rs1 imm s
  | .ltui k p rd rs1 imm => Sys2Proof.Machine.execLtui k p rd rs1 imm s
  | .klo k p rd imm => Sys2Proof.Machine.execKlo k p rd imm s
  | .kpc k p rd imm => Sys2Proof.Machine.execKpc k p rd imm s
  | .lsi k p rd imm => Sys2Proof.Machine.execLsi k p rd imm s
  | .mul k p rd rs1 rs2 => Sys2Proof.Machine.execMul k p rd rs1 rs2 s
  | .mulhiSs k p rd rs1 rs2 => Sys2Proof.Machine.execMulhiSs k p rd rs1 rs2 s
  | .mulhiUu k p rd rs1 rs2 => Sys2Proof.Machine.execMulhiUu k p rd rs1 rs2 s
  | .mulhiSu k p rd rs1 rs2 => Sys2Proof.Machine.execMulhiSu k p rd rs1 rs2 s
  | .mulW k p rd rs1 rs2 => Sys2Proof.Machine.execMulW k p rd rs1 rs2 s
  | .muladd k p rd rs1 rs2 rs3 => Sys2Proof.Machine.execMuladd k p rd rs1 rs2 rs3 s
  | .divs k p rd rs1 rs2 => Sys2Proof.Machine.execDivs k p rd rs1 rs2 s
  | .divu k p rd rs1 rs2 => Sys2Proof.Machine.execDivu k p rd rs1 rs2 s
  | .mods k p rd rs1 rs2 => Sys2Proof.Machine.execMods k p rd rs1 rs2 s
  | .modu k p rd rs1 rs2 => Sys2Proof.Machine.execModu k p rd rs1 rs2 s
  | .divsW k p rd rs1 rs2 => Sys2Proof.Machine.execDivsW k p rd rs1 rs2 s
  | .divuW k p rd rs1 rs2 => Sys2Proof.Machine.execDivuW k p rd rs1 rs2 s
  | .modsW k p rd rs1 rs2 => Sys2Proof.Machine.execModsW k p rd rs1 rs2 s
  | .moduW k p rd rs1 rs2 => Sys2Proof.Machine.execModuW k p rd rs1 rs2 s
  | .longOperationComplete k e => Sys2Proof.Machine.execLongOperationComplete k e s
  | .longOperationFault k => Sys2Proof.Machine.execLongOperationFault k s
  | .lbs k p rd rs1 imm => Sys2Proof.Machine.execLbs k p rd rs1 imm s
  | .lbz k p rd rs1 imm => Sys2Proof.Machine.execLbz k p rd rs1 imm s
  | .lhs k p rd rs1 imm => Sys2Proof.Machine.execLhs k p rd rs1 imm s
  | .lhz k p rd rs1 imm => Sys2Proof.Machine.execLhz k p rd rs1 imm s
  | .lws k p rd rs1 imm => Sys2Proof.Machine.execLws k p rd rs1 imm s
  | .lwz k p rd rs1 imm => Sys2Proof.Machine.execLwz k p rd rs1 imm s
  | .ld k p rd rs1 imm => Sys2Proof.Machine.execLd k p rd rs1 imm s
  | .lv k p rd rs1 imm => Sys2Proof.Machine.execLv k p rd rs1 imm s
  | .sb k p rs2 rs1 imm => Sys2Proof.Machine.execSb k p rs2 rs1 imm s
  | .sh k p rs2 rs1 imm => Sys2Proof.Machine.execSh k p rs2 rs1 imm s
  | .sw k p rs2 rs1 imm => Sys2Proof.Machine.execSw k p rs2 rs1 imm s
  | .sd k p rs2 rs1 imm => Sys2Proof.Machine.execSd k p rs2 rs1 imm s
  | .sv k p rs2 rs1 imm => Sys2Proof.Machine.execSv k p rs2 rs1 imm s
  | .storeBufferDrain k => Sys2Proof.Machine.execStoreBufferDrain k s
  | .ldf k p sz rd rs1 off => Sys2Proof.Machine.execLdf k p sz rd rs1 off s
  | .stf k p sz rs2 rs1 off => Sys2Proof.Machine.execStf k p sz rs2 rs1 off s
  | .farTimeout k e => Sys2Proof.Machine.execFarTimeout k e s
  | .ll k p d rd rs1 => Sys2Proof.Machine.execLl k p d rd rs1 s
  | .sc k p d rd rs1 rs2 => Sys2Proof.Machine.execSc k p d rd rs1 rs2 s
  | .llHoldLimit k => Sys2Proof.Machine.execLlHoldLimit k s
  | .atswp k p d rd rs1 rs2 => Sys2Proof.Machine.execAtswp k p d rd rs1 rs2 s
  | .atadd k p d rd rs1 rs2 => Sys2Proof.Machine.execAtadd k p d rd rs1 rs2 s
  | .atand k p d rd rs1 rs2 => Sys2Proof.Machine.execAtand k p d rd rs1 rs2 s
  | .ator k p d rd rs1 rs2 => Sys2Proof.Machine.execAtor k p d rd rs1 rs2 s
  | .atmin k p d rd rs1 rs2 => Sys2Proof.Machine.execAtmin k p d rd rs1 rs2 s
  | .atmax k p d rd rs1 rs2 => Sys2Proof.Machine.execAtmax k p d rd rs1 rs2 s
  | .atcas k p d rd rs1 rs2 rs3 => Sys2Proof.Machine.execAtcas k p d rd rs1 rs2 rs3 s
  | .fence k p => Sys2Proof.Machine.execFence k p s
  | .fenceSl k p => Sys2Proof.Machine.execFenceSl k p s
  | .fenceSs k p => Sys2Proof.Machine.execFenceSs k p s
  | .fenceLl k p => Sys2Proof.Machine.execFenceLl k p s
  | .ifence k p => Sys2Proof.Machine.execIfence k p s
  | .icinv k p rs1 => Sys2Proof.Machine.execIcinv k p rs1 s
  | .lbar k p => Sys2Proof.Machine.execLbar k p s
  | .waitlG k p rs1 => Sys2Proof.Machine.execWaitlG k p rs1 s
  | .waitlV k p rs1 => Sys2Proof.Machine.execWaitlV k p rs1 s
  | .beq k p rs1 rs2 off => Sys2Proof.Machine.execBeq k p rs1 rs2 off s
  | .bne k p rs1 rs2 off => Sys2Proof.Machine.execBne k p rs1 rs2 off s
  | .blt k p rs1 rs2 off => Sys2Proof.Machine.execBlt k p rs1 rs2 off s
  | .bge k p rs1 rs2 off => Sys2Proof.Machine.execBge k p rs1 rs2 off s
  | .blo k p rs1 rs2 off => Sys2Proof.Machine.execBlo k p rs1 rs2 off s
  | .bhs k p rs1 rs2 off => Sys2Proof.Machine.execBhs k p rs1 rs2 off s
  | .jl k p rd off => Sys2Proof.Machine.execJl k p rd off s
  | .jlr k p rd rs1 imm => Sys2Proof.Machine.execJlr k p rd rs1 imm s
  | .fadd k p d rd rs1 rs2 => Sys2Proof.Machine.execFadd k p d rd rs1 rs2 s
  | .fsub k p d rd rs1 rs2 => Sys2Proof.Machine.execFsub k p d rd rs1 rs2 s
  | .fmul k p d rd rs1 rs2 => Sys2Proof.Machine.execFmul k p d rd rs1 rs2 s
  | .fdiv k p d rd rs1 rs2 => Sys2Proof.Machine.execFdiv k p d rd rs1 rs2 s
  | .fsqrt k p d rd rs1 => Sys2Proof.Machine.execFsqrt k p d rd rs1 s
  | .fmin k p d rd rs1 rs2 => Sys2Proof.Machine.execFmin k p d rd rs1 rs2 s
  | .fmax k p d rd rs1 rs2 => Sys2Proof.Machine.execFmax k p d rd rs1 rs2 s
  | .fcps k p d rd rs1 rs2 => Sys2Proof.Machine.execFcps k p d rd rs1 rs2 s
  | .fcvtp k p d rd rs1 => Sys2Proof.Machine.execFcvtp k p d rd rs1 s
  | .ftoi k p d rd rs1 => Sys2Proof.Machine.execFtoi k p d rd rs1 s
  | .ffromi k p d rd rs1 => Sys2Proof.Machine.execFfromi k p d rd rs1 s
  | .fbitsG k p d rd rs1 => Sys2Proof.Machine.execFbitsG k p d rd rs1 s
  | .fbitsV k p d rd rs1 => Sys2Proof.Machine.execFbitsV k p d rd rs1 s
  | .fceq k p d rd rs1 rs2 => Sys2Proof.Machine.execFceq k p d rd rs1 rs2 s
  | .fclt k p d rd rs1 rs2 => Sys2Proof.Machine.execFclt k p d rd rs1 rs2 s
  | .fcle k p d rd rs1 rs2 => Sys2Proof.Machine.execFcle k p d rd rs1 rs2 s
  | .fmac k p d rd rs1 rs2 rs3 => Sys2Proof.Machine.execFmac k p d rd rs1 rs2 rs3 s
  | .fmsc k p d rd rs1 rs2 rs3 => Sys2Proof.Machine.execFmsc k p d rd rs1 rs2 rs3 s
  | .fnmac k p d rd rs1 rs2 rs3 => Sys2Proof.Machine.execFnmac k p d rd rs1 rs2 rs3 s
  | .fnmsc k p d rd rs1 rs2 rs3 => Sys2Proof.Machine.execFnmsc k p d rd rs1 rs2 rs3 s
  | .vectorAdd k p lane rd rs1 rs2 => Sys2Proof.Machine.execVectorAdd k p lane rd rs1 rs2 s
  | .vectorSub k p lane rd rs1 rs2 => Sys2Proof.Machine.execVectorSub k p lane rd rs1 rs2 s
  | .vectorMul k p lane rd rs1 rs2 => Sys2Proof.Machine.execVectorMul k p lane rd rs1 rs2 s
  | .vectorMin k p lane rd rs1 rs2 => Sys2Proof.Machine.execVectorMin k p lane rd rs1 rs2 s
  | .vectorMax k p lane rd rs1 rs2 => Sys2Proof.Machine.execVectorMax k p lane rd rs1 rs2 s
  | .vectorAnd k p lane rd rs1 rs2 => Sys2Proof.Machine.execVectorAnd k p lane rd rs1 rs2 s
  | .vectorOr k p lane rd rs1 rs2 => Sys2Proof.Machine.execVectorOr k p lane rd rs1 rs2 s
  | .vectorXor k p lane rd rs1 rs2 => Sys2Proof.Machine.execVectorXor k p lane rd rs1 rs2 s
  | .vfmaS4 k p rd rs1 rs2 rs3 => Sys2Proof.Machine.execVfmaS4 k p rd rs1 rs2 rs3 s
  | .vfnmaS4 k p rd rs1 rs2 rs3 => Sys2Proof.Machine.execVfnmaS4 k p rd rs1 rs2 rs3 s
  | .vshuf k p rd rs1 rs2 => Sys2Proof.Machine.execVshuf k p rd rs1 rs2 s
  | .vsplatW k p rd rs1 => Sys2Proof.Machine.execVsplatW k p rd rs1 s
  | .vextW k p rd rs1 lane => Sys2Proof.Machine.execVextW k p rd rs1 lane s
  | .tmov k p cd cs => Sys2Proof.Machine.execTmov k p cd cs s
  | .tbase k p rd cs => Sys2Proof.Machine.execTbase k p rd cs s
  | .tlen k p rd cs => Sys2Proof.Machine.execTlen k p rd cs s
  | .tperm k p rd cs => Sys2Proof.Machine.execTperm k p rd cs s
  | .ttag k p rd cs => Sys2Proof.Machine.execTtag k p rd cs s
  | .towner k p rd cs => Sys2Proof.Machine.execTowner k p rd cs s
  | .tnarrow k p cd cs rs2 rs3 => Sys2Proof.Machine.execTnarrow k p cd cs rs2 rs3 s
  | .ttrim k p cd cs rs2 => Sys2Proof.Machine.execTtrim k p cd cs rs2 s
  | .tshut k p cd cs rs2 => Sys2Proof.Machine.execTshut k p cd cs rs2 s
  | .topen k p cd cs rs2 => Sys2Proof.Machine.execTopen k p cd cs rs2 s
  | .tvoid k p cd cs => Sys2Proof.Machine.execTvoid k p cd cs s
  | .tjump k p cd cs rs2 => Sys2Proof.Machine.execTjump k p cd cs rs2 s
  | .tpcc k p cd => Sys2Proof.Machine.execTpcc k p cd s
  | .twithin k p rd cs1 cs2 => Sys2Proof.Machine.execTwithin k p rd cs1 cs2 s
  | .tld k p cd rs1 imm => Sys2Proof.Machine.execTld k p cd rs1 imm s
  | .tst k p cs2 rs1 imm => Sys2Proof.Machine.execTst k p cs2 rs1 imm s
  | .syscall k p => Sys2Proof.Machine.execSyscall k p s
  | .brk k p => Sys2Proof.Machine.execBrk k p s
  | .snuffResponse c => Sys2Proof.Machine.execSnuffResponse c s
  | .retx k p => Sys2Proof.Machine.execRetx k p s
  | .srr k p rd n => Sys2Proof.Machine.execSrr k p rd n s
  | .srw k p n rs1 => Sys2Proof.Machine.execSrw k p n rs1 s
  | .create k p cd cs rs2 rs3 => Sys2Proof.Machine.execCreate k p cd cs rs2 rs3 s
  | .brand k p cd cs rs2 rs3 => Sys2Proof.Machine.execBrand k p cd cs rs2 rs3 s
  | .tlbinv k p rs1 rs2 => Sys2Proof.Machine.execTlbinv k p rs1 rs2 s
  | .tlbinvall k p => Sys2Proof.Machine.execTlbinvall k p s
  | .crcs8 k p rd rs1 rs2 => Sys2Proof.Machine.execCrcs8 k p rd rs1 rs2 s
  | .crcs16 k p rd rs1 rs2 => Sys2Proof.Machine.execCrcs16 k p rd rs1 rs2 s
  | .crcs32 k p rd rs1 rs2 => Sys2Proof.Machine.execCrcs32 k p rd rs1 rs2 s
  | .crcs64 k p rd rs1 rs2 => Sys2Proof.Machine.execCrcs64 k p rd rs1 rs2 s
  | .movb k p rd rs1 rs2 => Sys2Proof.Machine.execMovb k p rd rs1 rs2 s
  | .fillb k p rd rs1 rs2 => Sys2Proof.Machine.execFillb k p rd rs1 rs2 s
  | .cmpb k p rd rs1 rs2 => Sys2Proof.Machine.execCmpb k p rd rs1 rs2 s
  | .scanb k p rd rs1 rs2 => Sys2Proof.Machine.execScanb k p rd rs1 rs2 s
  | .crcb k p rd rs1 rs2 rs3 => Sys2Proof.Machine.execCrcb k p rd rs1 rs2 rs3 s
  | .waitph k p rd rs1 slot => Sys2Proof.Machine.execWaitph k p rd rs1 slot s
  | .waitphTimeout k => Sys2Proof.Machine.execWaitphTimeout k s
  | .stph k p rd rs1 rs2 slot => Sys2Proof.Machine.execStph k p rd rs1 rs2 slot s
  | .customerRoutine k p xop rd rs1 rs2 imm4 => Sys2Proof.Machine.execCustomerRoutine k p xop rd rs1 rs2 imm4 s
  | .undefinedInstruction k insn => Sys2Proof.Machine.execUndefinedInstruction k insn s
  | .interruptEntry k => Sys2Proof.Machine.execInterruptEntry k s
  | .windowLimit k => Sys2Proof.Machine.execWindowLimit k s
  | .flrSwset k insn val => Sys2Proof.Machine.execFlrSwset k insn val s
  | .flrPend k insn ix val => Sys2Proof.Machine.execFlrPend k insn ix val s
  | .flrActv k insn ix val => Sys2Proof.Machine.execFlrActv k insn ix val s
  | .flrCorewWovrcnt k insn rd w => Sys2Proof.Machine.execFlrCorewWovrcnt k insn rd w s
  | .pcrLoqFault k insn w val => Sys2Proof.Machine.execPcrLoqFault k insn w val s
  | .flush k insn w val => Sys2Proof.Machine.execFlush k insn w val s
  | .rds c w line => Sys2Proof.Machine.execRds c w line s
  | .rdo c w line => Sys2Proof.Machine.execRdo c w line s
  | .upg c w line => Sys2Proof.Machine.execUpg c w line s
  | .evd c w line => Sys2Proof.Machine.execEvd c w line s
  | .evn c w line => Sys2Proof.Machine.execEvn c w line s
  | .amo c w op d pa src cmp => Sys2Proof.Machine.execAmo c w op d pa src cmp s
  | .ucr c w pa n => Sys2Proof.Machine.execUcr c w pa n s
  | .ucw c w pa n data => Sys2Proof.Machine.execUcw c w pa n data s
  | .sns c w line => Sys2Proof.Machine.execSns c w line s
  | .sni c w line => Sys2Proof.Machine.execSni c w line s
  | .snq c w slice set => Sys2Proof.Machine.execSnq c w slice set s
  | .rspD c w line => Sys2Proof.Machine.execRspD c w line s
  | .rspN c w line => Sys2Proof.Machine.execRspN c w line s
  | .rspX c w line => Sys2Proof.Machine.execRspX c w line s
  | .dat c w line => Sys2Proof.Machine.execDat c w line s
  | .ack c w line => Sys2Proof.Machine.execAck c w line s
  | .mrd c line => Sys2Proof.Machine.execMrd c line s
  | .mwr c line => Sys2Proof.Machine.execMwr c line s
  | .cxlReadResponse c line held late => Sys2Proof.Machine.execCxlReadResponse c line held late s
  | .homeTimeout c line => Sys2Proof.Machine.execHomeTimeout c line s
  | .imbalanceWindow c => Sys2Proof.Machine.execImbalanceWindow c s
  | .l3dErrcnt0 k insn rd => Sys2Proof.Machine.execL3dErrcnt0 k insn rd s
  | .l3dErrcnt1 k insn rd => Sys2Proof.Machine.execL3dErrcnt1 k insn rd s
  | .l3dErrcnt2 k insn rd => Sys2Proof.Machine.execL3dErrcnt2 k insn rd s
  | .l3dErrsat k insn rd => Sys2Proof.Machine.execL3dErrsat k insn rd s
  | .flitCrcFailure c => Sys2Proof.Machine.execFlitCrcFailure c s
  | .linkDown c => Sys2Proof.Machine.execLinkDown c s
  | .getEventRecords c recs => Sys2Proof.Machine.execGetEventRecords c recs s
  | .mcxErrcnt0 k insn rd => Sys2Proof.Machine.execMcxErrcnt0 k insn rd s
  | .mcxErrcnt1 k insn rd => Sys2Proof.Machine.execMcxErrcnt1 k insn rd s
  | .mcxErrcnt2 k insn rd => Sys2Proof.Machine.execMcxErrcnt2 k insn rd s
  | .mcxErrcnt3 k insn rd => Sys2Proof.Machine.execMcxErrcnt3 k insn rd s
  | .mcxErrsat k insn rd => Sys2Proof.Machine.execMcxErrsat k insn rd s
  | .mcxEvt k insn rd => Sys2Proof.Machine.execMcxEvt k insn rd s
  | .mcxHwmclr k insn val => Sys2Proof.Machine.execMcxHwmclr k insn val s
  | .retrain c x val q => Sys2Proof.Machine.execRetrain c x val q s
  | .encoderCount c t move e => Sys2Proof.Machine.execEncoderCount c t move e s
  | .indexEdge c t e => Sys2Proof.Machine.execIndexEdge c t e s
  | .pulseEdge c t e => Sys2Proof.Machine.execPulseEdge c t e s
  | .zeroCrossing c t e => Sys2Proof.Machine.execZeroCrossing c t e s
  | .ringPhaseSample c t angle turn newMaster e => Sys2Proof.Machine.execRingPhaseSample c t angle turn newMaster e s
  | .swEdge k insn t val => Sys2Proof.Machine.execSwEdge k insn t val s
  | .swSet k insn t val => Sys2Proof.Machine.execSwSet k insn t val s
  | .missingEdge c t => Sys2Proof.Machine.execMissingEdge c t s
  | .holdoverExpiry c t => Sys2Proof.Machine.execHoldoverExpiry c t s
  | .trackerRestart k insn t val => Sys2Proof.Machine.execTrackerRestart k insn t val s
  | .arm k insn n val => Sys2Proof.Machine.execArm k insn n val s
  | .softwareCancel k insn n val => Sys2Proof.Machine.execSoftwareCancel k insn n val s
  | .slotFiring c n bwd => Sys2Proof.Machine.execSlotFiring c n bwd s
  | .deadline c n => Sys2Proof.Machine.execDeadline c n s
  | .ptbHwmclr k insn val => Sys2Proof.Machine.execPtbHwmclr k insn val s
  | .ptbStphDisc k insn rd => Sys2Proof.Machine.execPtbStphDisc k insn rd s
  | .run k insn n val => Sys2Proof.Machine.execRun k insn n val s
  | .timerZero c n => Sys2Proof.Machine.execTimerZero c n s
  | .timerPeak c n => Sys2Proof.Machine.execTimerPeak c n s
  | .compareMatch c n b => Sys2Proof.Machine.execCompareMatch c n b s
  | .countWrite k insn n val => Sys2Proof.Machine.execCountWrite k insn n val s
  | .liveCompareWrite k insn n b val => Sys2Proof.Machine.execLiveCompareWrite k insn n b val s
  | .syncStart k insn val => Sys2Proof.Machine.execSyncStart k insn val s
  | .syncStop k insn val => Sys2Proof.Machine.execSyncStop k insn val s
  | .capture c n m e => Sys2Proof.Machine.execCapture c n m e s
  | .capRead k insn rd n m coincident => Sys2Proof.Machine.execCapRead k insn rd n m coincident s
  | .wdtCtlWrite k insn val => Sys2Proof.Machine.execWdtCtlWrite k insn val s
  | .service k insn val => Sys2Proof.Machine.execService k insn val s
  | .watchdogWarning c => Sys2Proof.Machine.execWatchdogWarning c s
  | .watchdogExpiry c => Sys2Proof.Machine.execWatchdogExpiry c s
  | .pioSet k insn hi val => Sys2Proof.Machine.execPioSet k insn hi val s
  | .pioClr k insn hi val => Sys2Proof.Machine.execPioClr k insn hi val s
  | .pioTgl k insn hi val => Sys2Proof.Machine.execPioTgl k insn hi val s
  | .pinEdge c pin level => Sys2Proof.Machine.execPinEdge c pin level s
  | .pinFunctionChange k insn pin val => Sys2Proof.Machine.execPinFunctionChange k insn pin val s
  | .uartTransmit k insn u val => Sys2Proof.Machine.execUartTransmit k insn u val s
  | .uartReceivePop k insn rd u => Sys2Proof.Machine.execUartReceivePop k insn rd u s
  | .characterReceived c u ch parErr frmErr brk => Sys2Proof.Machine.execCharacterReceived c u ch parErr frmErr brk s
  | .characterSent c u => Sys2Proof.Machine.execCharacterSent c u s
  | .rxTimeout c u => Sys2Proof.Machine.execRxTimeout c u s
  | .spiTransmit k insn val => Sys2Proof.Machine.execSpiTransmit k insn val s
  | .spiReceivePop k insn rd => Sys2Proof.Machine.execSpiReceivePop k insn rd s
  | .spiFrameDone c rx => Sys2Proof.Machine.execSpiFrameDone c rx s
  | .i2cCommand k insn val => Sys2Proof.Machine.execI2cCommand k insn val s
  | .i2cRxdataPop k insn rd => Sys2Proof.Machine.execI2cRxdataPop k insn rd s
  | .i2cByteDone c rx nack => Sys2Proof.Machine.execI2cByteDone c rx nack s
  | .arbitrationLost c => Sys2Proof.Machine.execArbitrationLost c s
  | .stretchTimeout c => Sys2Proof.Machine.execStretchTimeout c s
  | .ethTxcmd k insn val => Sys2Proof.Machine.execEthTxcmd k insn val s
  | .frameSent c => Sys2Proof.Machine.execFrameSent c s
  | .frameReceived c bytes ok => Sys2Proof.Machine.execFrameReceived c bytes ok s
  | .linkChange c up speed hdx => Sys2Proof.Machine.execLinkChange c up speed hdx s
  | .mdioGo k insn val => Sys2Proof.Machine.execMdioGo k insn val s
  | .mdioDone c data => Sys2Proof.Machine.execMdioDone c data s
  | .ethErrcnt k insn rd => Sys2Proof.Machine.execEthErrcnt k insn rd s
  | .counterOverflow k b => Sys2Proof.Machine.execCounterOverflow k b s
  | .traceRun k insn val => Sys2Proof.Machine.execTraceRun k insn val s
  | .traceStop k insn val => Sys2Proof.Machine.execTraceStop k insn val s
  | .trigger c ev => Sys2Proof.Machine.execTrigger c ev s
  | .swtrigGo k insn val => Sys2Proof.Machine.execSwtrigGo k insn val s
  | .postEnd c => Sys2Proof.Machine.execPostEnd c s
  | .traceStall c => Sys2Proof.Machine.execTraceStall c s
  | .traceStallEnd c => Sys2Proof.Machine.execTraceStallEnd c s
  | .sweep => Sys2Proof.Machine.execSweep s
  | .forward port f => Sys2Proof.Machine.execForward port f s
  | .other f => Sys2Proof.Machine.execOther f s
  | .headFrame port h => Sys2Proof.Machine.execHeadFrame port h s
  | .dataFrame port f => Sys2Proof.Machine.execDataFrame port f s
  | .headReturn port h ns => Sys2Proof.Machine.execHeadReturn port h ns s
  | .swMiss => Sys2Proof.Machine.execSwMiss s
  | .ringRead f => Sys2Proof.Machine.execRingRead f s
  | .ringWrite f => Sys2Proof.Machine.execRingWrite f s
  | .groupRead f => Sys2Proof.Machine.execGroupRead f s
  | .mailboxReturn f => Sys2Proof.Machine.execMailboxReturn f s
  | .mailboxTimeout tid => Sys2Proof.Machine.execMailboxTimeout tid s
  | .calibrationRequest port t1 fcsOk marked => Sys2Proof.Machine.execCalibrationRequest port t1 fcsOk marked s
  | .calibrationReturn port t1 t2 t3 fcs => Sys2Proof.Machine.execCalibrationReturn port t1 t2 t3 fcs s
  | .calibrationTimer port => Sys2Proof.Machine.execCalibrationTimer port s
  | .blockLockLoss port => Sys2Proof.Machine.execBlockLockLoss port s
  | .bypassRelease why => Sys2Proof.Machine.execBypassRelease why s
  | .bypassRetry testsPass => Sys2Proof.Machine.execBypassRetry testsPass s
  | .holdBypassed q => Sys2Proof.Machine.execHoldBypassed q s
  | .retryNow q testsPass => Sys2Proof.Machine.execRetryNow q testsPass s
  | .dictionaryRead c => Sys2Proof.Machine.execDictionaryRead c s
  | .dictionaryWrite c => Sys2Proof.Machine.execDictionaryWrite c s
  | .declare c => Sys2Proof.Machine.execDeclare c s
  | .challenge src => Sys2Proof.Machine.execChallenge src s
  | .token src bytes => Sys2Proof.Machine.execToken src bytes s
  | .close src num => Sys2Proof.Machine.execClose src num s
  | .sessionExpiry num => Sys2Proof.Machine.execSessionExpiry num s
  | .parameterStoreWrite ok => Sys2Proof.Machine.execParameterStoreWrite ok s
  | .storeRetry ok => Sys2Proof.Machine.execStoreRetry ok s
  | .restoreDefaults q val => Sys2Proof.Machine.execRestoreDefaults q val s
  | .digestComputed => Sys2Proof.Machine.execDigestComputed s
  | .enrol st q bytes => Sys2Proof.Machine.execEnrol st q bytes s
  | .revoke st q val => Sys2Proof.Machine.execRevoke st q val s
  | .stagedData item q off bytes => Sys2Proof.Machine.execStagedData item q off bytes s
  | .prepare item q => Sys2Proof.Machine.execPrepare item q s
  | .eraseDone item ok => Sys2Proof.Machine.execEraseDone item ok s
  | .activate item q => Sys2Proof.Machine.execActivate item q s
  | .abort item q => Sys2Proof.Machine.execAbort item q s
  | .fallBack item q => Sys2Proof.Machine.execFallBack item q s
  | .commit item q => Sys2Proof.Machine.execCommit item q s
  | .firmwareActivationTimeout => Sys2Proof.Machine.execFirmwareActivationTimeout s
  | .poresetN ns => Sys2Proof.Machine.execPoresetN ns s
  | .deviceStart => Sys2Proof.Machine.execDeviceStart s
  | .lamplighterWatchdogExpiry secs => Sys2Proof.Machine.execLamplighterWatchdogExpiry secs s
  | .thermalTrip => Sys2Proof.Machine.execThermalTrip s
  | .wakePattern c ns => Sys2Proof.Machine.execWakePattern c ns s
  | .wireSleep c => Sys2Proof.Machine.execWireSleep c s
  | .info c tag payload => Sys2Proof.Machine.execInfo c tag payload s
  | .debugChallenge c tag payload => Sys2Proof.Machine.execDebugChallenge c tag payload s
  | .debugToken c tag payload => Sys2Proof.Machine.execDebugToken c tag payload s
  | .tokenCheck c => Sys2Proof.Machine.execTokenCheck c s
  | .drop c tag payload => Sys2Proof.Machine.execDrop c tag payload s
  | .status c tag payload => Sys2Proof.Machine.execStatus c tag payload s
  | .debugRead c tag payload => Sys2Proof.Machine.execDebugRead c tag payload s
  | .debugWrite c tag payload => Sys2Proof.Machine.execDebugWrite c tag payload s
  | .authorisationExpiry c => Sys2Proof.Machine.execAuthorisationExpiry c s
  | .withdraw c q val => Sys2Proof.Machine.execWithdraw c q val s
  | .dbgHaltreq c val => Sys2Proof.Machine.execDbgHaltreq c val s
  | .halt k => Sys2Proof.Machine.execHalt k s
  | .dbgResume c val => Sys2Proof.Machine.execDbgResume c val s
  | .dbgStep c val => Sys2Proof.Machine.execDbgStep c val s
  | .patchCtlWrite k insn u wire val => Sys2Proof.Machine.execPatchCtlWrite k insn u wire val s
  | .blockLockGain port => Sys2Proof.Machine.execBlockLockGain port s
  | .cxlWriteCompletion c line ok => Sys2Proof.Machine.execCxlWriteCompletion c line ok s
  | .heldResponseDelivery c line => Sys2Proof.Machine.execHeldResponseDelivery c line s
  | .deadTimeEnd c n b low => Sys2Proof.Machine.execDeadTimeEnd c n b low s
  | .serviceGapExpiry c => Sys2Proof.Machine.execServiceGapExpiry c s
  | .activationPauseEnd => Sys2Proof.Machine.execActivationPauseEnd s
  | .flashProgramDone item ok => Sys2Proof.Machine.execFlashProgramDone item ok s
  | .challengeExpiry src => Sys2Proof.Machine.execChallengeExpiry src s
  | .debugChallengeExpiry c => Sys2Proof.Machine.execDebugChallengeExpiry c s
  | .refusedFrame c => Sys2Proof.Machine.execRefusedFrame c s
  | .unknownCommand c code tag payload => Sys2Proof.Machine.execUnknownCommand c code tag payload s
  | .syncCycleLimit k => Sys2Proof.Machine.execSyncCycleLimit k s
  | .roomReturns c => Sys2Proof.Machine.execRoomReturns c s

end Sys2Proof.Machine
end

