-- ==== Sys2Proof/Machine/Upset.lean ====
section
/-! DEFINITION. Errors of the arrays of a running channel: parity of the L1s, single and double bits of the L2s, the L3 and the Calm store,
parity on the on-chip network, in the directory and in the micro and nano stores, with the action of each (R192, R282, R283, R290).
An error comes about in an idle step, freely, and the check that finds it runs in the same step; a bad word of a store stays until a
sequencer reads it (log 32). -/

namespace Sys2Proof.Machine

/-- A single-bit error corrected (R282). -/
def Chan.noteCorr (ch : Chan) : Chan := ch.l3dErr 0x70010 0 0 0

/-- A double-bit or network data error; `kind` 0 records no address (R282, R290). -/
def Chan.noteUncorr (ch : Chan) (kind line slice core : Nat) : Chan :=
  (if kind = 0 then ch else ch.l3dAddr kind line slice core).l3dErr 0x70010 16 1 1

/-- A parity error of an L1: the line is invalidated (R282). -/
def Chan.l1Parity (ch : Chan) (w : Fin 8) (data : Bool) : Chan :=
  let c := ch.core w
  let ls := if data then c.l1d else c.l1i
  match ls[ch.pick 801 ls.length]? with
  | none => ch
  | some l => (if data then ch.l1dDrop w l else ch.setCore w { c with l1i := setDel c.l1i l }).count16 0x70018 0 0x7001C 4

/-- A double-bit error in an L2: a line in E or S is dropped, one in M poisoned (R282). -/
def Chan.l2Double (ch : Chan) (w : Fin 8) : Chan :=
  let c := ch.core w
  match c.l2[ch.pick 802 c.l2.length]? with
  | none => ch
  | some x =>
    if x.st = .m then
      (ch.setCore w { c.l2Set { x with poison := true } with l1d := setDel c.l1d x.line }).noteUncorr 1 x.line (ch.slice x.line) w.val
    else (ch.setCore w (c.l2Drop x.line)).noteUncorr 0 0 0 0

/-- A double-bit error in the L3: a clean line is dropped, a dirty one poisoned (R282). -/
def Chan.l3Double (ch : Chan) : Chan :=
  match ch.l3[ch.pick 803 ch.l3.length]? with
  | none => ch
  | some x =>
    if x.dirty then
      ({ ch with l3 := { x with poison := true } :: (ch.l3Drop x.line).l3 } : Chan).noteUncorr 2 x.line (ch.slice x.line) 0
    else (ch.l3Drop x.line).noteUncorr 0 0 0 0

/-- A double-bit error in the Calm store: the line is poisoned (R281, R282). -/
def Chan.calmDouble (ch : Chan) : Chan :=
  let line := ch.pick 804 (calmEnd / 64)
  ({ ch with calmPois := setAdd ch.calmPois line } : Chan).noteUncorr 3 line 0 0

/-- A parity error in a data word of message i of the network: the line is delivered poisoned (R282). -/
def Chan.hurtMsg (ch : Chan) (i : Nat) : Option (Chan × Nat) :=
  match ch.net[i]? with
  | some (.rspD w l d t dirty _) => some ({ ch with net := ch.net.set i (.rspD w l d t dirty true) }, l)
  | some (.dat w l st d t _ o) => some ({ ch with net := ch.net.set i (.dat w l st d t true o) }, l)
  | _ => none

/-- The same in the data of a request that waits at its home: the line of an EVD, the operand of an AMO or UCW, which its home finds. -/
def Chan.hurtReq (ch : Chan) (i : Nat) : Option (Chan × Nat) :=
  match ch.homeQ[i]? with
  | none => none
  | some r =>
    match r.kind with
    | .evd => some (ch.onCore r.w fun c => { c with evb := c.evb.map fun x => if x.line = r.line then { x with poison := true } else x }, r.line)
    | .amo .. | .ucw .. => some ({ ch with homeQ := ch.homeQ.set i { r with harm := .data } }, r.line)
    | _ => none

/-- The same in the data of a CXL request, of its response when it is a read. -/
def Chan.hurtCxl (ch : Chan) (i : Nat) : Option (Chan × Nat) :=
  match ch.cxlReqs[i]? with
  | none => none
  | some q =>
    match q.kind with
    | .read => some ({ ch with cxlReqs := ch.cxlReqs.set i { q with hurt := true } }, q.line)
    | .write .. => some ({ ch with cxlPois := spSet 0#4 ch.cxlPois q.line 0xF#4 }, q.line)
    | _ => none

/-- A parity error in a data word on the network: which message is free (R282). -/
def Chan.netData (ch : Chan) : Chan :=
  let n := ch.net.length
  let k := n + ch.homeQ.length
  let i := ch.pick 805 (k + ch.cxlReqs.length)
  let hurt := if i < n then ch.hurtMsg i else if i < k then ch.hurtReq (i - n) else ch.hurtCxl (i - k)
  match hurt with
  | none => ch
  | some (ch, line) => ch.noteUncorr 5 line (ch.slice line) 0

/-- The line of a snoop or of its answer. -/
def NetMsg.snoops : NetMsg → Option Nat
  | .sns _ l | .sni _ l | .rspD _ l _ _ _ _ | .rspN _ l | .rspX _ l => some l
  | _ => none

/-- The transaction that a grant or an ACK ends (R275, R276): that of the miss entry, or of the line in the eviction buffer. -/
def Chan.grants (ch : Chan) : NetMsg → Option Req
  | .dat w l st _ _ _ o =>
    some ⟨if st = .m then .rdo else .rds, w, l, o, ((ch.core w).miss.find? fun q => q.line == l).any (·.pf), .none⟩
  | .ack w l k =>
    let c := ch.core w
    let held := (c.evb ++ c.l2).find? fun x => x.line == l
    let asked := c.miss.find? fun q => q.line == l
    let owner := match asked, held with | some q, _ => q.owner | none, some x => x.owner | none, none => 0
    some ⟨k, w, l, owner, asked.any (·.pf), .none⟩
  | _ => none

/-- A request whose transaction, its message dropped, stays open until its timeout (R280, R282). -/
def Chan.strand (ch : Chan) (r : Req) : Chan := ch.txSet ⟨r, 0#8, 0#8, none, false, ch.fld 0x70000 0 13, false, true⟩

/-- The header of request i that waits at its home: an eviction that an open transaction may await is lost, and ends with it; of any other the
transaction opens and times out. -/
def Chan.loseReq (ch : Chan) (i : Nat) : Chan :=
  match ch.homeQ[i]? with
  | none => ch
  | some r =>
    if !r.kind.evicts then { ch with homeQ := ch.homeQ.set i { r with harm := .header } } else
    let ch := { ch with homeQ := ch.homeQ.eraseIdx i }
    if (ch.txFind r.line).isSome then ch else ch.strand r

/-- The header of message i of the network. -/
def Chan.loseMsg (ch : Chan) (i : Nat) : Chan :=
  match ch.net[i]? with
  | none => ch
  | some x =>
    let lost : Chan := { ch with net := ch.net.eraseIdx i }
    match x.snoops, ch.grants x with
    | some l, _ => if (ch.txFind l).isSome then lost else ch
    | none, some r => if (ch.txFind r.line).isSome then ch else lost.strand r
    | none, none => lost

/-- The header of request i to the memory controller: the transaction of an MRD times out; that of an MWR has timed out, its line poisoned at its
home. -/
def Chan.loseCxl (ch : Chan) (i : Nat) : Chan :=
  match ch.cxlReqs[i]? with
  | none => ch
  | some q =>
    let lost : Chan := { ch with cxlReqs := ch.cxlReqs.eraseIdx i }
    match q.kind with
    | .read => { lost with txs := lost.txs.map fun t => if t.req.line = q.line then { t with lost := true } else t }
    | .write .. => ((lost.takeBack q).l3Put ⟨q.line, 0#512, 0#4, true, true, q.pool⟩).l3dAddr 4 q.line (ch.slice q.line) 0 |>.l3dErr 0x70014 16 3 3
    | _ => ch

/-- A parity error in a header: which message is free. It is dropped, and its transaction ends under R280; that of a dropped SNQ is the rebuild. -/
def Chan.netHeader (ch : Chan) : Chan :=
  let n := ch.net.length
  let k := n + ch.homeQ.length
  let i := ch.pick 806 (k + ch.cxlReqs.length)
  if i < n then ch.loseMsg i else if i < k then ch.loseReq (i - n) else ch.loseCxl (i - k)

/-- A line of the HDM window, which one is free. -/
def Chan.anyLine (ch : Chan) (salt : Nat) : Nat := hdmBase / 64 + ch.pick salt (ch.hdmSize / 64)

/-- An error that the expander's own ECC finds, in its memory or in the tag store: the line reads as poisoned from there (R301, R305). -/
def Chan.mediaError (ch : Chan) : Chan :=
  if ch.hdmSize = 0 then ch else { ch with cxlPois := spSet 0#4 ch.cxlPois (ch.anyLine 811) 0xF#4 }

/-- A double-bit error in the tag cache, treated as one in the L3 of the data its tags belong to (R282, R305): tags read from the tag store
are read again, tags not yet written there are lost with their line. -/
def Chan.tagDouble (ch : Chan) : Chan :=
  if ch.hdmSize = 0 then ch else
  let line := ch.anyLine 812
  if ch.pick 813 2 = 0 then ch.noteUncorr 0 0 0 0
  else ({ ch with cxlPois := spSet 0#4 ch.cxlPois line 0xF#4 } : Chan).noteUncorr 2 line (ch.slice line) 0

/-- A word of the patch or customer RAM of a core whose parity goes wrong (R192). -/
def Chan.storeParity (ch : Chan) (w : Fin 8) (nano : Bool) : Chan :=
  let b : BadWord := ⟨w, nano, if nano then 0x300 + ch.pick 807 0x100 else 0x1800 + ch.pick 807 0x800⟩
  if ch.badWords.contains b then ch else { ch with badWords := b :: ch.badWords }

/-- At most one error of a channel in a step: which one, and where, is free. -/
def Chan.upset (ch : Chan) : Chan :=
  if !runMode ch.mode then ch else
  let w : Fin 8 := ⟨ch.pick 808 8, Nat.mod_lt _ (by decide)⟩
  let cached := ch.mode != 4
  match ch.choice 800 with
  | 0 => if cached then ch.l1Parity w false else ch
  | 1 => if cached then ch.l1Parity w true else ch
  | 2 => ch.noteCorr
  | 3 => if cached then ch.l2Double w else ch
  | 4 => if cached then ch.l3Double else ch
  | 5 => ch.calmDouble
  | 6 => ch.netData
  | 7 => ch.netHeader
  | 8 => if cached then ch.dirParity (ch.pick 809 8) (ch.pick 810 1024) else ch
  | 9 => ch.storeParity w false
  | 10 => ch.storeParity w true
  | 11 => ch.mediaError
  | 12 => if cached then ch.tagDouble else ch
  | _ => ch

end Sys2Proof.Machine
end

