-- ==== Sys2Proof/Machine/Tick.lean ====
section
/-! DEFINITION. What time does while no command waits: one PTB cycle, 5/3 ns, of every channel's Phase Timebase, slots, timers, watchdog,
WAITPH timeouts and trace port (R83, R118, R121, R128, R136, R145, R160, R417, R447, R450 to R452; log 35), and the errors of arrays (log 32). -/

namespace Sys2Proof.Machine

/-- Core clock cycles in PTB cycle t: 2.4 GHz in GALE and BREEZE, 1.2 GHz in DRIZZLE, 1.6 GHz in CALM and HAZE (R34). -/
def Chan.clocks (ch : Chan) (t : Nat) : Nat :=
  match ch.mode with
  | 1 | 2 => 4
  | 3 => 2
  | 4 | 5 => 8 * (t + 1) / 3 - 8 * t / 3
  | _ => 0

/-- n core clock cycles pass on a core that no command makes issue. A wait of WAITL or LBAR ends in the cycle of the last completion it awaits, so
that its length does not depend on how the cycles fall into PTB cycles (R99, R115, R116). -/
def Chan.corePass (m : MantleTable) (ch : Chan) (w : Fin 8) : Nat → Chan
  | 0 => ch
  | n + 1 =>
    match (ch.core w).wait with
    | .lbar | .waitl _ _ =>
      let ch := ch.heldFor m w 1
      ((ch.completeDue m w (ch.core w).cyc).endWait m w).corePass m w n
    | .waitph .. =>
      let ch := (ch.elapse m w 1).windowTick w 1
      (ch.completeDue m w (ch.core w).cyc).corePass m w n
    | .none =>
      if ch.fixedCore w then ch else
      let ch := (ch.elapse m w 1).windowTick w 1
      (ch.completeDue m w (ch.core w).cyc).corePass m w n

/-- The core clock cycles of one PTB cycle pass on a core that no command makes issue: bubbles on a core that pairs and on one that waits
(R90, R99); long operations whose time has come complete, and with them the wait. A core with fixed costs that could issue stands: the
cycles between its instructions follow from them alone (R116; log 35). -/
def Chan.coreTick (m : MantleTable) (ch : Chan) (w : Fin 8) : Chan :=
  let c := ch.core w
  let runs := ch.life == .up && runMode ch.mode && ch.snuff.isNone && (ch.trans.isNone || c.wact) && !ch.halted w
  if !runs || (ch.fixedCore w && c.wait == .none) then ch else
  ((ch.dropSlotA m w).melt m w 0).corePass m w (ch.clocks ch.ptb.toNat)

/-- The timeout of a WAITPH counts (R83). -/
def Chan.waitTick (m : MantleTable) (ch : Chan) (w : Fin 8) : Chan :=
  match (ch.core w).wait with
  | .waitph slot rd (some n) =>
    if ch.stands w then ch else
    if n ≤ 1 then ch.endWaitph m w rd 1#64 else ch.onCore w fun c => { c with wait := .waitph slot rd (some (n - 1)) }
  | _ => ch

/-- The trace port sends, the count of POST runs, STALL begins or ends, room returns (R447, R450 to R452). -/
def Chan.traceTick (ch : Chan) (t : Nat) : Chan :=
  let sent := match ch.trcPort with | 0 => 0 | 1 => 25 * (t + 1) / 12 - 25 * t / 12 | _ => 1
  let ch := if sent = 0 then ch else ({ ch with trcBuf := drainPkts ch.trcBuf sent } : Chan).traceRoom
  let level := ch.trcUsed / 16
  let on : Bool := ch.bit 0x200000 3 && ch.trcPort != 0
  let ch := { ch with stall := on && (decide (3584 ≤ level) || (ch.stall && decide (2048 ≤ level))) }
  match ch.postLeft with
  | none => ch
  | some n =>
    let k := ch.clocks t
    if n ≤ k ∧ k ≠ 0 then ch.traceHalt else { ch with postLeft := some (n - k) }

/-- One PTB cycle of a running channel; its watchdog may expire. Slots fire before a released write of the cycle can cancel them (R141), and a
timer that a slot starts at a clock edge counts from the next one (R145, R148). -/
def Chan.tick (m : MantleTable) (ch : Chan) : Chan :=
  let ch := (({ ch with ptb := ch.ptb + 1, subCyc := (ch.subCyc + 1) % 2, fired := [], free := ch.free + 1 } : Chan).floatEdges ch).upset
  let ch := ch.ptbTick m
  let ch := if ch.subCyc = 0 then ch.tmClock.pinClock else ch
  let ch := ch.releaseDue m
  let ch := (List.finRange 8).foldl (fun (ch : Chan) w => (ch.coreTick m w).waitTick m w) ch
  let ch := ((ch.traceTick ch.ptb.toNat).uartTick 0).uartTick 1
  let ch := if ch.wdtLate then ch.wdtGap else ch
  if ch.ptb.toNat % 600 ≠ 0 then ch else
  match ch.wdtTick with
  | (ch, true) => ch.wdtExpire m
  | (ch, false) => ch

/-- One PTB cycle of the device: of the channels with power, a cold start's stay in THAW included (R118, R399). -/
def State.tick (s : State) : State :=
  let s := ({ s with lamp := { s.lamp with time := s.lamp.time + 5 } } : State).updateTick.release
  (List.finRange 4).foldl (fun (s : State) c =>
    s.onChan c fun ch =>
      if ch.life != .up && !ch.loaded then ch else
      let ch := if ch.dbgLevel ≠ 0 ∧ ch.wire.life ≤ s.lamp.time then ch.endGrant else ch
      ch.tick (s.mtl c)) s

end Sys2Proof.Machine
end

