-- ==== Sys2Proof/Machine/Encode.lean ====
section
/-! DEFINITION. Which commands are Wick instructions, of which core and with which word (R55 to R58, R66 to R79); and which commands
act on one channel alone. -/

namespace Sys2Proof.Machine

/-- The core and the word of a command that is a Wick instruction; the accesses of registers give their word themselves. -/
def wickOf : Instr → Option (CoreId × W32)
  | .registerWrite k insn _ _ _ _ => some (k, insn)
  | .mbxTxgo k insn _ => some (k, insn)
  | .mbxRxpop k insn _ => some (k, insn)
  | .add k p rd rs1 rs2 => some (k, encR 0x00 p rd.val rs1.val rs2.val 0 0)
  | .sub k p rd rs1 rs2 => some (k, encR 0x00 p rd.val rs1.val rs2.val 0 1)
  | .and k p rd rs1 rs2 => some (k, encR 0x00 p rd.val rs1.val rs2.val 0 2)
  | .or k p rd rs1 rs2 => some (k, encR 0x00 p rd.val rs1.val rs2.val 0 3)
  | .xor k p rd rs1 rs2 => some (k, encR 0x00 p rd.val rs1.val rs2.val 0 4)
  | .shl k p rd rs1 rs2 => some (k, encR 0x00 p rd.val rs1.val rs2.val 0 5)
  | .shr k p rd rs1 rs2 => some (k, encR 0x00 p rd.val rs1.val rs2.val 0 6)
  | .sar k p rd rs1 rs2 => some (k, encR 0x00 p rd.val rs1.val rs2.val 0 7)
  | .lts k p rd rs1 rs2 => some (k, encR 0x00 p rd.val rs1.val rs2.val 0 8)
  | .ltu k p rd rs1 rs2 => some (k, encR 0x00 p rd.val rs1.val rs2.val 0 9)
  | .min k p rd rs1 rs2 => some (k, encR 0x00 p rd.val rs1.val rs2.val 0 10)
  | .max k p rd rs1 rs2 => some (k, encR 0x00 p rd.val rs1.val rs2.val 0 11)
  | .minu k p rd rs1 rs2 => some (k, encR 0x00 p rd.val rs1.val rs2.val 0 12)
  | .maxu k p rd rs1 rs2 => some (k, encR 0x00 p rd.val rs1.val rs2.val 0 13)
  | .rol k p rd rs1 rs2 => some (k, encR 0x00 p rd.val rs1.val rs2.val 0 14)
  | .ror k p rd rs1 rs2 => some (k, encR 0x00 p rd.val rs1.val rs2.val 0 15)
  | .clz k p rd rs1 => some (k, encR 0x00 p rd.val rs1.val 0 0 16)
  | .ctz k p rd rs1 => some (k, encR 0x00 p rd.val rs1.val 0 0 17)
  | .popc k p rd rs1 => some (k, encR 0x00 p rd.val rs1.val 0 0 18)
  | .par k p rd rs1 => some (k, encR 0x00 p rd.val rs1.val 0 0 19)
  | .brev k p rd rs1 => some (k, encR 0x00 p rd.val rs1.val 0 0 20)
  | .brevb k p rd rs1 => some (k, encR 0x00 p rd.val rs1.val 0 0 21)
  | .bswap k p rd rs1 => some (k, encR 0x00 p rd.val rs1.val 0 0 22)
  | .andn k p rd rs1 rs2 => some (k, encR 0x00 p rd.val rs1.val rs2.val 0 23)
  | .add32 k p rd rs1 rs2 => some (k, encR 0x0D p rd.val rs1.val rs2.val 0 0)
  | .sub32 k p rd rs1 rs2 => some (k, encR 0x0D p rd.val rs1.val rs2.val 0 1)
  | .and32 k p rd rs1 rs2 => some (k, encR 0x0D p rd.val rs1.val rs2.val 0 2)
  | .or32 k p rd rs1 rs2 => some (k, encR 0x0D p rd.val rs1.val rs2.val 0 3)
  | .xor32 k p rd rs1 rs2 => some (k, encR 0x0D p rd.val rs1.val rs2.val 0 4)
  | .shl32 k p rd rs1 rs2 => some (k, encR 0x0D p rd.val rs1.val rs2.val 0 5)
  | .shr32 k p rd rs1 rs2 => some (k, encR 0x0D p rd.val rs1.val rs2.val 0 6)
  | .sar32 k p rd rs1 rs2 => some (k, encR 0x0D p rd.val rs1.val rs2.val 0 7)
  | .lts32 k p rd rs1 rs2 => some (k, encR 0x0D p rd.val rs1.val rs2.val 0 8)
  | .ltu32 k p rd rs1 rs2 => some (k, encR 0x0D p rd.val rs1.val rs2.val 0 9)
  | .addi k p rd rs1 imm => some (k, encI 0x01 p rd.val rs1.val imm)
  | .andi k p rd rs1 imm => some (k, encI 0x02 p rd.val rs1.val imm)
  | .ori k p rd rs1 imm => some (k, encI 0x03 p rd.val rs1.val imm)
  | .xori k p rd rs1 imm => some (k, encI 0x04 p rd.val rs1.val imm)
  | .ltsi k p rd rs1 imm => some (k, encI 0x06 p rd.val rs1.val imm)
  | .ltui k p rd rs1 imm => some (k, encI 0x07 p rd.val rs1.val imm)
  | .klo k p rd imm => some (k, encU 0x08 p rd.val imm)
  | .kpc k p rd imm => some (k, encU 0x09 p rd.val imm)
  | .lsi k p rd imm => some (k, encU 0x0A p rd.val (imm.zeroExtend 20))
  | .mul k p rd rs1 rs2 => some (k, encR 0x0C p rd.val rs1.val rs2.val 0 0)
  | .mulhiSs k p rd rs1 rs2 => some (k, encR 0x0C p rd.val rs1.val rs2.val 0 1)
  | .mulhiUu k p rd rs1 rs2 => some (k, encR 0x0C p rd.val rs1.val rs2.val 0 2)
  | .mulhiSu k p rd rs1 rs2 => some (k, encR 0x0C p rd.val rs1.val rs2.val 0 3)
  | .mulW k p rd rs1 rs2 => some (k, encR 0x0C p rd.val rs1.val rs2.val 0 4)
  | .muladd k p rd rs1 rs2 rs3 => some (k, encR 0x0C p rd.val rs1.val rs2.val rs3.val 5)
  | .divs k p rd rs1 rs2 => some (k, encR 0x0C p rd.val rs1.val rs2.val 0 8)
  | .divu k p rd rs1 rs2 => some (k, encR 0x0C p rd.val rs1.val rs2.val 0 9)
  | .mods k p rd rs1 rs2 => some (k, encR 0x0C p rd.val rs1.val rs2.val 0 10)
  | .modu k p rd rs1 rs2 => some (k, encR 0x0C p rd.val rs1.val rs2.val 0 11)
  | .divsW k p rd rs1 rs2 => some (k, encR 0x0C p rd.val rs1.val rs2.val 0 12)
  | .divuW k p rd rs1 rs2 => some (k, encR 0x0C p rd.val rs1.val rs2.val 0 13)
  | .modsW k p rd rs1 rs2 => some (k, encR 0x0C p rd.val rs1.val rs2.val 0 14)
  | .moduW k p rd rs1 rs2 => some (k, encR 0x0C p rd.val rs1.val rs2.val 0 15)
  | .lbs k p rd rs1 imm => some (k, encI 0x10 p rd.val rs1.val imm)
  | .lbz k p rd rs1 imm => some (k, encI 0x11 p rd.val rs1.val imm)
  | .lhs k p rd rs1 imm => some (k, encI 0x12 p rd.val rs1.val imm)
  | .lhz k p rd rs1 imm => some (k, encI 0x13 p rd.val rs1.val imm)
  | .lws k p rd rs1 imm => some (k, encI 0x14 p rd.val rs1.val imm)
  | .lwz k p rd rs1 imm => some (k, encI 0x15 p rd.val rs1.val imm)
  | .ld k p rd rs1 imm => some (k, encI 0x16 p rd.val rs1.val imm)
  | .lv k p rd rs1 imm => some (k, encI 0x17 p rd.val rs1.val imm)
  | .sb k p rs2 rs1 imm => some (k, encI 0x18 p rs2.val rs1.val imm)
  | .sh k p rs2 rs1 imm => some (k, encI 0x19 p rs2.val rs1.val imm)
  | .sw k p rs2 rs1 imm => some (k, encI 0x1A p rs2.val rs1.val imm)
  | .sd k p rs2 rs1 imm => some (k, encI 0x1B p rs2.val rs1.val imm)
  | .sv k p rs2 rs1 imm => some (k, encI 0x1C p rs2.val rs1.val imm)
  | .ldf k p sz rd rs1 off => some (k, encFar 0x1D p sz rd.val rs1.val off)
  | .stf k p sz rs2 rs1 off => some (k, encFar 0x1E p sz rs2.val rs1.val off)
  | .ll k p d rd rs1 => some (k, encR 0x20 p rd.val rs1.val 0 0 (16 * b2n d))
  | .sc k p d rd rs1 rs2 => some (k, encR 0x20 p rd.val rs1.val rs2.val 0 (1 + 16 * b2n d))
  | .atswp k p d rd rs1 rs2 => some (k, encR 0x20 p rd.val rs1.val rs2.val 0 (2 + 16 * b2n d))
  | .atadd k p d rd rs1 rs2 => some (k, encR 0x20 p rd.val rs1.val rs2.val 0 (3 + 16 * b2n d))
  | .atand k p d rd rs1 rs2 => some (k, encR 0x20 p rd.val rs1.val rs2.val 0 (4 + 16 * b2n d))
  | .ator k p d rd rs1 rs2 => some (k, encR 0x20 p rd.val rs1.val rs2.val 0 (5 + 16 * b2n d))
  | .atmin k p d rd rs1 rs2 => some (k, encR 0x20 p rd.val rs1.val rs2.val 0 (6 + 16 * b2n d))
  | .atmax k p d rd rs1 rs2 => some (k, encR 0x20 p rd.val rs1.val rs2.val 0 (7 + 16 * b2n d))
  | .atcas k p d rd rs1 rs2 rs3 => some (k, encR 0x20 p rd.val rs1.val rs2.val rs3.val (8 + 16 * b2n d))
  | .fence k p => some (k, encR 0x21 p 0 0 0 0 0)
  | .fenceSl k p => some (k, encR 0x21 p 0 0 0 0 1)
  | .fenceSs k p => some (k, encR 0x21 p 0 0 0 0 2)
  | .fenceLl k p => some (k, encR 0x21 p 0 0 0 0 3)
  | .ifence k p => some (k, encR 0x21 p 0 0 0 0 4)
  | .icinv k p rs1 => some (k, encR 0x21 p 0 rs1.val 0 0 5)
  | .lbar k p => some (k, encR 0x21 p 0 0 0 0 6)
  | .waitlG k p rs1 => some (k, encR 0x21 p 0 rs1.val 0 0 7)
  | .waitlV k p rs1 => some (k, encR 0x21 p 0 rs1.val 0 0 8)
  | .beq k p rs1 rs2 off => some (k, encI 0x24 p rs1.val rs2.val off)
  | .bne k p rs1 rs2 off => some (k, encI 0x25 p rs1.val rs2.val off)
  | .blt k p rs1 rs2 off => some (k, encI 0x26 p rs1.val rs2.val off)
  | .bge k p rs1 rs2 off => some (k, encI 0x27 p rs1.val rs2.val off)
  | .blo k p rs1 rs2 off => some (k, encI 0x28 p rs1.val rs2.val off)
  | .bhs k p rs1 rs2 off => some (k, encI 0x29 p rs1.val rs2.val off)
  | .jl k p rd off => some (k, encU 0x2A p rd.val off)
  | .jlr k p rd rs1 imm => some (k, encI 0x2B p rd.val rs1.val imm)
  | .fadd k p d rd rs1 rs2 => some (k, encF p d rd.val rs1.val rs2.val 0)
  | .fsub k p d rd rs1 rs2 => some (k, encF p d rd.val rs1.val rs2.val 1)
  | .fmul k p d rd rs1 rs2 => some (k, encF p d rd.val rs1.val rs2.val 2)
  | .fdiv k p d rd rs1 rs2 => some (k, encF p d rd.val rs1.val rs2.val 3)
  | .fsqrt k p d rd rs1 => some (k, encF p d rd.val rs1.val 0 4)
  | .fmin k p d rd rs1 rs2 => some (k, encF p d rd.val rs1.val rs2.val 5)
  | .fmax k p d rd rs1 rs2 => some (k, encF p d rd.val rs1.val rs2.val 6)
  | .fcps k p d rd rs1 rs2 => some (k, encF p d rd.val rs1.val rs2.val 7)
  | .fcvtp k p d rd rs1 => some (k, encF p d rd.val rs1.val 0 8)
  | .ftoi k p d rd rs1 => some (k, encF p d rd.val rs1.val 0 9)
  | .ffromi k p d rd rs1 => some (k, encF p d rd.val rs1.val 0 10)
  | .fbitsG k p d rd rs1 => some (k, encF p d rd.val rs1.val 0 11)
  | .fbitsV k p d rd rs1 => some (k, encF p d rd.val rs1.val 0 12)
  | .fceq k p d rd rs1 rs2 => some (k, encF p d rd.val rs1.val rs2.val 13)
  | .fclt k p d rd rs1 rs2 => some (k, encF p d rd.val rs1.val rs2.val 14)
  | .fcle k p d rd rs1 rs2 => some (k, encF p d rd.val rs1.val rs2.val 15)
  | .fmac k p d rd rs1 rs2 rs3 => some (k, encR 0x2D p rd.val rs1.val rs2.val rs3.val (0 + 16 * b2n d))
  | .fmsc k p d rd rs1 rs2 rs3 => some (k, encR 0x2D p rd.val rs1.val rs2.val rs3.val (1 + 16 * b2n d))
  | .fnmac k p d rd rs1 rs2 rs3 => some (k, encR 0x2D p rd.val rs1.val rs2.val rs3.val (2 + 16 * b2n d))
  | .fnmsc k p d rd rs1 rs2 rs3 => some (k, encR 0x2D p rd.val rs1.val rs2.val rs3.val (3 + 16 * b2n d))
  | .vectorAdd k p lane rd rs1 rs2 => some (k, encR 0x2E p rd.val rs1.val rs2.val 0 (0 + 8 * laneCode lane))
  | .vectorSub k p lane rd rs1 rs2 => some (k, encR 0x2E p rd.val rs1.val rs2.val 0 (1 + 8 * laneCode lane))
  | .vectorMul k p lane rd rs1 rs2 => some (k, encR 0x2E p rd.val rs1.val rs2.val 0 (2 + 8 * laneCode lane))
  | .vectorMin k p lane rd rs1 rs2 => some (k, encR 0x2E p rd.val rs1.val rs2.val 0 (3 + 8 * laneCode lane))
  | .vectorMax k p lane rd rs1 rs2 => some (k, encR 0x2E p rd.val rs1.val rs2.val 0 (4 + 8 * laneCode lane))
  | .vectorAnd k p lane rd rs1 rs2 => some (k, encR 0x2E p rd.val rs1.val rs2.val 0 (5 + 8 * laneCode lane))
  | .vectorOr k p lane rd rs1 rs2 => some (k, encR 0x2E p rd.val rs1.val rs2.val 0 (6 + 8 * laneCode lane))
  | .vectorXor k p lane rd rs1 rs2 => some (k, encR 0x2E p rd.val rs1.val rs2.val 0 (7 + 8 * laneCode lane))
  | .vfmaS4 k p rd rs1 rs2 rs3 => some (k, encR 0x2F p rd.val rs1.val rs2.val rs3.val 0)
  | .vfnmaS4 k p rd rs1 rs2 rs3 => some (k, encR 0x2F p rd.val rs1.val rs2.val rs3.val 1)
  | .vshuf k p rd rs1 rs2 => some (k, encR 0x2F p rd.val rs1.val rs2.val 0 2)
  | .vsplatW k p rd rs1 => some (k, encR 0x2F p rd.val rs1.val 0 0 3)
  | .vextW k p rd rs1 lane' => some (k, encR 0x2F p rd.val rs1.val lane'.val 0 4)
  | .tmov k p cd cs => some (k, encR 0x30 p cd.val cs.val 0 0 0)
  | .tbase k p rd cs => some (k, encR 0x30 p rd.val cs.val 0 0 1)
  | .tlen k p rd cs => some (k, encR 0x30 p rd.val cs.val 0 0 2)
  | .tperm k p rd cs => some (k, encR 0x30 p rd.val cs.val 0 0 3)
  | .ttag k p rd cs => some (k, encR 0x30 p rd.val cs.val 0 0 4)
  | .towner k p rd cs => some (k, encR 0x30 p rd.val cs.val 0 0 5)
  | .tnarrow k p cd cs rs2 rs3 => some (k, encR 0x30 p cd.val cs.val rs2.val rs3.val 6)
  | .ttrim k p cd cs rs2 => some (k, encR 0x30 p cd.val cs.val rs2.val 0 7)
  | .tshut k p cd cs rs2 => some (k, encR 0x30 p cd.val cs.val rs2.val 0 8)
  | .topen k p cd cs rs2 => some (k, encR 0x30 p cd.val cs.val rs2.val 0 9)
  | .tvoid k p cd cs => some (k, encR 0x30 p cd.val cs.val 0 0 10)
  | .tjump k p cd cs rs2 => some (k, encR 0x30 p cd.val cs.val rs2.val 0 11)
  | .tpcc k p cd => some (k, encR 0x30 p cd.val 0 0 0 12)
  | .twithin k p rd cs1 cs2 => some (k, encR 0x30 p rd.val cs1.val cs2.val 0 13)
  | .tld k p cd rs1 imm => some (k, encI 0x31 p cd.val rs1.val imm)
  | .tst k p cs2 rs1 imm => some (k, encI 0x32 p cs2.val rs1.val imm)
  | .syscall k p => some (k, encR 0x33 p 0 0 0 0 0)
  | .brk k p => some (k, encR 0x33 p 0 0 0 0 7)
  | .retx k p => some (k, encR 0x33 p 0 0 0 0 1)
  | .srr k p rd n => some (k, encR 0x33 p rd.val n.val 0 0 2)
  | .srw k p n rs1 => some (k, encR 0x33 p n.val rs1.val 0 0 3)
  | .create k p cd cs rs2 rs3 => some (k, encR 0x33 p cd.val cs.val rs2.val rs3.val 4)
  | .brand k p cd cs rs2 rs3 => some (k, encR 0x33 p cd.val cs.val rs2.val rs3.val 4)
  | .tlbinv k p rs1 rs2 => some (k, encR 0x33 p 0 rs1.val rs2.val 0 5)
  | .tlbinvall k p => some (k, encR 0x33 p 0 0 0 0 6)
  | .crcs8 k p rd rs1 rs2 => some (k, encR 0x34 p rd.val rs1.val rs2.val 0 0)
  | .crcs16 k p rd rs1 rs2 => some (k, encR 0x34 p rd.val rs1.val rs2.val 0 1)
  | .crcs32 k p rd rs1 rs2 => some (k, encR 0x34 p rd.val rs1.val rs2.val 0 2)
  | .crcs64 k p rd rs1 rs2 => some (k, encR 0x34 p rd.val rs1.val rs2.val 0 3)
  | .movb k p rd rs1 rs2 => some (k, encR 0x35 p rd.val rs1.val rs2.val 0 0)
  | .fillb k p rd rs1 rs2 => some (k, encR 0x35 p rd.val rs1.val rs2.val 0 1)
  | .cmpb k p rd rs1 rs2 => some (k, encR 0x35 p rd.val rs1.val rs2.val 0 2)
  | .scanb k p rd rs1 rs2 => some (k, encR 0x35 p rd.val rs1.val rs2.val 0 3)
  | .crcb k p rd rs1 rs2 rs3 => some (k, encR 0x35 p rd.val rs1.val rs2.val rs3.val 4)
  | .waitph k p rd rs1 slot => some (k, encP p rd.val rs1.val 0 slot.val 0)
  | .stph k p rd rs1 rs2 slot => some (k, encP p rd.val rs1.val rs2.val slot.val 1)
  | .customerRoutine k p xop rd rs1 rs2 imm4 => some (k, encX p rd.val rs1.val rs2.val imm4.toNat xop.val)
  | .flrSwset k insn _ => some (k, insn)
  | .flrPend k insn _ _ => some (k, insn)
  | .flrActv k insn _ _ => some (k, insn)
  | .flrCorewWovrcnt k insn _ _ => some (k, insn)
  | .pcrLoqFault k insn _ _ => some (k, insn)
  | .flush k insn _ _ => some (k, insn)
  | .l3dErrcnt0 k insn _ => some (k, insn)
  | .l3dErrcnt1 k insn _ => some (k, insn)
  | .l3dErrcnt2 k insn _ => some (k, insn)
  | .l3dErrsat k insn _ => some (k, insn)
  | .mcxErrcnt0 k insn _ => some (k, insn)
  | .mcxErrcnt1 k insn _ => some (k, insn)
  | .mcxErrcnt2 k insn _ => some (k, insn)
  | .mcxErrcnt3 k insn _ => some (k, insn)
  | .mcxErrsat k insn _ => some (k, insn)
  | .mcxEvt k insn _ => some (k, insn)
  | .mcxHwmclr k insn _ => some (k, insn)
  | .swEdge k insn _ _ => some (k, insn)
  | .swSet k insn _ _ => some (k, insn)
  | .trackerRestart k insn _ _ => some (k, insn)
  | .arm k insn _ _ => some (k, insn)
  | .softwareCancel k insn _ _ => some (k, insn)
  | .ptbHwmclr k insn _ => some (k, insn)
  | .ptbStphDisc k insn _ => some (k, insn)
  | .run k insn _ _ => some (k, insn)
  | .countWrite k insn _ _ => some (k, insn)
  | .liveCompareWrite k insn _ _ _ => some (k, insn)
  | .syncStart k insn _ => some (k, insn)
  | .syncStop k insn _ => some (k, insn)
  | .capRead k insn _ _ _ _ => some (k, insn)
  | .wdtCtlWrite k insn _ => some (k, insn)
  | .service k insn _ => some (k, insn)
  | .pioSet k insn _ _ => some (k, insn)
  | .pioClr k insn _ _ => some (k, insn)
  | .pioTgl k insn _ _ => some (k, insn)
  | .pinFunctionChange k insn _ _ => some (k, insn)
  | .uartTransmit k insn _ _ => some (k, insn)
  | .uartReceivePop k insn _ _ => some (k, insn)
  | .spiTransmit k insn _ => some (k, insn)
  | .spiReceivePop k insn _ => some (k, insn)
  | .i2cCommand k insn _ => some (k, insn)
  | .i2cRxdataPop k insn _ => some (k, insn)
  | .ethTxcmd k insn _ => some (k, insn)
  | .mdioGo k insn _ => some (k, insn)
  | .ethErrcnt k insn _ => some (k, insn)
  | .traceRun k insn _ => some (k, insn)
  | .traceStop k insn _ => some (k, insn)
  | .swtrigGo k insn _ => some (k, insn)
  | _ => none

/-- The channel of a command that acts on one channel alone: every instruction of a core, every event of a core or channel, every
message between its caches and its memory. -/
def siteOf : Instr → Option (Fin 4)
  | .registerWrite k _ _ _ _ _ => some k.ch
  | .mbxTxgo k _ _ => some k.ch
  | .mbxRxpop k _ _ => some k.ch
  | .add k _ _ _ _ => some k.ch
  | .sub k _ _ _ _ => some k.ch
  | .and k _ _ _ _ => some k.ch
  | .or k _ _ _ _ => some k.ch
  | .xor k _ _ _ _ => some k.ch
  | .shl k _ _ _ _ => some k.ch
  | .shr k _ _ _ _ => some k.ch
  | .sar k _ _ _ _ => some k.ch
  | .lts k _ _ _ _ => some k.ch
  | .ltu k _ _ _ _ => some k.ch
  | .min k _ _ _ _ => some k.ch
  | .max k _ _ _ _ => some k.ch
  | .minu k _ _ _ _ => some k.ch
  | .maxu k _ _ _ _ => some k.ch
  | .rol k _ _ _ _ => some k.ch
  | .ror k _ _ _ _ => some k.ch
  | .clz k _ _ _ => some k.ch
  | .ctz k _ _ _ => some k.ch
  | .popc k _ _ _ => some k.ch
  | .par k _ _ _ => some k.ch
  | .brev k _ _ _ => some k.ch
  | .brevb k _ _ _ => some k.ch
  | .bswap k _ _ _ => some k.ch
  | .andn k _ _ _ _ => some k.ch
  | .add32 k _ _ _ _ => some k.ch
  | .sub32 k _ _ _ _ => some k.ch
  | .and32 k _ _ _ _ => some k.ch
  | .or32 k _ _ _ _ => some k.ch
  | .xor32 k _ _ _ _ => some k.ch
  | .shl32 k _ _ _ _ => some k.ch
  | .shr32 k _ _ _ _ => some k.ch
  | .sar32 k _ _ _ _ => some k.ch
  | .lts32 k _ _ _ _ => some k.ch
  | .ltu32 k _ _ _ _ => some k.ch
  | .addi k _ _ _ _ => some k.ch
  | .andi k _ _ _ _ => some k.ch
  | .ori k _ _ _ _ => some k.ch
  | .xori k _ _ _ _ => some k.ch
  | .shli k _ _ _ _ => some k.ch
  | .shri k _ _ _ _ => some k.ch
  | .sari k _ _ _ _ => some k.ch
  | .rori k _ _ _ _ => some k.ch
  | .ltsi k _ _ _ _ => some k.ch
  | .ltui k _ _ _ _ => some k.ch
  | .klo k _ _ _ => some k.ch
  | .kpc k _ _ _ => some k.ch
  | .lsi k _ _ _ => some k.ch
  | .mul k _ _ _ _ => some k.ch
  | .mulhiSs k _ _ _ _ => some k.ch
  | .mulhiUu k _ _ _ _ => some k.ch
  | .mulhiSu k _ _ _ _ => some k.ch
  | .mulW k _ _ _ _ => some k.ch
  | .muladd k _ _ _ _ _ => some k.ch
  | .divs k _ _ _ _ => some k.ch
  | .divu k _ _ _ _ => some k.ch
  | .mods k _ _ _ _ => some k.ch
  | .modu k _ _ _ _ => some k.ch
  | .divsW k _ _ _ _ => some k.ch
  | .divuW k _ _ _ _ => some k.ch
  | .modsW k _ _ _ _ => some k.ch
  | .moduW k _ _ _ _ => some k.ch
  | .longOperationComplete k _ => some k.ch
  | .longOperationFault k => some k.ch
  | .lbs k _ _ _ _ => some k.ch
  | .lbz k _ _ _ _ => some k.ch
  | .lhs k _ _ _ _ => some k.ch
  | .lhz k _ _ _ _ => some k.ch
  | .lws k _ _ _ _ => some k.ch
  | .lwz k _ _ _ _ => some k.ch
  | .ld k _ _ _ _ => some k.ch
  | .lv k _ _ _ _ => some k.ch
  | .sb k _ _ _ _ => some k.ch
  | .sh k _ _ _ _ => some k.ch
  | .sw k _ _ _ _ => some k.ch
  | .sd k _ _ _ _ => some k.ch
  | .sv k _ _ _ _ => some k.ch
  | .storeBufferDrain k => some k.ch
  | .ldf k _ _ _ _ _ => some k.ch
  | .stf k _ _ _ _ _ => some k.ch
  | .farTimeout k _ => some k.ch
  | .ll k _ _ _ _ => some k.ch
  | .sc k _ _ _ _ _ => some k.ch
  | .llHoldLimit k => some k.ch
  | .atswp k _ _ _ _ _ => some k.ch
  | .atadd k _ _ _ _ _ => some k.ch
  | .atand k _ _ _ _ _ => some k.ch
  | .ator k _ _ _ _ _ => some k.ch
  | .atmin k _ _ _ _ _ => some k.ch
  | .atmax k _ _ _ _ _ => some k.ch
  | .atcas k _ _ _ _ _ _ => some k.ch
  | .fence k _ => some k.ch
  | .fenceSl k _ => some k.ch
  | .fenceSs k _ => some k.ch
  | .fenceLl k _ => some k.ch
  | .ifence k _ => some k.ch
  | .icinv k _ _ => some k.ch
  | .lbar k _ => some k.ch
  | .waitlG k _ _ => some k.ch
  | .waitlV k _ _ => some k.ch
  | .beq k _ _ _ _ => some k.ch
  | .bne k _ _ _ _ => some k.ch
  | .blt k _ _ _ _ => some k.ch
  | .bge k _ _ _ _ => some k.ch
  | .blo k _ _ _ _ => some k.ch
  | .bhs k _ _ _ _ => some k.ch
  | .jl k _ _ _ => some k.ch
  | .jlr k _ _ _ _ => some k.ch
  | .fadd k _ _ _ _ _ => some k.ch
  | .fsub k _ _ _ _ _ => some k.ch
  | .fmul k _ _ _ _ _ => some k.ch
  | .fdiv k _ _ _ _ _ => some k.ch
  | .fsqrt k _ _ _ _ => some k.ch
  | .fmin k _ _ _ _ _ => some k.ch
  | .fmax k _ _ _ _ _ => some k.ch
  | .fcps k _ _ _ _ _ => some k.ch
  | .fcvtp k _ _ _ _ => some k.ch
  | .ftoi k _ _ _ _ => some k.ch
  | .ffromi k _ _ _ _ => some k.ch
  | .fbitsG k _ _ _ _ => some k.ch
  | .fbitsV k _ _ _ _ => some k.ch
  | .fceq k _ _ _ _ _ => some k.ch
  | .fclt k _ _ _ _ _ => some k.ch
  | .fcle k _ _ _ _ _ => some k.ch
  | .fmac k _ _ _ _ _ _ => some k.ch
  | .fmsc k _ _ _ _ _ _ => some k.ch
  | .fnmac k _ _ _ _ _ _ => some k.ch
  | .fnmsc k _ _ _ _ _ _ => some k.ch
  | .vectorAdd k _ _ _ _ _ => some k.ch
  | .vectorSub k _ _ _ _ _ => some k.ch
  | .vectorMul k _ _ _ _ _ => some k.ch
  | .vectorMin k _ _ _ _ _ => some k.ch
  | .vectorMax k _ _ _ _ _ => some k.ch
  | .vectorAnd k _ _ _ _ _ => some k.ch
  | .vectorOr k _ _ _ _ _ => some k.ch
  | .vectorXor k _ _ _ _ _ => some k.ch
  | .vfmaS4 k _ _ _ _ _ => some k.ch
  | .vfnmaS4 k _ _ _ _ _ => some k.ch
  | .vshuf k _ _ _ _ => some k.ch
  | .vsplatW k _ _ _ => some k.ch
  | .vextW k _ _ _ _ => some k.ch
  | .tmov k _ _ _ => some k.ch
  | .tbase k _ _ _ => some k.ch
  | .tlen k _ _ _ => some k.ch
  | .tperm k _ _ _ => some k.ch
  | .ttag k _ _ _ => some k.ch
  | .towner k _ _ _ => some k.ch
  | .tnarrow k _ _ _ _ _ => some k.ch
  | .ttrim k _ _ _ _ => some k.ch
  | .tshut k _ _ _ _ => some k.ch
  | .topen k _ _ _ _ => some k.ch
  | .tvoid k _ _ _ => some k.ch
  | .tjump k _ _ _ _ => some k.ch
  | .tpcc k _ _ => some k.ch
  | .twithin k _ _ _ _ => some k.ch
  | .tld k _ _ _ _ => some k.ch
  | .tst k _ _ _ _ => some k.ch
  | .syscall k _ => some k.ch
  | .brk k _ => some k.ch
  | .retx k _ => some k.ch
  | .srr k _ _ _ => some k.ch
  | .srw k _ _ _ => some k.ch
  | .create k _ _ _ _ _ => some k.ch
  | .brand k _ _ _ _ _ => some k.ch
  | .tlbinv k _ _ _ => some k.ch
  | .tlbinvall k _ => some k.ch
  | .crcs8 k _ _ _ _ => some k.ch
  | .crcs16 k _ _ _ _ => some k.ch
  | .crcs32 k _ _ _ _ => some k.ch
  | .crcs64 k _ _ _ _ => some k.ch
  | .movb k _ _ _ _ => some k.ch
  | .fillb k _ _ _ _ => some k.ch
  | .cmpb k _ _ _ _ => some k.ch
  | .scanb k _ _ _ _ => some k.ch
  | .crcb k _ _ _ _ _ => some k.ch
  | .waitph k _ _ _ _ => some k.ch
  | .waitphTimeout k => some k.ch
  | .stph k _ _ _ _ _ => some k.ch
  | .customerRoutine k _ _ _ _ _ _ => some k.ch
  | .undefinedInstruction k _ => some k.ch
  | .interruptEntry k => some k.ch
  | .windowLimit k => some k.ch
  | .flrSwset k _ _ => some k.ch
  | .flrPend k _ _ _ => some k.ch
  | .flrActv k _ _ _ => some k.ch
  | .flrCorewWovrcnt k _ _ _ => some k.ch
  | .pcrLoqFault k _ _ _ => some k.ch
  | .flush k _ _ _ => some k.ch
  | .l3dErrcnt0 k _ _ => some k.ch
  | .l3dErrcnt1 k _ _ => some k.ch
  | .l3dErrcnt2 k _ _ => some k.ch
  | .l3dErrsat k _ _ => some k.ch
  | .mcxErrcnt0 k _ _ => some k.ch
  | .mcxErrcnt1 k _ _ => some k.ch
  | .mcxErrcnt2 k _ _ => some k.ch
  | .mcxErrcnt3 k _ _ => some k.ch
  | .mcxErrsat k _ _ => some k.ch
  | .mcxEvt k _ _ => some k.ch
  | .mcxHwmclr k _ _ => some k.ch
  | .swEdge k _ _ _ => some k.ch
  | .swSet k _ _ _ => some k.ch
  | .trackerRestart k _ _ _ => some k.ch
  | .arm k _ _ _ => some k.ch
  | .softwareCancel k _ _ _ => some k.ch
  | .ptbHwmclr k _ _ => some k.ch
  | .ptbStphDisc k _ _ => some k.ch
  | .run k _ _ _ => some k.ch
  | .countWrite k _ _ _ => some k.ch
  | .liveCompareWrite k _ _ _ _ => some k.ch
  | .syncStart k _ _ => some k.ch
  | .syncStop k _ _ => some k.ch
  | .capRead k _ _ _ _ _ => some k.ch
  | .wdtCtlWrite k _ _ => some k.ch
  | .service k _ _ => some k.ch
  | .pioSet k _ _ _ => some k.ch
  | .pioClr k _ _ _ => some k.ch
  | .pioTgl k _ _ _ => some k.ch
  | .pinFunctionChange k _ _ _ => some k.ch
  | .uartTransmit k _ _ _ => some k.ch
  | .uartReceivePop k _ _ _ => some k.ch
  | .spiTransmit k _ _ => some k.ch
  | .spiReceivePop k _ _ => some k.ch
  | .i2cCommand k _ _ => some k.ch
  | .i2cRxdataPop k _ _ => some k.ch
  | .ethTxcmd k _ _ => some k.ch
  | .mdioGo k _ _ => some k.ch
  | .ethErrcnt k _ _ => some k.ch
  | .counterOverflow k _ => some k.ch
  | .traceRun k _ _ => some k.ch
  | .traceStop k _ _ => some k.ch
  | .swtrigGo k _ _ => some k.ch
  | .halt k => some k.ch
  | .patchCtlWrite k _ _ _ _ => some k.ch
  | .syncCycleLimit k => some k.ch
  | .modeTransitionDone c _ _ => some c
  | .dewWake c _ => some c
  | .channelReset c _ => some c
  | .snuffResponse c => some c
  | .rds c _ _ => some c
  | .rdo c _ _ => some c
  | .upg c _ _ => some c
  | .evd c _ _ => some c
  | .evn c _ _ => some c
  | .amo c _ _ _ _ _ _ => some c
  | .ucr c _ _ _ => some c
  | .ucw c _ _ _ _ => some c
  | .sns c _ _ => some c
  | .sni c _ _ => some c
  | .snq c _ _ _ => some c
  | .rspD c _ _ => some c
  | .rspN c _ _ => some c
  | .rspX c _ _ => some c
  | .dat c _ _ => some c
  | .ack c _ _ => some c
  | .mrd c _ => some c
  | .mwr c _ => some c
  | .cxlReadResponse c _ _ _ => some c
  | .homeTimeout c _ => some c
  | .imbalanceWindow c => some c
  | .flitCrcFailure c => some c
  | .linkDown c => some c
  | .getEventRecords c _ => some c
  | .encoderCount c _ _ _ => some c
  | .indexEdge c _ _ => some c
  | .pulseEdge c _ _ => some c
  | .zeroCrossing c _ _ => some c
  | .ringPhaseSample c _ _ _ _ _ => some c
  | .missingEdge c _ => some c
  | .holdoverExpiry c _ => some c
  | .slotFiring c _ _ => some c
  | .deadline c _ => some c
  | .timerZero c _ => some c
  | .timerPeak c _ => some c
  | .compareMatch c _ _ => some c
  | .capture c _ _ _ => some c
  | .watchdogWarning c => some c
  | .watchdogExpiry c => some c
  | .pinEdge c _ _ => some c
  | .characterReceived c _ _ _ _ _ => some c
  | .characterSent c _ => some c
  | .rxTimeout c _ => some c
  | .spiFrameDone c _ => some c
  | .i2cByteDone c _ _ => some c
  | .arbitrationLost c => some c
  | .stretchTimeout c => some c
  | .frameSent c => some c
  | .frameReceived c _ _ => some c
  | .linkChange c _ _ _ => some c
  | .mdioDone c _ => some c
  | .trigger c _ => some c
  | .postEnd c => some c
  | .traceStall c => some c
  | .traceStallEnd c => some c
  | .cxlWriteCompletion c _ _ => some c
  | .heldResponseDelivery c _ => some c
  | .deadTimeEnd c _ _ _ => some c
  | .serviceGapExpiry c => some c
  | .roomReturns c => some c
  | _ => none

end Sys2Proof.Machine
end

