-- ==== Sys2Proof/Safety.lean ====
section
/-! DEFINITION. The terms claims are stated in: the canonical form of memory, the invariant of a Mantle table, what it means for a
Wick instruction to issue and to retire, and what an access needs to reach its bytes. -/

namespace Sys2Proof.Machine

/-! Memory. -/

/-- An addressed memory: listed bytes in rising order of address. -/
abbrev Memory := List Host.Cell

/-- The canonical form: addresses strictly rising, no entry 0, which is what an unlisted address reads as. -/
def Memory.wf (m : Memory) : Bool := spWf 0#8 m

/-- One byte of a memory. -/
def Memory.byte (m : Memory) (a : Nat) : Byte := spGet 0#8 m a

/-- The addressed memories of a channel: Calm store and HDM. -/
def Chan.memoriesWf (ch : Chan) : Bool := Memory.wf ch.calm && Memory.wf ch.cxl

/-! The Mantle table (R201, R202). -/

/-- An entry other than 0 stands below its parent: a lower identity, a class not below the parent's and never 3, one deeper, at most 8. -/
def Mantle.below (t : MantleTable) (i : Nat) (e : Mantle) : Prop :=
  e.parent.toNat < i ∧ ∃ q, t[e.parent.toNat]? = some q ∧ q.cls.toNat ≤ e.cls.toNat ∧ e.cls ≠ 3#2 ∧ e.depth = q.depth + 1 ∧ e.depth ≤ 8

/-- A Mantle table as every run leaves it: entry 0 is Mantle 0x000, Open, depth 1; at most 4,096 entries; every other below its parent. -/
def MantleTable.Sound (t : MantleTable) : Prop :=
  t[0]? = some { parent := 0#12, cls := 0#2, depth := 1 } ∧ t.length ≤ 4096 ∧
  ∀ i e, 0 < i → t[i]? = some e → Mantle.below t i e

/-! A Wick instruction that issues, and one that retires. -/

/-- The channel in which the instruction of `word` issues on core k, as its own effect finds it; none when it does not issue. -/
def State.issued (s : State) (k : CoreId) (word : W32) : Option Chan :=
  match ({ s.ch k.ch with free := (s.ch k.ch).free + 1 } : Chan).issue (s.mtl k.ch) k.w word with
  | .go ch => some (ch.pairCycle k.w word)
  | .stop _ => none

/-- Core w of a channel in CALM stands before an instruction that nothing keeps from issuing: the channel runs, the core is not halted,
not stepped and does not wait, nothing of an earlier instruction is left (a slot A, an element, a hold, words fetched ahead, a freeze to come, the skid
of its counters), no fault of a long operation is due, no long operation and no buffered store is past its time, PCC covers the word with Execute, which lies below the save area in
an unpoisoned line, every matching unit is off, and no word of a micro or nano store has wrong parity (R34, R101, R192, R197, R227, R422,
R426). -/
structure Chan.Quiet (ch : Chan) (w : Fin 8) : Prop where
  calmMode : ch.mode = 4
  runs : ch.life = .up ∧ ch.snuff = none ∧ ch.trans = none
  free : ch.halted w = false ∧ (ch.core w).stepping = false ∧ (ch.core w).haltReq &&& 0x1C#8 = 0#8 ∧ (ch.core w).wait = .none
  noFault : ∀ i : Fin 32, ((ch.core w).loq[i]).st ≠ .faulted
  alone : (ch.core w).elem = none ∧ (ch.core w).slotA = none ∧ (ch.core w).shadow = 0 ∧ (ch.core w).woken = false ∧
    (ch.core w).hold = none ∧ (ch.core w).fetched = [] ∧ (ch.core w).ices = [] ∧ ch.skids w = false
  early : (∀ i : Fin 32, ((ch.core w).loq[i]).st = .pending → ∀ h, ((ch.core w).window (ch.core w).loq[i]).2 = some h → (ch.core w).cyc < h) ∧
    ∀ e ∈ (ch.core w).sb, (ch.core w).cyc < e.leave
  covered : (ch.core w).pcc.tag = true ∧ (ch.core w).pcc.latch = 0 ∧ (ch.core w).pcc.covers (ch.core w).pc.toNat 4 = true ∧ (ch.core w).pcc.has 2 = true
  inside : (ch.core w).pc.toNat < saveBase
  clean : setHas ch.calmPois ((ch.core w).pc.toNat / 64) = false
  units : ∀ u : Fin 32, ch.fld (pu u + 8) 0 2 = 0
  words : ch.badWords = []

/-- The registers in which commits are counted and traced: the counters of core w, its trace status, the status and drop count of
trace, the overruns of its window (R216, R440, R454). -/
def bookReg (w : Fin 8) (off : Nat) : Prop :=
  (pcr w 0x1000 ≤ off ∧ off < pcr w 0x1200) ∨ off = pcr w 0x2004 ∨ off = 0x200004 ∨ off = 0x200018 ∨ off = 0x41004 + w.val * 0x40

/-- `b` is `a` with what the counters, trace and the window of core w have noted since. -/
structure Chan.Counted (w : Fin 8) (a b : Chan) : Prop where
  rest : b = { a with
    cores := b.cores, regs := b.regs, trcBuf := b.trcBuf, trcHead := b.trcHead, trcDrops := b.trcDrops, postLeft := b.postLeft }
  others : ∀ v, v ≠ w → b.core v = a.core v
  own : b.core w = { a.core w with
    wact := (b.core w).wact, wrem := (b.core w).wrem, wovr := (b.core w).wovr, pmuCond := (b.core w).pmuCond,
    trcLast := (b.core w).trcLast, trcBrAt := (b.core w).trcBrAt, trcOn := (b.core w).trcOn, trcBr := (b.core w).trcBr,
    trcSync := (b.core w).trcSync, trcSince := (b.core w).trcSince, skid := (b.core w).skid, trcAddr := (b.core w).trcAddr, trcDrop := (b.core w).trcDrop,
    trcMtl := (b.core w).trcMtl }
  regs : ∀ off, ¬ bookReg w off → b.reg off = a.reg off

/-- `b` is `a` after the commit of an instruction of core w: everything stands as in `a` but PC, CYC, the pairing slot, the stages, the hold of
LL, the window, the predictor, and what the counters and trace note. -/
structure Chan.Passed (w : Fin 8) (a b : Chan) : Prop where
  rest : b = { a with
    cores := b.cores, regs := b.regs, trcBuf := b.trcBuf, trcHead := b.trcHead, trcDrops := b.trcDrops, postLeft := b.postLeft }
  others : ∀ v, v ≠ w → b.core v = a.core v
  own : b.core w = { a.core w with
    pc := (b.core w).pc, cyc := (b.core w).cyc, slotA := (b.core w).slotA, flight := (b.core w).flight, skip := (b.core w).skip,
    woken := (b.core w).woken, shadow := (b.core w).shadow, hold := (b.core w).hold, resv := (b.core w).resv,
    wact := (b.core w).wact, wrem := (b.core w).wrem, wovr := (b.core w).wovr, pred := (b.core w).pred, pmuCond := (b.core w).pmuCond,
    trcLast := (b.core w).trcLast, trcBrAt := (b.core w).trcBrAt, trcOn := (b.core w).trcOn, trcBr := (b.core w).trcBr,
    trcSync := (b.core w).trcSync, trcSince := (b.core w).trcSince, skid := (b.core w).skid, trcAddr := (b.core w).trcAddr, trcDrop := (b.core w).trcDrop,
    trcMtl := (b.core w).trcMtl }
  regs : ∀ off, ¬ bookReg w off → b.reg off = a.reg off

/-- The command `i`, a Wick instruction of core k that issues in `s`, completes: its own effect leaves channel `e`, then it commits in
`cost` issue cycles with `npc` the next PC, and nothing else of the device changes. -/
def Retires (i : Instr) (s : State) (k : CoreId) (e : Chan) (npc : W64) (cost : Nat) : Prop :=
  ∃ b : Chan, exec i s = .next (s.onChan k.ch fun _ => b.endStep (s.mtl k.ch) k.w) ∧ e.Passed k.w b ∧ (b.core k.w).pc = npc ∧ (b.core k.w).cyc = (e.core k.w).cyc + cost

/-- The same where the instruction's cost is not part of the claim. -/
def Retires' (i : Instr) (s : State) (k : CoreId) (e : Chan) (npc : W64) : Prop := ∃ cost, Retires i s k e npc cost

/-- The command answers a next state in which nothing but channel c has changed, and the channel has P. -/
def Leaves (i : Instr) (s : State) (c : Fin 4) (P : Chan → Prop) : Prop := ∃ t : Chan, exec i s = .next (s.onChan c fun _ => t) ∧ P t

/-- An element of a block-repeat instruction that has left channel `e`: with `fin` the instruction completes; else PC stays on it for
its next element (R78), and what a stepped core does at the end of a step follows. The first element costs one cycle more (R115). -/
def Element (i : Instr) (s : State) (k : CoreId) (word : W32) (e : Chan) (npc : W64) (cost : Nat) (fin : Bool) : Prop :=
  if fin then Retires i s k (e.onCore k.w fun c => { c with elem := none }) npc (cost + b2n (e.core k.w).elem.isNone)
  else Leaves i s k.ch fun t => ∃ b : Chan, t = b.endStep (s.mtl k.ch) k.w ∧ (b.core k.w).pc = (e.core k.w).pc ∧ (b.core k.w).g = (e.core k.w).g ∧
    (b.core k.w).sb = (e.core k.w).sb ∧ b.calm = e.calm ∧ (b.core k.w).elem = some word

/-- PC of core k in a channel. -/
def Chan.pcOf (ch : Chan) (k : CoreId) : W64 := (ch.core k.w).pc

/-- The exception an instruction raises is taken: nothing of its own effect but `e`, then the delivery with saved PC `saved`. -/
def Raises (i : Instr) (s : State) (k : CoreId) (e : Chan) (x : Exc) (saved : W64) (word : W32) : Prop :=
  exec i s = .next (s.onChan k.ch fun _ =>
    (e.onCore k.w fun c => { c with cyc := c.cyc + b2n (c.inPair word) }).trapNow (s.mtl k.ch) k.w x saved word)

/-! Accesses. -/

/-- An access that passes every check, needs no authority it lacks, and meets no watch unit: the channel after the checks, with the
parts it is performed in (R197, R200, R227, R427). -/
def Chan.granted (m : MantleTable) (ch : Chan) (w : Fin 8) (a : Access) (va : W64) (n : Nat) : Option (Chan × List Part) :=
  match ch.check m w (ch.rc w 0) a va n false with
  | (_, .error _) => none
  | (ch', .ok ps) =>
    match ch'.authority w (ch.rc w 0) a va ps with
    | some _ => none
    | none => match ch'.watched m w a va ps with | .inl c => some (c, ps) | .inr _ => none

/-- The same for an element of a block-repeat instruction, which no alignment rule splits (R78, R243). -/
def Chan.grantedElem (m : MantleTable) (ch : Chan) (w : Fin 8) (a : Access) (va : W64) (n : Nat) : Option (Chan × List Part) :=
  match ch.check m w (ch.rc w 0) a va n true with
  | (_, .error _) => none
  | (ch', .ok ps) =>
    match ch'.authority w (ch.rc w 0) a va ps with
    | some _ => none
    | none => match ch'.watched m w a va ps with | .inl c => some (c, ps) | .inr _ => none

/-- n bytes at an address of the Calm store are within the reach of core w: aligned, below the save area, on the core's side of the
split, covered by c0 with its tag, no latch and the permissions, its Mantle in the party of PCC's; every matching unit is off. -/
structure Chan.CalmReach (m : MantleTable) (ch : Chan) (w : Fin 8) (va : W64) (n : Nat) (perms : List Nat) : Prop where
  fixed : ch.fixedCore w = true
  aligned : va.toNat % n = 0
  inside : va.toNat + n ≤ saveBase
  split : ch.mode = 5 → va.toNat + n ≤ ch.split
  taper : taperCheck m (ch.core w).pcc.mantle (ch.rc w 0) va n perms = none
  units : ∀ u : Fin 32, ch.fld (pu u + 8) 0 2 = 0

/-- Nothing stands between a core's load of n bytes of the Calm store and memory: no buffered store of the core overlaps them, no far access
of them is pending, and their line is not poisoned. -/
structure Chan.CalmClear (ch : Chan) (w : Fin 8) (pa n : Nat) : Prop where
  ahead : ∀ e ∈ (ch.core w).sb, laps e.part.pa e.part.n pa n = false
  far : ch.farPending pa n = []
  clean : setHas ch.calmPois (pa / 64) = false

/-- n bytes of the Calm store that an element of a block-repeat instruction may touch: below the save area, on the core's side of the split,
covered by c0 with its tag, no latch and the permissions, its Mantle in the party of PCC's; every matching unit is off (R78). -/
structure Chan.ElemReach (m : MantleTable) (ch : Chan) (w : Fin 8) (va : W64) (n : Nat) (perms : List Nat) : Prop where
  fixed : ch.fixedCore w = true
  inside : va.toNat + n ≤ saveBase
  split : ch.mode = 5 → va.toNat + n ≤ ch.split
  taper : taperCheck m (ch.core w).pcc.mantle (ch.rc w 0) va n perms = none
  units : ∀ u : Fin 32, ch.fld (pu u + 8) 0 2 = 0

/-- Nothing stands between an element's read and memory, nor changes memory while it is made: no core has a store buffered, no far access of
those bytes is pending, no line of theirs is poisoned. -/
structure Chan.ElemClear (ch : Chan) (pa n : Nat) : Prop where
  alone : ∀ v : Fin 8, (ch.core v).sb = []
  far : ch.farPending pa n = []
  clean : ∀ i < n, setHas ch.calmPois ((pa + i) / 64) = false

/-- The parts of an element of the Calm store: split at a page (R243). -/
def calmParts (va : W64) (n : Nat) : List Part := (splitAt' va n true).map fun x => ⟨x.1.toNat, x.2, .calm⟩

/-- A control register within the reach of a core with fixed costs: aligned, covered by c0 with the permissions; every matching unit is off. -/
structure Chan.CtrlReach (m : MantleTable) (ch : Chan) (w : Fin 8) (va : W64) (perms : List Nat) : Prop where
  fixed : ch.fixedCore w = true
  aligned : va.toNat % 4 = 0
  inside : ctrlBase ≤ va.toNat ∧ va.toNat < ctrlBase + 0x1000000
  taper : taperCheck m (ch.core w).pcc.mantle (ch.rc w 0) va 4 perms = none
  units : ∀ u : Fin 32, ch.fld (pu u + 8) 0 2 = 0

/-! Taking an exception. -/

/-- The descriptor that 64 bytes of the Calm store hold (R204). -/
def Chan.descAt (ch : Chan) (pa : Nat) : Desc :=
  let x := fun i => BitVec.ofNat 128 (leNat (readBytes ch.calm (pa + 16 * i) 16))
  let t := fun i => (⟨x i, setHas ch.calmTag ((pa + 16 * i) / 16)⟩ : Taper)
  ⟨t 0, t 1, t 2, x 3⟩

/-- Nothing stands between a vector and its entry on a core with fixed costs: its descriptor lies in the Calm store, unpoisoned, and is
valid; its stack has room for the frame there; no store is buffered and no word of a micro or nano store has wrong parity (R204, R205, R212). -/
structure Chan.EntryReady (ch : Chan) (w : Fin 8) (v : Nat) (d : Desc) : Prop where
  fixed : ch.fixedCore w = true
  words : ch.badWords = []
  stores : (ch.core w).sb = []
  table : (ch.core w).xdtBase.toNat + 64 * v + 64 ≤ saveBase ∧ (ch.mode = 5 → (ch.core w).xdtBase.toNat + 64 * v + 64 ≤ ch.split)
  readable : ch.farPending ((ch.core w).xdtBase.toNat + 64 * v) 64 = [] ∧ setHas ch.calmPois (((ch.core w).xdtBase.toNat + 64 * v) / 64) = false
  desc : d = ch.descAt ((ch.core w).xdtBase.toNat + 64 * v) ∧ d.valid = true
  frame : d.stack.base + 128 ≤ saveBase ∧ (ch.mode = 5 → d.stack.base + 128 ≤ ch.split) ∧
    ∀ i < 8, setHas ch.calmPois ((d.stack.base + 16 * i) / 64) = false

/-- What entry installs in a core (R211): the descriptor's Tapers and target, the vector and the frame's address, the level and the window. -/
structure Chan.Entered (t : Chan) (w : Fin 8) (d : Desc) (vec mask : Nat) : Prop where
  pcc : (t.core w).pcc = d.entry
  pc : (t.core w).pc = (BitVec.ofNat 64 d.entry.base &&& 0xFFFFFFFFFFFFFFFC#64)
  c0 : (t.core w).c[0] = d.data
  c15 : (t.core w).c[15] = d.stack
  g30 : (t.core w).g[30] = BitVec.ofNat 64 vec
  g31 : (t.core w).g[31] = BitVec.ofNat 64 d.stack.base
  mask : (t.core w).mask = BitVec.ofNat 3 mask
  resv : (t.core w).resv = none
  window : (t.core w).wact = (d.niw != 0) ∧ (t.core w).wrem = d.niw ∧ (t.core w).wovr = false

end Sys2Proof.Machine
end

