-- ==== Sys2Proof/Certificates/Slice0/Obligations.lean ====
section
/-! DEFINITION. The statements for the provers: what each family of commands does, what the registers, memories and tables keep, and
what holds of every step. Values the model chose and the manual does not state are named with their log entry. -/

namespace Sys2Proof.Claims

open Sys2Proof.Machine

/-! ## Tables: constructor, function code, and the result the manual gives -/

abbrev Reg3 := CoreId → Bool → Fin 32 → Fin 32 → Fin 32 → Instr
abbrev Reg2 := CoreId → Bool → Fin 32 → Fin 32 → Instr

/-- 1 if a condition holds, else 0. -/
def flag (p : Prop) [Decidable p] : W64 := if p then 1#64 else 0#64

/-- R64, two sources. Comparisons are of the signed or unsigned values; shift amounts are the low 6 bits of the second source. -/
def alu : List (Reg3 × Nat × (W64 → W64 → W64)) := [
  (.add, 0, fun a b => a + b), (.sub, 1, fun a b => a - b), (.and, 2, fun a b => a &&& b), (.or, 3, fun a b => a ||| b),
  (.xor, 4, fun a b => a ^^^ b), (.shl, 5, fun a b => a <<< (b.toNat % 64)), (.shr, 6, fun a b => a >>> (b.toNat % 64)),
  (.sar, 7, fun a b => a.sshiftRight (b.toNat % 64)), (.lts, 8, fun a b => flag (a.toInt < b.toInt)),
  (.ltu, 9, fun a b => flag (a.toNat < b.toNat)), (.min, 10, fun a b => if a.toInt < b.toInt then a else b),
  (.max, 11, fun a b => if a.toInt < b.toInt then b else a), (.minu, 12, fun a b => if a.toNat < b.toNat then a else b),
  (.maxu, 13, fun a b => if a.toNat < b.toNat then b else a),
  (.rol, 14, fun a b => a <<< (b.toNat % 64) ||| a >>> (64 - b.toNat % 64)),
  (.ror, 15, fun a b => a >>> (b.toNat % 64) ||| a <<< (64 - b.toNat % 64)), (.andn, 23, fun a b => a &&& ~~~b)]

/-- R64: x is a with bit i moved to bit 63 − i; to bit 7 − i of its byte; with byte i moved to byte 7 − i. -/
def isBrev (a x : W64) : Prop := ∀ i < 64, x.getLsbD i = a.getLsbD (63 - i)
def isBrevb (a x : W64) : Prop := ∀ i < 8, ∀ j < 8, x.getLsbD (8 * i + j) = a.getLsbD (8 * i + (7 - j))
def isBswap (a x : W64) : Prop := ∀ i < 8, ∀ j < 8, x.getLsbD (8 * i + j) = a.getLsbD (8 * (7 - i) + j)

/-- R64, one source: what defines the result. -/
def unary : List (Reg2 × Nat × (W64 → W64 → Prop)) := [
  (.clz, 16, fun a x => x.toNat ≤ 64 ∧ (∀ i < x.toNat, a.getLsbD (63 - i) = false) ∧ (x.toNat < 64 → a.getLsbD (63 - x.toNat) = true)),
  (.ctz, 17, fun a x => x.toNat ≤ 64 ∧ (∀ i < x.toNat, a.getLsbD i = false) ∧ (x.toNat < 64 → a.getLsbD x.toNat = true)),
  (.popc, 18, fun a x => x.toNat = ((List.range 64).filter fun i => a.getLsbD i).length),
  (.par, 19, fun a x => x.toNat = ((List.range 64).filter fun i => a.getLsbD i).length % 2),
  (.brev, 20, isBrev), (.brevb, 21, isBrevb), (.bswap, 22, isBswap)]

/-- R58, major 0x0D: bits [31:0] of both sources; shift amounts are the low 5 bits. -/
def alu32 : List (Reg3 × Nat × (W32 → W32 → W64)) := [
  (.add32, 0, fun a b => (a + b).signExtend 64), (.sub32, 1, fun a b => (a - b).signExtend 64),
  (.and32, 2, fun a b => (a &&& b).signExtend 64), (.or32, 3, fun a b => (a ||| b).signExtend 64),
  (.xor32, 4, fun a b => (a ^^^ b).signExtend 64), (.shl32, 5, fun a b => (a <<< (b.toNat % 32)).signExtend 64),
  (.shr32, 6, fun a b => (a >>> (b.toNat % 32)).signExtend 64), (.sar32, 7, fun a b => (a.sshiftRight (b.toNat % 32)).signExtend 64),
  (.lts32, 8, fun a b => flag (a.toInt < b.toInt)), (.ltu32, 9, fun a b => flag (a.toNat < b.toNat))]

/-- R58, majors with a 15-bit immediate: constructor, major opcode, result. -/
def aluImm : List ((CoreId → Bool → Fin 32 → Fin 32 → BitVec 15 → Instr) × Nat × (W64 → BitVec 15 → W64)) := [
  (.addi, 0x01, fun a i => a + i.signExtend 64), (.andi, 0x02, fun a i => a &&& i.zeroExtend 64),
  (.ori, 0x03, fun a i => a ||| i.zeroExtend 64), (.xori, 0x04, fun a i => a ^^^ i.zeroExtend 64),
  (.ltsi, 0x06, fun a i => flag (a.toInt < (i.signExtend 64).toInt)), (.ltui, 0x07, fun a i => flag (a.toNat < (i.signExtend 64).toNat))]

/-- R58, major 0x05: constructor, the operation in bits [13:12], result. -/
def shiftImm : List ((CoreId → Bool → Fin 32 → Fin 32 → BitVec 6 → Instr) × Nat × (W64 → Nat → W64)) := [
  (.shli, 0, fun a n => a <<< n), (.shri, 1, fun a n => a >>> n), (.sari, 2, fun a n => a.sshiftRight n),
  (.rori, 3, fun a n => a >>> n ||| a <<< (64 - n))]

/-- R65, products. -/
def mul : List (Reg3 × Nat × (W64 → W64 → W64)) := [
  (.mul, 0, fun a b => BitVec.ofInt 64 (a.toInt * b.toInt)), (.mulhiSs, 1, fun a b => BitVec.ofInt 64 (a.toInt * b.toInt / 2 ^ 64)),
  (.mulhiUu, 2, fun a b => BitVec.ofNat 64 (a.toNat * b.toNat / 2 ^ 64)),
  (.mulhiSu, 3, fun a b => BitVec.ofInt 64 (a.toInt * (b.toNat : Int) / 2 ^ 64)),
  (.mulW, 4, fun a b => ((a * b).truncate 32 : W32).signExtend 64)]

/-- R65, quotients and remainders, rounded toward zero; the forms on bits [31:0] sign-extend their result. -/
def div : List (Reg3 × Nat × (W64 → W64 → W64)) := [
  (.divs, 8, fun a b => if b = 0#64 then 0#64 else BitVec.ofInt 64 (a.toInt.tdiv b.toInt)),
  (.divu, 9, fun a b => BitVec.ofNat 64 (a.toNat / b.toNat)),
  (.mods, 10, fun a b => if b = 0#64 then a else BitVec.ofInt 64 (a.toInt.tmod b.toInt)),
  (.modu, 11, fun a b => BitVec.ofNat 64 (a.toNat % b.toNat)),
  (.divsW, 12, fun a b => if b.truncate 32 = 0#32 then 0#64 else (BitVec.ofInt 32 ((a.truncate 32 : W32).toInt.tdiv (b.truncate 32 : W32).toInt)).signExtend 64),
  (.divuW, 13, fun a b => (BitVec.ofNat 32 (a.toNat % 2 ^ 32 / (b.toNat % 2 ^ 32))).signExtend 64),
  (.modsW, 14, fun a b => if b.truncate 32 = 0#32 then (a.truncate 32 : W32).signExtend 64
    else (BitVec.ofInt 32 ((a.truncate 32 : W32).toInt.tmod (b.truncate 32 : W32).toInt)).signExtend 64),
  (.moduW, 15, fun a b => (BitVec.ofNat 32 (a.toNat % 2 ^ 32 % (b.toNat % 2 ^ 32))).signExtend 64)]

/-- R82: constructor, fn, bytes. -/
def crc : List (Reg3 × Nat × Nat) := [(.crcs8, 0, 1), (.crcs16, 1, 2), (.crcs32, 2, 4), (.crcs64, 3, 8)]

/-- R82: POLY with its w bits in reverse order. -/
def reversed (w poly : Nat) : Nat := ((List.range w).map fun i => if poly.testBit (w - 1 - i) then 2 ^ i else 0).sum

/-- R82: the manual's loop over the first n data bits of `data`, with accumulator and POLY below 2 ^ w. -/
def crcLoop (w poly : Nat) (refin : Bool) (crc : Nat) (data : W64) : Nat → Nat
  | 0 => crc
  | n + 1 =>
    let c := crcLoop w poly refin crc data n
    if refin then
      if (c.testBit 0 != data.getLsbD (8 * (n / 8) + n % 8)) = true then (c / 2).xor (reversed w poly) else c / 2
    else
      let d := c * 2 % 2 ^ w
      if (c.testBit (w - 1) != data.getLsbD (8 * (n / 8) + (7 - n % 8))) = true then d.xor poly else d

/-- R82: CRCS over n bits as the manual has it, for a listed WIDTH. -/
def crcResult (cfg acc data : W64) (n : Nat) : W64 :=
  let w := 8 * 2 ^ (cfg.toNat / 2 ^ 32 % 4)
  BitVec.ofNat 64 (crcLoop w (cfg.toNat % 2 ^ w) (cfg.getLsbD 34) (acc.toNat % 2 ^ w) data n)

/-- An n-byte value sign-extended to 64 bits. -/
def signed (n x : Nat) : W64 := (BitVec.ofNat (8 * n) x).signExtend 64

/-- R66: constructor, major opcode, size, and the value that n bytes give. -/
def loads : List ((CoreId → Bool → Fin 32 → Fin 32 → BitVec 15 → Instr) × Nat × Nat × (Nat → Nat → W64)) := [
  (.lbs, 0x10, 1, signed), (.lbz, 0x11, 1, fun _ x => BitVec.ofNat 64 x), (.lhs, 0x12, 2, signed),
  (.lhz, 0x13, 2, fun _ x => BitVec.ofNat 64 x), (.lws, 0x14, 4, signed), (.lwz, 0x15, 4, fun _ x => BitVec.ofNat 64 x),
  (.ld, 0x16, 8, fun _ x => BitVec.ofNat 64 x)]

/-- R66: constructor, major opcode, size. -/
def stores : List ((CoreId → Bool → Fin 32 → Fin 32 → BitVec 15 → Instr) × Nat × Nat) :=
  [(.sb, 0x18, 1), (.sh, 0x19, 2), (.sw, 0x1A, 4), (.sd, 0x1B, 8)]

/-- The value of an LL or an atomic: 64 bits, or 32 bits sign-extended (R68). -/
def sized (d : Bool) (x : Nat) : W64 := if d then BitVec.ofNat 64 x else signed 4 x

/-- R68: constructor, fn[3:0], operation; only ATCAS has a third source. -/
def atomics : List ((CoreId → Bool → Bool → Fin 32 → Fin 32 → Fin 32 → Fin 32 → Instr) × Nat × AmoOp) := [
  (fun k p d rd rs1 rs2 _ => .atswp k p d rd rs1 rs2, 2, .swp), (fun k p d rd rs1 rs2 _ => .atadd k p d rd rs1 rs2, 3, .add),
  (fun k p d rd rs1 rs2 _ => .atand k p d rd rs1 rs2, 4, .and), (fun k p d rd rs1 rs2 _ => .ator k p d rd rs1 rs2, 5, .or),
  (fun k p d rd rs1 rs2 _ => .atmin k p d rd rs1 rs2, 6, .min), (fun k p d rd rs1 rs2 _ => .atmax k p d rd rs1 rs2, 7, .max),
  (.atcas, 8, .cas)]

/-- What an atomic operation of n bytes leaves in memory (R68): the comparisons of ATMIN and ATMAX are signed. -/
def amo (n : Nat) (op : AmoOp) (old src cmp : Nat) : Nat :=
  let h := 2 ^ (8 * n)
  let lt := (BitVec.ofNat (8 * n) old).toInt < (BitVec.ofNat (8 * n) src).toInt
  match op with
  | .swp => src % h
  | .add => (old + src) % h
  | .and => old &&& src
  | .or => (old ||| src) % h
  | .min => if lt then old else src % h
  | .max => if lt then src % h else old
  | .cas => if old = cmp % h then src % h else old

/-- R70: constructor, major opcode, condition. -/
def branches : List ((CoreId → Bool → Fin 32 → Fin 32 → BitVec 15 → Instr) × Nat × (W64 → W64 → Bool)) := [
  (.beq, 0x24, fun a b => a = b), (.bne, 0x25, fun a b => a ≠ b), (.blt, 0x26, fun a b => a.toInt < b.toInt),
  (.bge, 0x27, fun a b => b.toInt ≤ a.toInt), (.blo, 0x28, fun a b => a.toNat < b.toNat), (.bhs, 0x29, fun a b => b.toNat ≤ a.toNat)]

/-- R71, scalar operations into v[rd]: constructor, fn[3:0], distance (R91), whether rs2 is a source, result and flags from precision, rounding
mode and operands. -/
def fp : List ((CoreId → Bool → Bool → Fin 32 → Fin 32 → Fin 32 → Instr) × Nat × Nat × Bool × (Bool → Nat → Nat → Nat → Nat × FFlags)) := [
  (.fadd, 0, 4, true, fun d rm a b => fAddV (fmtOf d) rm (unpack (fmtOf d) a) (unpack (fmtOf d) b)),
  (.fsub, 1, 4, true, fun d rm a b => fAddV (fmtOf d) rm (unpack (fmtOf d) a) (unpack (fmtOf d) b).neg),
  (.fmul, 2, 5, true, fun d rm a b => fMulV (fmtOf d) rm (unpack (fmtOf d) a) (unpack (fmtOf d) b)),
  (.fmin, 5, 4, true, fun d _ a b => fMinMax (fmtOf d) false a b), (.fmax, 6, 4, true, fun d _ a b => fMinMax (fmtOf d) true a b),
  (.fcps, 7, 4, true, fun d _ a b => let h := 2 ^ (if d then 63 else 31); (a % h + b / h * h, 0#5))]

/-- R71: the comparisons with their fn[3:0]. -/
def fcmp : List ((CoreId → Bool → Bool → Fin 32 → Fin 32 → Fin 32 → Instr) × Nat) := [(.fceq, 13), (.fclt, 14), (.fcle, 15)]

/-- R71: the fused operations: fn[1:0], whether the product and whether the addend is negated. -/
def fused : List ((CoreId → Bool → Bool → Fin 32 → Fin 32 → Fin 32 → Fin 32 → Instr) × Nat × Bool × Bool) :=
  [(.fmac, 0, false, false), (.fmsc, 1, false, true), (.fnmac, 2, true, false), (.fnmsc, 3, true, true)]

/-- R73: the lane operations with fn[2:0]. -/
def vectors : List ((CoreId → Bool → LaneType → Fin 32 → Fin 32 → Fin 32 → Instr) × Nat) := [
  (.vectorAdd, 0), (.vectorSub, 1), (.vectorMul, 2), (.vectorMin, 3), (.vectorMax, 4), (.vectorAnd, 5), (.vectorOr, 6), (.vectorXor, 7)]

/-- R73: an integer lane wraps; MIN and MAX are signed. -/
def intLane {n : Nat} (fn : Nat) (a b : BitVec n) : BitVec n :=
  match fn with
  | 0 => a + b
  | 1 => a - b
  | 2 => a * b
  | 3 => if a.toInt < b.toInt then a else b
  | _ => if a.toInt < b.toInt then b else a

/-- R73: an FP32 lane is the scalar operation of R71. -/
def fpLane (fn rm : Nat) (a b : W32) : Nat × FFlags :=
  let v := fun x : W32 => unpack (fmtOf false) x.toNat
  match fn with
  | 0 => fAddV (fmtOf false) rm (v a) (v b)
  | 1 => fAddV (fmtOf false) rm (v a) (v b).neg
  | 2 => fMulV (fmtOf false) rm (v a) (v b)
  | 3 => fMinMax (fmtOf false) false a.toNat b.toNat
  | _ => fMinMax (fmtOf false) true a.toNat b.toNat

/-- The flags of four FP32 lanes together. -/
def laneFlags (f : Nat → Nat × FFlags) : FFlags := (f 0).2 ||| (f 1).2 ||| (f 2).2 ||| (f 3).2

/-- R73: x is the result of lane operation fn on a and b, with the flags fl. -/
def isVec (lt : LaneType) (fn rm : Nat) (a b x : W128) (fl : FFlags) : Prop :=
  match fn with
  | 5 => x = a &&& b ∧ fl = 0#5
  | 6 => x = a ||| b ∧ fl = 0#5
  | 7 => x = a ^^^ b ∧ fl = 0#5
  | _ => match lt with
    | .f32 => let f := fun i => fpLane fn rm (lane 32 a i) (lane 32 b i)
      (∀ i < 4, (lane 32 x i).toNat = (f i).1 % 2 ^ 32) ∧ fl = laneFlags f
    | .i32 => (∀ i < 4, lane 32 x i = intLane fn (lane 32 a i) (lane 32 b i)) ∧ fl = 0#5
    | .i16 => (∀ i < 8, lane 16 x i = intLane fn (lane 16 a i) (lane 16 b i)) ∧ fl = 0#5
    | .i8 => (∀ i < 16, lane 8 x i = intLane fn (lane 8 a i) (lane 8 b i)) ∧ fl = 0#5

/-- R73: an FP32 lane of VFMA.S4, or with `neg` of VFNMA.S4: ±(a × b) + c with one rounding. -/
def fmaLane (neg : Bool) (rm : Nat) (a b c : W32) : Nat × FFlags :=
  let v := fun x : W32 => unpack (fmtOf false) x.toNat
  fFmaV (fmtOf false) rm (if neg then (v a).neg else v a) (v b) (v c)

/-- R74: the reads of a Taper's fields. -/
def taperFields : List ((CoreId → Bool → Fin 32 → Fin 16 → Instr) × Nat × (Taper → Nat)) := [
  (.tbase, 1, fun t => t.bits.toNat % 2 ^ 48), (.tlen, 2, fun t => t.bits.toNat / 2 ^ 48 % 2 ^ 48),
  (.tperm, 3, fun t => t.bits.toNat / 2 ^ 108 % 2 ^ 12), (.ttag, 4, fun t => if t.tag then 1 else 0),
  (.towner, 5, fun t => t.bits.toNat / 2 ^ 96 % 2 ^ 12)]

/-- The stores of a control register that have a row of their own: the command and its register's offset (R31). -/
noncomputable def regStores (k : CoreId) (insn val : W32) (i : Fin 8) (w : Fin 8) (t : Fin 4) (n : Fin 64) (r : Fin 16) (u : Fin 2) (pu : Fin 32) (b : Bool) : List (Instr × Nat) := [
  (.mbxTxgo k insn val, 0x400080), (.mbxRxpop k insn val, 0x400100), (.flrSwset k insn val, 0x40010), (.flrPend k insn i val, 0x40080 + 4 * i.val),
  (.flrActv k insn i val, 0x400A0 + 4 * i.val), (.pcrLoqFault k insn w val, 0x100004 + 0x10000 * w.val), (.flush k insn w val, 0x100014 + 0x10000 * w.val),
  (.mcxHwmclr k insn val, 0x60080), (.swEdge k insn t val, 0x1013C + 0x40 * t.val), (.swSet k insn t val, 0x1013C + 0x40 * t.val),
  (.trackerRestart k insn t val, 0x10100 + 0x40 * t.val), (.arm k insn n val, 0x11000 + 0x20 * n.val), (.softwareCancel k insn n val, 0x11000 + 0x20 * n.val),
  (.ptbHwmclr k insn val, 0x10010), (.run k insn r val, 0x20000 + 0x100 * r.val), (.countWrite k insn r val, 0x20008 + 0x100 * r.val),
  (.liveCompareWrite k insn r b val, (if b then 0x20014 else 0x20010) + 0x100 * r.val), (.syncStart k insn val, 0x21000), (.syncStop k insn val, 0x21000),
  (.wdtCtlWrite k insn val, 0x50000), (.service k insn val, 0x50010), (.pioSet k insn b val, if b then 0x3010C else 0x30108),
  (.pioClr k insn b val, if b then 0x30114 else 0x30110), (.pioTgl k insn b val, if b then 0x3011C else 0x30118),
  (.pinFunctionChange k insn n val, 0x30000 + 4 * n.val), (.uartTransmit k insn u val, 0x500008 + 0x1000 * u.val), (.spiTransmit k insn val, 0x510004),
  (.i2cCommand k insn val, 0x520004), (.ethTxcmd k insn val, 0x530014), (.mdioGo k insn val, 0x530024), (.traceRun k insn val, 0x200000),
  (.traceStop k insn val, 0x200000), (.swtrigGo k insn val, 0x200014), (.patchCtlWrite k insn pu false val, 0x300108 + 16 * pu.val)]

/-- The loads of a control register that have a row of their own. -/
noncomputable def regLoads (k : CoreId) (insn : W32) (rd : Fin 32) (w : Fin 8) (u : Fin 2) (r : Fin 16) (m : Fin 4) : List (Instr × Nat) := [
  (.flrCorewWovrcnt k insn rd w, 0x41004 + 0x40 * w.val), (.l3dErrcnt0 k insn rd, 0x70010), (.l3dErrcnt1 k insn rd, 0x70014),
  (.l3dErrcnt2 k insn rd, 0x70018), (.l3dErrsat k insn rd, 0x7001C), (.mcxErrcnt0 k insn rd, 0x60020), (.mcxErrcnt1 k insn rd, 0x60024),
  (.mcxErrcnt2 k insn rd, 0x60028), (.mcxErrcnt3 k insn rd, 0x6002C), (.mcxErrsat k insn rd, 0x60030), (.mcxEvt k insn rd, 0x60040),
  (.ptbStphDisc k insn rd, 0x10014), (.uartReceivePop k insn rd u, 0x500008 + 0x1000 * u.val), (.spiReceivePop k insn rd, 0x510004),
  (.i2cRxdataPop k insn rd, 0x520008), (.ethErrcnt k insn rd, 0x530020), (.capRead k insn rd r m false, 0x20030 + 0x100 * r.val + 4 * m.val)]

/-- The counters that a read clears: offset, lowest bit and width of the field (R6). -/
def counters (w : Fin 8) : List (Nat × Nat × Nat) := [(0x41004 + 0x40 * w.val, 0, 17), (0x70010, 0, 32), (0x70014, 0, 32), (0x70018, 0, 32), (0x7001C, 0, 6),
  (0x60020, 0, 32), (0x60024, 0, 32), (0x60028, 0, 32), (0x6002C, 0, 16), (0x60030, 0, 7), (0x60040, 0, 16), (0x60040, 22, 1), (0x10014, 0, 17), (0x530020, 0, 32)]

/-- A channel that has power and is not held in reset. -/
def Still (ch : Chan) : Prop := ch.life = .up

/-- Nothing is under way in a channel: no store waits, no long operation, no home transaction or CXL access is pending, and its L2s and
L3 hold no line. -/
def AtRest (ch : Chan) : Prop :=
  (∀ w : Fin 8, (ch.core w).sb = [] ∧ (ch.core w).posted = [] ∧ (ch.core w).l2 = [] ∧ (ch.core w).evb = [] ∧ (ch.core w).miss = [] ∧
    ∀ i : Fin 32, ((ch.core w).loq[i]).st = .free) ∧
  ch.homeQ = [] ∧ ch.txs = [] ∧ ch.net = [] ∧ ch.results = [] ∧ ch.cxlReqs = [] ∧ ch.l3 = []

/-- An open transaction that awaits something other than the end of a hold, so that it does not go on by itself. -/
def Awaits (x : Tx) : Prop := x.held = false ∧ (x.data = none ∨ x.mem = true ∨ x.snoops ≠ 0#8 ∨ x.evds ≠ 0#8)

/-- No alarm slot is armed. -/
def Bare (ch : Chan) : Prop := ∀ n : Fin 64, ch.armed n = false

/-- Ring counters (object, subindex) of a node, saturating at 0xFFFF. -/
def counted (a b : Lamp) (obj sub : Nat) : Prop := b.num obj sub 0 = min 0xFFFF (a.num obj sub 0 + 1)

/-- The command answers a next state in which only the Lamplighter and the ring node have changed, and they have P. -/
def RingLeaves (i : Instr) (s : State) (P : Lamp → Ring → Prop) : Prop :=
  ∃ (l : Lamp) (r : Ring), exec i s = .next { s with lamp := l, ring := r } ∧ P l r

/-- The command answers a next state in which only the Lamplighter, the ring node and samples that wait for the channels' trackers have changed;
they have P. -/
def HeadLeaves (i : Instr) (s : State) (P : Vector Chan 4 → Lamp → Ring → Prop) : Prop :=
  ∃ (cs : Vector Chan 4) (l : Lamp) (r : Ring), exec i s = .next { s with chans := cs, lamp := l, ring := r } ∧
    (∀ c : Fin 4, cs[c] = { s.ch c with samples := (cs[c]).samples }) ∧ P cs l r

/-- A frame sent now: the ports by which it leaves are busy with it. -/
def sends (s : State) (x : RingOut) (t : Ring) : Prop := t = { s.ring.occupy s.lamp.time x with outs := s.ring.outs ++ [x] }

/-- A frame of the node's own: sent, with its stamp, or kept until it may start. -/
def owns (s : State) (x : RingOut) (t : Ring) : Prop :=
  if s.mayStart x then sends s (x.stamped s.lamp.stamp) t else t = { s.ring with waiting := s.ring.waiting ++ [x] }

/-- Ring port A or B: its counter object. -/
def portOf (p : RingPort) : Nat := match p with | .a => 0x2102 | .b => 0x2103

/-- The wire of a channel answers host frames: awake, mode 0x00 or 0x01, the dictionary served. -/
def WireUp (s : State) (c : Fin 4) : Prop :=
  s.lamp.life = .up ∧ s.lamp.pause = none ∧ (s.ch c).wire.awake = true ∧ (s.ch c).objN ((s.ch c).idx 0x3090) 1 0 ≤ 1

end Sys2Proof.Claims

open Sys2Proof Sys2Proof.Machine
/-! ## The machine -/

/-- A step runs the command at the front of the queue with the queue's rest. -/
def Sys2Proof.Claims.StepRunsFront : Prop :=
  ∀ (s : State) (c : Instr) (rest : List Instr), step { s with pending := c :: rest } = exec c { s with pending := rest }

/-- With no command waiting, one PTB cycle passes (log 35): device time advances by 5/3 ns, an update under way may go on (log 64), frames kept
for their moment leave; a channel that is not up, nor in THAW in a cold start, and the queue stay as they are; so do the Mantle tables, the ring node and
the rest of the Lamplighter when no update is under way and no frame is kept. -/
def Sys2Proof.Claims.IdleStep : Prop :=
  ∀ s : State, s.pending = [] → let on : State := { s with lamp := { s.lamp with time := s.lamp.time + 5 } }; let s1 := on.updateTick.release
    (∃ t, step s = .next t ∧ t.pending = [] ∧ t.mantles = s1.mantles ∧ t.ring = s1.ring ∧ t.lamp = s1.lamp ∧
      ∀ c, (s1.ch c).life ≠ .up → (s1.ch c).loaded = false → t.ch c = s1.ch c) ∧
    (s.lamp.booting = none → (∀ i, (s.lamp.item i).state ≠ 3) → s.ring.waiting = [] → s1 = on)

/-- A step runs the command at the front of the queue on the state with the queue's rest; on an empty queue it is one cycle of the phase timebase. -/
def Obligations.StepServesQueue : Prop := Claims.StepRunsFront ∧ Claims.IdleStep

/-- After PORESET_N every channel is without power, its Mantle table holds only Mantle 0x000, its registers read their reset values, its
memories list nothing, its cores hold the values of R54; nothing waits. The values of R54 stand in cores that no release has reached yet:
they are the model's choice (log 2). -/
def Sys2Proof.Claims.ResetState : Prop :=
  State.reset.pending = [] ∧ ∀ c : Fin 4,
    (State.reset.ch c).life = .frost ∧ State.reset.mtl c = [{ parent := 0#12, cls := 0#2, depth := 1 }] ∧
    (∀ off, (State.reset.ch c).reg off = regReset off) ∧ (State.reset.ch c).calm = [] ∧ (State.reset.ch c).cxl = [] ∧
    ∀ w : Fin 8, let x := (State.reset.ch c).core w
      (∀ r : Fin 32, x.g[r] = 0#64 ∧ x.v[r] = 0#128) ∧ (∀ r : Fin 16, (x.c[r]).tag = false) ∧ x.pend = [] ∧ x.sb = [] ∧ x.resv = none ∧
        x.wact = false ∧ x.itlb = [] ∧ x.dtlb = [] ∧ x.l2tlb = [] ∧ ∀ i : Fin 32, (x.loq[i]).st = .free

/-- The Mantle tables after reset are sound. -/
def Sys2Proof.Claims.ResetTablesSound : Prop := ∀ c : Fin 4, (State.reset.mtl c).Sound

/-- The device right after reset. -/
def Obligations.ResetValues : Prop := Claims.ResetState ∧ Claims.ResetTablesSound

/-- No step breaks a Mantle table: entry 0 stays the root, every other entry stands below its parent, at most 8 deep and 4,096 in number. -/
def Obligations.TablesStaySound : Prop :=
  ∀ s t : State, (∀ c, (s.mtl c).Sound) → step s = .next t → ∀ c, (t.mtl c).Sound

/-- Every command has a meaning: it answers a next state, with no fault and no refusal, and leaves the queue alone. -/
def Obligations.EveryCommandRuns : Prop := ∀ (i : Instr) (s : State), ∃ t, exec i s = .next t ∧ t.pending = s.pending

/-- A command that acts on one channel changes no other channel and no other channel's Mantle table, nor the Lamplighter or the ring node:
the channels share nothing. -/
def Obligations.ChannelsIsolated : Prop :=
  ∀ (i : Instr) (c : Fin 4) (s t : State), siteOf i = some c → exec i s = .next t →
    (∀ d, d ≠ c → t.ch d = s.ch d ∧ t.mtl d = s.mtl d) ∧ t.lamp = s.lamp ∧ t.ring = s.ring

/-! ## Registers -/

/-- g0 reads 0 in every state, and a write to it is discarded. -/
def Obligations.ZeroRegister : Prop :=
  ∀ (ch : Chan) (w : Fin 8), ch.rg w 0 = 0#64 ∧ ∀ (d : Nat) (x : W64), ch.wg w 0 d x = ch

/-- A reader obtains the register's content, or, while a write's distance has not passed, the value before or the result of such a
pending write, and no other value. -/
def Obligations.ReaderObtains : Prop :=
  ∀ (ch : Chan) (w : Fin 8) (r : RegRef), r ≠ .g 0 →
    ch.read w r = (ch.core w).raw r ∨
      ∃ p ∈ (ch.core w).pend, p.reg = r ∧ (ch.core w).cyc < p.due ∧ (ch.read w r = p.old ∨ ch.read w r = p.new)

/-- A result of distance d: the register holds it at once, nothing else of the register files changes, and from d issue cycles later
every reader obtains it, whatever else is pending; an older long operation to the register is overtaken. -/
def Sys2Proof.Claims.ResultSettles : Prop :=
  ∀ (ch : Chan) (w : Fin 8) (r : RegRef) (d : Nat) (x : BitVec 129) (n : Nat), r ≠ .g 0 → (ch.core w).cyc + d ≤ n →
    let c := (ch.core w).put r d x
    (ch.setCore w { c with cyc := n }).read w r = ((ch.core w).setRaw r x).raw r ∧
    c = { (ch.core w).setRaw r x with pend := c.pend, loq := c.loq } ∧
    ∀ i : Fin 32, c.loq[i] = { (ch.core w).loq[i] with dead := (c.loq[i]).dead }

/-- A write to a general, vector or c register puts exactly the value there. -/
def Sys2Proof.Claims.RegisterWrites : Prop :=
  (∀ (c : Core) (r : Fin 32) (x : BitVec 129), r ≠ 0 → c.setRaw (.g r) x = { c with g := c.g.set r (x.truncate 64) }) ∧
  (∀ (c : Core) (r : Fin 32) (x : BitVec 129), c.setRaw (.v r) x = { c with v := c.v.set r (x.truncate 128) }) ∧
  (∀ (c : Core) (r : Fin 16) (t : Taper), c.setRaw (.c r) t.raw = { c with c := c.c.set r t }) ∧
  ∀ (c : Core) (x : BitVec 129),
    c.setRaw (.sr 0) x = { c with mask := x.truncate 3 } ∧ c.setRaw (.sr 5) x = { c with tptr := x.truncate 64 } ∧
    (∀ n : Fin 32, 5 < n.val → c.setRaw (.sr n) x = c)

/-- A result reaches its register after its distance, and no other register changes. -/
def Obligations.RegisterResults : Prop := Claims.ResultSettles ∧ Claims.RegisterWrites


/-! ## The front end -/

/-- In CALM an instruction issues when its channel runs, its core is neither halted nor stepped nor waits, no fault of a long operation
is due, PCC covers the word with Execute, the word lies below the save area in an unpoisoned line, and every matching unit is off. Nothing else
changes but what has been fetched behind it, and that a handler's window is not new any more. -/
def Obligations.IssuesInCalm : Prop :=
  ∀ (s : State) (k : CoreId) (word : W32), Chan.Quiet (s.ch k.ch) k.w →
    ∃ l : List Fetched, s.issued k word =
      some (({ s.ch k.ch with free := (s.ch k.ch).free + 1 } : Chan).onCore k.w fun c => { c with fetched := l, wnew := false })

/-- An instruction that does not issue does nothing of its own: what happens is what the front end says, for every Wick instruction; on a
core that may not issue, nothing happens at all. -/
def Sys2Proof.Claims.NotIssued : Prop :=
  ∀ (i : Instr) (s : State) (k : CoreId) (word : W32) (ch : Chan), wickOf i = some (k, word) →
    ({ s.ch k.ch with free := (s.ch k.ch).free + 1 } : Chan).issue (s.mtl k.ch) k.w word = .stop ch →
    exec i s = .next (s.onChan k.ch fun _ => ch) ∧
    ((s.ch k.ch).canIssue k.w = false → ch = { s.ch k.ch with free := (s.ch k.ch).free + 1 })

/-- A fetch that its PCC does not allow raises Capability Fault at the fetch address with instruction word 0: reasons 1 untagged,
2 latched, 4 out of range, 8 without Execute. `c1` is the channel as the front end finds it. -/
def Sys2Proof.Claims.FetchFaults : Prop :=
  ∀ (m : MantleTable) (ch : Chan) (w : Fin 8) (word : W32) (r : Nat), let c1 := ch.catchUp m w word; let c := c1.core w
    ch.canIssue w = true → (ch.core w).elem = none → c.elem = none → c.stepping = false → c.dueFault = none →
    (∀ x ∈ c.fetched, x.pc ≠ c.pc) → ch.wakeHalt m w = false →
    ((c.pcc.tag = false ∧ r = 1) ∨ (c.pcc.tag = true ∧ c.pcc.latch ≠ 0 ∧ r = 2) ∨
     (c.pcc.tag = true ∧ c.pcc.latch = 0 ∧ c.pcc.covers c.pc.toNat 4 = false ∧ r = 4) ∨
     (c.pcc.tag = true ∧ c.pcc.latch = 0 ∧ c.pcc.covers c.pc.toNat 4 = true ∧ c.pcc.has 2 = false ∧ r = 8)) →
    ch.issue m w word = .stop ((c1.onCore w fun x => { x with fetched := [] }).trapNow m w ⟨4, r, c.pc⟩ c.pc 0#32)

/-- What keeps an instruction from issuing, and what happens instead. -/
def Obligations.NotIssuing : Prop := Claims.NotIssued ∧ Claims.FetchFaults


/-! ## Integer instructions -/

/-- The operations of major 0x00 on two registers: g[rd] receives the result at distance 1. -/
def Sys2Proof.Claims.IntegerAlu : Prop :=
  ∀ row ∈ Claims.alu, ∀ (s : State) (k : CoreId) (p : Bool) (rd rs1 rs2 : Fin 32) (ch : Chan),
    s.issued k (encR 0x00 p rd.val rs1.val rs2.val 0 row.2.1) = some ch →
    Retires (row.1 k p rd rs1 rs2) s k (ch.wg k.w rd 1 (row.2.2 (ch.rg k.w rs1) (ch.rg k.w rs2))) (ch.pcOf k + 4#64) 1

/-- The operations of major 0x00 on one register, each by what defines its result. -/
def Sys2Proof.Claims.IntegerUnary : Prop :=
  ∀ row ∈ Claims.unary, ∀ (s : State) (k : CoreId) (p : Bool) (rd rs1 : Fin 32) (ch : Chan),
    s.issued k (encR 0x00 p rd.val rs1.val 0 0 row.2.1) = some ch →
    ∃ x : W64, row.2.2 (ch.rg k.w rs1) x ∧ Retires (row.1 k p rd rs1) s k (ch.wg k.w rd 1 x) (ch.pcOf k + 4#64) 1

/-- Major 0x00 has no other fn, its third source field is 0, and so is the second of fn 16 to 22: any other word is an undefined encoding.
BREVB followed by BSWAP equals BREV. -/
def Sys2Proof.Claims.IntegerFields : Prop :=
  (∀ (u : Ucode) (p : Bool) (rd rs1 rs2 rs3 fn : Nat), rd < 32 → rs1 < 32 → rs2 < 32 → rs3 < 32 → fn < 32 →
    (definedWord u (encR 0x00 p rd rs1 rs2 rs3 fn) = true ↔ fn ≤ 23 ∧ rs3 = 0 ∧ (16 ≤ fn → fn ≤ 22 → rs2 = 0))) ∧
  ∀ a x y z : W64, Claims.isBrevb a x → Claims.isBswap x y → Claims.isBrev a z → y = z

/-- The operations of major 0x00. -/
def Obligations.IntegerOperations : Prop := Claims.IntegerAlu ∧ Claims.IntegerUnary ∧ Claims.IntegerFields

/-- The 32-bit forms of major 0x0D take bits [31:0] and write the sign-extended result; the comparisons write 0 or 1. -/
def Sys2Proof.Claims.Integer32 : Prop :=
  ∀ row ∈ Claims.alu32, ∀ (s : State) (k : CoreId) (p : Bool) (rd rs1 rs2 : Fin 32) (ch : Chan),
    s.issued k (encR 0x0D p rd.val rs1.val rs2.val 0 row.2.1) = some ch →
    Retires (row.1 k p rd rs1 rs2) s k
      (ch.wg k.w rd 1 (row.2.2 ((ch.rg k.w rs1).truncate 32) ((ch.rg k.w rs2).truncate 32))) (ch.pcOf k + 4#64) 1

/-- The immediate forms: sign-extended, but for ANDI, ORI, XORI and the shift amounts. -/
def Sys2Proof.Claims.IntegerImmediate : Prop :=
  (∀ row ∈ Claims.aluImm, ∀ (s : State) (k : CoreId) (p : Bool) (rd rs1 : Fin 32) (imm : BitVec 15) (ch : Chan),
    s.issued k (encI row.2.1 p rd.val rs1.val imm) = some ch →
    Retires (row.1 k p rd rs1 imm) s k (ch.wg k.w rd 1 (row.2.2 (ch.rg k.w rs1) imm)) (ch.pcOf k + 4#64) 1) ∧
  ∀ row ∈ Claims.shiftImm, ∀ (s : State) (k : CoreId) (p : Bool) (rd rs1 : Fin 32) (sh : BitVec 6) (ch : Chan),
    s.issued k (encI 0x05 p rd.val rs1.val (BitVec.ofNat 15 (row.2.1 * 2 ^ 12 + sh.toNat))) = some ch →
    Retires (row.1 k p rd rs1 sh) s k (ch.wg k.w rd 1 (row.2.2 (ch.rg k.w rs1) sh.toNat)) (ch.pcOf k + 4#64) 1

/-- KLO writes its immediate sign-extended; KPC writes PC plus four times it; LSI shifts g[rd] left by 16 and sets the low 16 bits. -/
def Sys2Proof.Claims.Constants : Prop :=
  ∀ (s : State) (k : CoreId) (p : Bool) (rd : Fin 32) (ch : Chan),
    (∀ imm, s.issued k (encU 0x08 p rd.val imm) = some ch →
      Retires (.klo k p rd imm) s k (ch.wg k.w rd 1 (imm.signExtend 64)) (ch.pcOf k + 4#64) 1) ∧
    (∀ imm, s.issued k (encU 0x09 p rd.val imm) = some ch →
      Retires (.kpc k p rd imm) s k (ch.wg k.w rd 1 (ch.pcOf k + imm.signExtend 64 * 4#64)) (ch.pcOf k + 4#64) 1) ∧
    ∀ imm : BitVec 16, s.issued k (encU 0x0A p rd.val (imm.zeroExtend 20)) = some ch →
      Retires (.lsi k p rd imm) s k (ch.wg k.w rd 1 (ch.rg k.w rd * 65536#64 + imm.zeroExtend 64)) (ch.pcOf k + 4#64) 1

/-- The 32-bit integer operations, integer operations with an immediate, and constants. -/
def Obligations.ImmediateOperations : Prop := Claims.Integer32 ∧ Claims.IntegerImmediate ∧ Claims.Constants

/-- The multiplies write at distance 3; MULHI writes bits [127:64] of the product of the operands as signed or unsigned numbers. -/
def Sys2Proof.Claims.Multiply : Prop :=
  (∀ row ∈ Claims.mul, ∀ (s : State) (k : CoreId) (p : Bool) (rd rs1 rs2 : Fin 32) (ch : Chan),
    s.issued k (encR 0x0C p rd.val rs1.val rs2.val 0 row.2.1) = some ch →
    Retires (row.1 k p rd rs1 rs2) s k (ch.wg k.w rd 3 (row.2.2 (ch.rg k.w rs1) (ch.rg k.w rs2))) (ch.pcOf k + 4#64) 1) ∧
  ∀ (s : State) (k : CoreId) (p : Bool) (rd rs1 rs2 rs3 : Fin 32) (ch : Chan),
    s.issued k (encR 0x0C p rd.val rs1.val rs2.val rs3.val 5) = some ch →
    Retires (.muladd k p rd rs1 rs2 rs3) s k (ch.wg k.w rd 3 (ch.rg k.w rs1 * ch.rg k.w rs2 + ch.rg k.w rs3)) (ch.pcOf k + 4#64) 1

/-- A divide issues in one cycle and leaves its quotient or remainder to the long-operation queue, with the figure of its width; nothing is
written before it completes. With no entry free it goes on once one frees; when every entry has faulted it waits in IS. -/
def Sys2Proof.Claims.Divide : Prop :=
  ∀ row ∈ Claims.div, ∀ (s : State) (k : CoreId) (p : Bool) (rd rs1 rs2 : Fin 32) (ch : Chan),
    let put := fun c : Chan => c.loqPut (s.mtl k.ch) k.w .idiv (some false) rd ((row.2.2 (ch.rg k.w rs1) (ch.rg k.w rs2)).zeroExtend 128) 0#5 none
      (if 12 ≤ row.2.1 then 22 else 38)
    s.issued k (encR 0x0C p rd.val rs1.val rs2.val 0 row.2.1) = some ch →
    ((ch.core k.w).loqFree ≠ none → Retires (row.1 k p rd rs1 rs2) s k (put ch) (ch.pcOf k + 4#64) 1) ∧
    (∀ c1, ch.loqRoom (s.mtl k.ch) k.w = (c1, true) → Retires (row.1 k p rd rs1 rs2) s k (put c1) (ch.pcOf k + 4#64) 1) ∧
    ∀ c1, ch.loqRoom (s.mtl k.ch) k.w = (c1, false) → exec (row.1 k p rd rs1 rs2) s = .next (s.onChan k.ch fun _ => c1)

/-- Division at its corners: a quotient by zero is 0 and the remainder the dividend; the most negative value by −1 is itself with remainder
0; the other words of major 0x0C are undefined encodings; a divide's entry that completes is free and raises nothing. -/
def Sys2Proof.Claims.DivisionCorners : Prop :=
  (∀ row ∈ Claims.div, ∀ a : W64, row.2.2 a 0#64 = if row.2.1 = 10 ∨ row.2.1 = 11 then a
    else if row.2.1 = 14 ∨ row.2.1 = 15 then (a.truncate 32 : W32).signExtend 64 else 0#64) ∧
  (∀ row ∈ Claims.div, ∀ a : W64,
    (a = 0x8000000000000000#64 → (row.2.1 = 8 → row.2.2 a (-1#64) = a) ∧ (row.2.1 = 10 → row.2.2 a (-1#64) = 0#64)) ∧
    ((a.truncate 32 : W32) = 0x80000000#32 →
      (row.2.1 = 12 → row.2.2 a (-1#64) = 0xFFFFFFFF80000000#64) ∧ (row.2.1 = 14 → row.2.2 a (-1#64) = 0#64))) ∧
  (∀ (u : Ucode) (p : Bool) (rd rs1 rs2 rs3 fn : Nat), rd < 32 → rs1 < 32 → rs2 < 32 → rs3 < 32 → fn < 32 →
    (definedWord u (encR 0x0C p rd rs1 rs2 rs3 fn) = true ↔ fn ≠ 6 ∧ fn ≠ 7 ∧ fn ≤ 15 ∧ (fn ≠ 5 → rs3 = 0))) ∧
  ∀ (m : MantleTable) (ch : Chan) (w : Fin 8) (rd i : Fin 32) (x : W128) (most t : Nat), (ch.core w).loqFree = some i →
    (((ch.loqPut m w .idiv (some false) rd x 0#5 none most).completeAt m w i t).core w).loq[i] = LoqEnt.empty

/-- Products, quotients and remainders. -/
def Obligations.MultiplyDivide : Prop := Claims.Multiply ∧ Claims.Divide ∧ Claims.DivisionCorners

/-- A long operation enters the first free entry, pending, with its operation, destination, value and flags and the instruction's PC; it
starts six cycles after it issues, and its figures are those of R97. A free entry makes nothing wait. -/
def Sys2Proof.Claims.LongOperationEnters : Prop :=
  ∀ (m : MantleTable) (ch : Chan) (w : Fin 8) (op : LoqOp) (file : Option Bool) (rd : Fin 32) (x : W128) (fl : FFlags) (far : Option FarAcc)
    (most : Nat) (i : Fin 32), (ch.core w).loqFree = some i → (∀ f, far = some f → ∀ p ∈ f.parts, p.attr ≠ .farLane) →
    ch.loqRoom m w = (ch, true) ∧
    ∃ c : Chan, ch.Counted w c ∧ ch.loqPut m w op file rd x fl far most = c.setCore w { c.core w with
      seq := (ch.core w).seq + 1,
      loq := (ch.core w).loq.set i ⟨.pending, op, file, rd, 16 * fl.toNat, (ch.core w).pc, (ch.core w).seq, x, none, far, 0, (ch.core w).cyc + 6,
        (ch.figures w most far).1, (ch.figures w most far).2⟩ }

/-- The completion of a pending operation without a far access, once its first cycle has come (after its unit has finished those before it): its
result reaches its register unless a younger writer has overtaken it, a reader obtains it from the next cycle on, its flags reach FPCTL, its entry and
its unit are free; with an exception enabled the entry records the fault and writes no result. -/
def Sys2Proof.Claims.LongOperationCompletes : Prop :=
  ∀ (s : State) (k : CoreId) (i : Fin 32), let ch := s.ch k.ch; let c := ch.core k.w; let e := c.loq[i]
    let f : W64 := if loqFlags e = 0#5 then c.fpctl else fpctlSet c.fpctl (loqFlags e)
    let t := match (c.window e).2 with | some h => min h c.cyc | none => c.cyc
    let u := match e.op.unit with | 1 => (t, c.units.2) | 2 => (c.units.1, t) | _ => c.units
    let gone := fun ch : Chan => ({ ch with free := ch.free + 1 } : Chan).farGone k.w i
    ch.life = .up → e.st = .pending → e.far = none → (∀ q ∈ ch.cxlReqs, q.kind ≠ .far k.w i) → c.unitBusy e = false → (e.op = .crcb → c.elem = none) →
    c.wait = .none → (c.window e).1 ≤ c.cyc →
    (fpTrap f (loqFlags e) = 0#5 →
      ∃ c' : Core, exec (.longOperationComplete k i) s = .next (s.onChan k.ch fun ch => (gone ch).setCore k.w c') ∧
        c' = { c with fpctl := f, units := u, g := c'.g, v := c'.v, pend := c'.pend, loq := c'.loq } ∧ c'.loq[i] = LoqEnt.empty ∧
        (∀ j : Fin 32, j ≠ i → c'.loq[j] = { c.loq[j] with dead := (c'.loq[j]).dead }) ∧
        (∀ p ∈ c'.pend, (∃ q ∈ c.pend, p.reg = q.reg ∧ p.new = q.new ∧ p.due = q.due) ∨ p.due ≤ c.cyc + 1) ∧
        (∀ r : Fin 32, c'.g[r] = if e.file = some false ∧ e.dead = none ∧ e.dest = r ∧ r ≠ 0 then e.value.truncate 64 else c.g[r]) ∧
        ∀ r : Fin 32, c'.v[r] = if e.file = some true ∧ e.dead = none ∧ e.dest = r then e.value else c.v[r]) ∧
    (fpTrap f (loqFlags e) ≠ 0#5 →
      ∃ b : Chan, (gone ch).Counted k.w b ∧
        exec (.longOperationComplete k i) s = .next (s.onChan k.ch fun _ => b.setCore k.w { b.core k.w with
          fpctl := f, units := u, loq := c.loq.set i { e with st := .faulted, cause := 1 } }))

/-- A long operation enters the queue and completes. -/
def Obligations.LongOperations : Prop := Claims.LongOperationEnters ∧ Claims.LongOperationCompletes

/-- The CRC steps apply 8, 16, 32 or 64 bits of g[rs1], byte 0 first, to the accumulator g[rd] under the configuration g[rs2], as the
manual's loop does, and write it at distance 2; WIDTH 0b11 writes nothing. Bits above WIDTH are 0 on output, whatever they were, and bits
of POLY above it and of the configuration above REFIN do not matter. The manual's example comes out. -/
def Obligations.CrcSteps : Prop :=
  (∀ row ∈ Claims.crc, ∀ (s : State) (k : CoreId) (p : Bool) (rd rs1 rs2 : Fin 32) (ch : Chan),
    s.issued k (encR 0x34 p rd.val rs1.val rs2.val 0 row.2.1) = some ch → let cfg := ch.rg k.w rs2
    (cfg.toNat / 2 ^ 32 % 4 = 3 → Retires (row.1 k p rd rs1 rs2) s k ch (ch.pcOf k + 4#64) 1) ∧
    (cfg.toNat / 2 ^ 32 % 4 ≠ 3 → Retires (row.1 k p rd rs1 rs2) s k
      (ch.wg k.w rd 2 (Claims.crcResult cfg (ch.rg k.w rd) (ch.rg k.w rs1) (8 * row.2.2))) (ch.pcOf k + 4#64) 1)) ∧
  (∀ (cfg acc data : W64) (n : Nat), cfg.toNat / 2 ^ 32 % 4 ≠ 3 → let w := 8 * 2 ^ (cfg.toNat / 2 ^ 32 % 4)
    (Claims.crcResult cfg acc data n).toNat < 2 ^ w ∧
    ∀ cfg' acc' : W64, cfg'.toNat % 2 ^ w = cfg.toNat % 2 ^ w → cfg'.toNat / 2 ^ 32 % 8 = cfg.toNat / 2 ^ 32 % 8 →
      acc'.toNat % 2 ^ w = acc.toNat % 2 ^ w → Claims.crcResult cfg' acc' data n = Claims.crcResult cfg acc data n) ∧
  (let cfg : W64 := 0x61EDC6F41#64
   Claims.crcResult cfg (Claims.crcResult cfg (-1#64) 0x3837363534333231#64 64) 0x39#64 8 ^^^ 0xFFFFFFFF#64 = 0xE3069283#64)


/-! ## Loads and stores -/

/-- A load whose access passes every check and meets no poison writes its bytes, zero- or sign-extended, at distance 3; the vector and Taper
loads write v[rd] and c[rd]. From the Calm store, within reach and past every buffered store, the bytes are those of memory, in 2 cycles. -/
def Sys2Proof.Claims.Loads : Prop :=
  ∀ (s : State) (k : CoreId) (p : Bool) (rs1 : Fin 32) (imm : BitVec 15) (ch : Chan), let va := ch.rg k.w rs1 + imm.signExtend 64; let m := s.mtl k.ch
    (∀ (c1 c2 : Chan) (ps : List Part) (b : List Byte) (tag : Bool), let cost := c1.loadCost k.w ps
      let still := if c2.fixedCore k.w ∧ ps.any (fun p => p.attr = .device) then cost - 2 else 0
      let done := fun c : Chan => (c.trainPrefetch m k.w (c1.l1dMisses k.w ps)).onCore k.w fun x => x.frozenPart (x.cyc + 3) still
      (c1.splitFreeze k.w ps).loadParts m k.w false ps 0 = (c2, b, none, tag) →
      (∀ row ∈ Claims.loads, ∀ rd : Fin 32, s.issued k (encI row.2.1 p rd.val rs1.val imm) = some ch →
        ch.granted m k.w accLoad va row.2.2.1 = some (c1, ps) →
        Retires (row.1 k p rd rs1 imm) s k (done (c2.wg k.w rd 3 (row.2.2.2 b.length (leNat b)))) (ch.pcOf k + 4#64) cost) ∧
      (∀ rd : Fin 32, s.issued k (encI 0x17 p rd.val rs1.val imm) = some ch → ch.granted m k.w accLoad va 16 = some (c1, ps) →
        Retires (.lv k p rd rs1 imm) s k (done (c2.wv k.w rd 3 (BitVec.ofNat 128 (leNat b)))) (ch.pcOf k + 4#64) cost) ∧
      ∀ cd : Fin 16, s.issued k (encI 0x31 p cd.val rs1.val imm) = some ch → ch.granted m k.w accTld va 16 = some (c1, ps) →
        Retires (.tld k p cd rs1 imm) s k (done (c2.wc k.w cd 3 ⟨BitVec.ofNat 128 (leNat b), tag⟩)) (ch.pcOf k + 4#64) cost) ∧
    (∀ row ∈ Claims.loads, ∀ rd : Fin 32, s.issued k (encI row.2.1 p rd.val rs1.val imm) = some ch →
      ch.CalmReach m k.w va row.2.2.1 accLoad.perms → ch.CalmClear k.w va.toNat row.2.2.1 →
      Retires (row.1 k p rd rs1 imm) s k (ch.wg k.w rd 3 (row.2.2.2 row.2.2.1 (leNat (readBytes ch.calm va.toNat row.2.2.1)))) (ch.pcOf k + 4#64) 2) ∧
    (∀ rd : Fin 32, s.issued k (encI 0x17 p rd.val rs1.val imm) = some ch → ch.CalmReach m k.w va 16 accLoad.perms → ch.CalmClear k.w va.toNat 16 →
      Retires (.lv k p rd rs1 imm) s k (ch.wv k.w rd 3 (BitVec.ofNat 128 (leNat (readBytes ch.calm va.toNat 16)))) (ch.pcOf k + 4#64) 2) ∧
    ∀ cd : Fin 16, s.issued k (encI 0x31 p cd.val rs1.val imm) = some ch → ch.CalmReach m k.w va 16 accTld.perms → ch.CalmClear k.w va.toNat 16 →
      Retires (.tld k p cd rs1 imm) s k
        (ch.wc k.w cd 3 ⟨BitVec.ofNat 128 (leNat (readBytes ch.calm va.toNat 16)), setHas ch.calmTag (va.toNat / 16)⟩) (ch.pcOf k + 4#64) 2

/-- An aligned access of the Calm store within reach is one part at its own address, granted with nothing changed. What a load of it reads:
the bytes of the youngest buffered store of the core that overlaps it, when that store covers it, else, when none overlaps, those of
memory, with the granule's tag. -/
def Sys2Proof.Claims.CalmLoad : Prop :=
  ∀ (m : MantleTable) (ch : Chan) (w : Fin 8) (va : W64) (n : Nat) (a : Access), 0 < n → n ≤ 16 → a.stph = false →
    ch.CalmReach m w va n a.perms →
    let pt : Part := ⟨va.toNat, n, .calm⟩
    ch.granted m w a va n = some (ch, [pt]) ∧
    (ch.CalmClear w pt.pa n → ∀ ll, ch.loadParts m w ll [pt] 0 = (ch, readBytes ch.calm pt.pa n, none, setHas ch.calmTag (pt.pa / 16))) ∧
    ∀ e, ((ch.core w).sb.filter fun e => laps e.part.pa e.part.n pt.pa n).getLast? = some e → e.part.pa ≤ pt.pa → pt.pa + n ≤ e.part.pa + e.part.n →
      ∃ c : Core, ch.loadParts m w false [pt] 0 =
          (ch.setCore w { ch.core w with sb := c.sb }, ((leBytes e.data.toNat 16).drop (pt.pa - e.part.pa)).take n, none, e.tag && e.part.n = 16) ∧
        c.sb.length = (ch.core w).sb.length

/-- Loads. -/
def Obligations.LoadResults : Prop := Claims.Loads ∧ Claims.CalmLoad

/-- A store whose access passes every check enters the store buffer, one entry for each part; memory keeps every byte. To the Calm store,
within reach and with room in the buffer, that is one entry behind the others, in 2 cycles. -/
def Sys2Proof.Claims.Stores : Prop :=
  ∀ (s : State) (k : CoreId) (p : Bool) (rs1 : Fin 32) (imm : BitVec 15) (ch : Chan), let va := ch.rg k.w rs1 + imm.signExtend 64; let m := s.mtl k.ch
    (∀ (c1 : Chan) (ps : List Part),
      let entered := fun (data : W128) (tag : Bool) => (c1.splitFreeze k.w ps).enter m k.w (storeEnts ps data tag (c1.core k.w).pcc.mantle)
      (∀ row ∈ Claims.stores, ∀ rs2 : Fin 32, s.issued k (encI row.2.1 p rs2.val rs1.val imm) = some ch →
        ch.granted m k.w accStore va row.2.2 = some (c1, ps) →
        Retires (row.1 k p rs2 rs1 imm) s k (entered ((ch.rg k.w rs2).zeroExtend 128) false) (ch.pcOf k + 4#64) (c1.storeCost k.w ps)) ∧
      (∀ rs2 : Fin 32, s.issued k (encI 0x1C p rs2.val rs1.val imm) = some ch → ch.granted m k.w accStore va 16 = some (c1, ps) →
        Retires (.sv k p rs2 rs1 imm) s k (entered (ch.rv k.w rs2) false) (ch.pcOf k + 4#64) (c1.storeCost k.w ps)) ∧
      ∀ cs2 : Fin 16, s.issued k (encI 0x32 p cs2.val rs1.val imm) = some ch → ch.granted m k.w accTst va 16 = some (c1, ps) →
        Retires (.tst k p cs2 rs1 imm) s k (entered (ch.rc k.w cs2).bits (ch.rc k.w cs2).tag) (ch.pcOf k + 4#64) (c1.storeCost k.w ps)) ∧
    (∀ (m : MantleTable) (e : SbEnt), (ch.core k.w).sbUsed < 16 →
      ch.enter m k.w [e] = ch.onCore k.w fun c =>
        { c with sb := c.sb ++ [{ e with born := c.cyc, leave := if ch.fixedCore k.w then c.leaveAt e else 0 }], l1i := setDel c.l1i (e.part.pa / 64) }) ∧
    let put := fun (n : Nat) (data : W128) (tag : Bool) => ch.enter m k.w [⟨⟨va.toNat, n, .calm⟩, data, tag, false, false, (ch.core k.w).pcc.mantle, 0, 0⟩]
    (∀ row ∈ Claims.stores, ∀ rs2 : Fin 32, s.issued k (encI row.2.1 p rs2.val rs1.val imm) = some ch →
      ch.CalmReach m k.w va row.2.2 accStore.perms →
      Retires (row.1 k p rs2 rs1 imm) s k (put row.2.2 ((ch.rg k.w rs2).zeroExtend 128) false) (ch.pcOf k + 4#64) 2) ∧
    (∀ rs2 : Fin 32, s.issued k (encI 0x1C p rs2.val rs1.val imm) = some ch → ch.CalmReach m k.w va 16 accStore.perms →
      Retires (.sv k p rs2 rs1 imm) s k (put 16 (ch.rv k.w rs2) false) (ch.pcOf k + 4#64) 2) ∧
    ∀ cs2 : Fin 16, s.issued k (encI 0x32 p cs2.val rs1.val imm) = some ch → ch.CalmReach m k.w va 16 accTst.perms →
      Retires (.tst k p cs2 rs1 imm) s k (put 16 (ch.rc k.w cs2).bits (ch.rc k.w cs2).tag) (ch.pcOf k + 4#64) 2

/-- The oldest buffered store to the Calm store, no hold on its line and its time come, leaves the buffer: its bytes are in memory, every other byte of memory is as before; the tags
of its granules are the store's own, all others as before; no other core keeps a reservation on its line. -/
def Sys2Proof.Claims.StoreDrains : Prop :=
  ∀ (s : State) (k : CoreId) (e : SbEnt) (rest : List SbEnt), let ch := s.ch k.ch; let p := e.part
    ch.life = .up → (ch.core k.w).sb = e :: rest → p.attr = .calm → 0 < p.n → p.n ≤ 16 → ch.farPending p.pa p.n = [] →
    ch.heldBy k.w (p.pa / 64) = none → (ch.fixedCore k.w = true → e.leave ≤ (ch.core k.w).cyc) →
    ∃ t, exec (.storeBufferDrain k) s = .next (s.onChan k.ch fun _ => t) ∧ (t.core k.w).sb = rest ∧ t.cxl = ch.cxl ∧ t.regs = ch.regs ∧
      (∀ a, Memory.byte t.calm a = if p.pa ≤ a ∧ a < p.pa + p.n then byteOf e.data (a - p.pa) else Memory.byte ch.calm a) ∧
      (∀ g, p.pa / 16 ≤ g → g ≤ (p.pa + p.n - 1) / 16 → setHas t.calmTag g = e.tag) ∧
      (∀ g, (g < p.pa / 16 ∨ (p.pa + p.n - 1) / 16 < g) → setHas t.calmTag g = setHas ch.calmTag g) ∧
      ∀ v : Fin 8, v ≠ k.w → (t.core v).resv = if (ch.core v).resv = some (p.pa / 64) then none else (ch.core v).resv

/-- Stores, and their way out of the buffer. -/
def Obligations.StoreEffects : Prop := Claims.Stores ∧ Claims.StoreDrains

/-- A far access that passes every check issues as a long operation: LDF with its parts and no value yet, STF with its data; an STF loses the
core's reservation. With no entry free it goes on once one frees; when every entry has faulted it waits in IS. To the Calm store, within
reach, past the core's own stores and with an entry free, it issues in one cycle. -/
def Sys2Proof.Claims.FarAccesses : Prop :=
  ∀ (s : State) (k : CoreId) (p : Bool) (sz : FarSize) (rs1 : Fin 32) (off : BitVec 12) (ch : Chan),
    let va := ch.rg k.w rs1 + off.signExtend 64; let m := s.mtl k.ch; let n := 2 ^ farCode sz
    let quad : Bool := match sz with | .quad => true | _ => false
    let data := fun rs2 : Fin 32 => if quad then ch.rv k.w rs2 else (ch.rg k.w rs2).zeroExtend 128
    let ldf := fun (c : Chan) (rd : Fin 32) (ps : List Part) => c.loqPut m k.w .ldf (some quad) rd 0#128 0#5 (some (farOf false ps)) 0
    let stf := fun (c : Chan) (rs2 : Fin 32) (ps : List Part) =>
      (c.onCore k.w fun x => { x with resv := none }).loqPut m k.w .stf none 0 (data rs2) 0#5 (some (farOf true ps)) 0
    (∀ rd : Fin 32, s.issued k (encI 0x1D p rd.val rs1.val (BitVec.ofNat 15 (farCode sz * 4096 + off.toNat))) = some ch →
      (∀ c1 c2 ps, ch.granted m k.w accLdf va n = some (c1, ps) → c1.loqRoom m k.w = (c2, true) → let c3 := c2.farReady m k.w ps
        Retires (.ldf k p sz rd rs1 off) s k (ldf c3 rd ps) (ch.pcOf k + 4#64) (c3.farCost k.w ps)) ∧
      (∀ c1 c2 ps, ch.granted m k.w accLdf va n = some (c1, ps) → c1.loqRoom m k.w = (c2, false) →
        exec (.ldf k p sz rd rs1 off) s = .next (s.onChan k.ch fun _ => c2)) ∧
      (ch.CalmReach m k.w va n accLdf.perms → (ch.core k.w).loqFree ≠ none →
        (∀ e ∈ (ch.core k.w).sb ++ (ch.core k.w).posted, laps e.part.pa e.part.n va.toNat n = false) →
        Retires (.ldf k p sz rd rs1 off) s k (ldf ch rd [⟨va.toNat, n, .calm⟩]) (ch.pcOf k + 4#64) 1)) ∧
    ∀ rs2 : Fin 32, s.issued k (encI 0x1E p rs2.val rs1.val (BitVec.ofNat 15 (farCode sz * 4096 + off.toNat))) = some ch →
      (∀ c1 c2 ps, ch.granted m k.w accStf va n = some (c1, ps) → c1.loqRoom m k.w = (c2, true) → let c3 := c2.farReady m k.w ps
        Retires (.stf k p sz rs2 rs1 off) s k (stf c3 rs2 ps) (ch.pcOf k + 4#64) (c3.farCost k.w ps)) ∧
      (∀ c1 c2 ps, ch.granted m k.w accStf va n = some (c1, ps) → c1.loqRoom m k.w = (c2, false) →
        exec (.stf k p sz rs2 rs1 off) s = .next (s.onChan k.ch fun _ => c2)) ∧
      (ch.CalmReach m k.w va n accStf.perms → (ch.core k.w).loqFree ≠ none →
        (∀ e ∈ (ch.core k.w).sb ++ (ch.core k.w).posted, laps e.part.pa e.part.n va.toNat n = false) →
        Retires (.stf k p sz rs2 rs1 off) s k (stf ch rs2 [⟨va.toNat, n, .calm⟩]) (ch.pcOf k + 4#64) 1)

/-- The end of a long operation or a hold that no instruction asks for: a far access to the HDM window that exceeds its time is faulted with
CAUSE 3, an LDF on a core that does not wait with nothing else changed but its token; a hold that reaches 256 cycles takes the reservation
with it. What a far access to the Calm store completes with: an LDF's bytes reach its register, an STF's reach memory. -/
def Sys2Proof.Claims.LimitsReached : Prop :=
  (∀ (s : State) (k : CoreId) (i : Fin 32) (f : FarAcc), let ch := s.ch k.ch; let e := (ch.core k.w).loq[i]
    ch.life = .up → e.st = .pending → e.far = some f → (∃ p ∈ f.parts, hdmBase ≤ p.pa) → (f.write = true ∨ f.over = false) →
    Leaves (.farTimeout k i) s k.ch (fun t => ((t.core k.w).loq[i]).st = .faulted ∧ ((t.core k.w).loq[i]).cause = 3) ∧
    (e.op = .ldf → (ch.core k.w).wait = .none →
      ∃ b : Chan, (({ ch with free := ch.free + 1 } : Chan).farGone k.w i).Counted k.w b ∧ exec (.farTimeout k i) s =
        .next (s.onChan k.ch fun _ => b.onCore k.w fun c => { c with loq := c.loq.set i { e with st := .faulted, cause := 3 } }))) ∧
  (∀ (s : State) (k : CoreId) (h : Hold), let ch := s.ch k.ch; let c := ch.core k.w
    c.hold = some h →
    Leaves (.llHoldLimit k) s k.ch fun t => let x := t.core k.w
      x.hold = none ∧ x.resv = none ∧ x.cyc = c.cyc + h.cycles ∧ x.pc = c.pc ∧ x.g = c.g ∧ x.v = c.v ∧
        x.c = c.c ∧ x.sb = c.sb ∧ t.calm = ch.calm ∧ t.cxl = ch.cxl) ∧
  ∀ (s : State) (k : CoreId) (i : Fin 32) (pt : Part) (wr : Bool), let ch := s.ch k.ch; let c := ch.core k.w; let e := c.loq[i]
    ch.life = .up → e.st = .pending → e.far = some ⟨wr, [pt], 0, false⟩ → pt.attr = .calm → 0 < pt.n → pt.n ≤ 16 → pt.pa < hdmBase →
    (∀ (v : Fin 8) (j : Fin 32), (v, j) ≠ (k.w, i) → ((ch.core v).loq[j]).far = none) → (∀ q ∈ ch.cxlReqs, q.kind ≠ .far k.w i) →
    c.unitBusy e = false → e.op ≠ .crcb → c.wait = .none → (c.window e).1 ≤ c.cyc → loqFlags e = 0#5 →
    (wr = false → setHas ch.calmPois (pt.pa / 64) = false → let x := e.value ||| BitVec.ofNat 128 (leNat (readBytes ch.calm pt.pa pt.n))
      Leaves (.longOperationComplete k i) s k.ch fun t => (t.core k.w).loq[i] = LoqEnt.empty ∧ t.calm = ch.calm ∧ (t.core k.w).pc = c.pc ∧
        (∀ r : Fin 32, (t.core k.w).g[r] = if e.file = some false ∧ e.dead = none ∧ e.dest = r ∧ r ≠ 0 then x.truncate 64 else c.g[r]) ∧
        ∀ r : Fin 32, (t.core k.w).v[r] = if e.file = some true ∧ e.dead = none ∧ e.dest = r then x else c.v[r]) ∧
    (wr = true → e.file = none → ch.heldBy k.w (pt.pa / 64) = none →
      Leaves (.longOperationComplete k i) s k.ch fun t => (t.core k.w).loq[i] = LoqEnt.empty ∧ (t.core k.w).g = c.g ∧ (t.core k.w).v = c.v ∧
        (t.core k.w).pc = c.pc ∧
        ∀ a, Memory.byte t.calm a = if pt.pa ≤ a ∧ a < pt.pa + pt.n then byteOf e.value (a - pt.pa) else Memory.byte ch.calm a)

/-- Far accesses, and the limits they meet. -/
def Obligations.FarLimits : Prop := Claims.FarAccesses ∧ Claims.LimitsReached


/-! ## LL, SC and the atomics -/

/-- LL reads as a load does, reserves its line and starts the hold of 256 cycles, which follow the freezes before its data arrives; SC succeeds only with that reservation: in the Calm store,
with an empty store buffer, it then writes its bytes and g[rd] = 0, else it writes nothing and g[rd] = 1; either way none is left. -/
def Obligations.LoadLinkedStoreConditional : Prop :=
  ∀ (s : State) (k : CoreId) (p d : Bool) (rd rs1 : Fin 32) (ch : Chan), let va := ch.rg k.w rs1; let n := if d then 8 else 4; let m := s.mtl k.ch
    (s.issued k (encR 0x20 p rd.val rs1.val 0 0 (16 * b2n d)) = some ch →
      let reserved := fun (c : Chan) (x : Nat) (line : Nat) => (c.wg k.w rd 3 (Claims.sized d x)).onCore k.w fun c =>
        { c with resv := some line, hold := some ⟨line, 0, 256 + (c.ices.map (·.n)).sum⟩ }
      (∀ c1 ps c2 b tag, ch.granted m k.w accLL va n = some (c1, ps) → c1.loadParts m k.w true ps 0 = (c2, b, none, tag) →
        Retires (.ll k p d rd rs1) s k (reserved (c2.trainPrefetch m k.w (c1.l1dMisses k.w ps)) (leNat b) (((ps.map fun p => p.pa).headD 0) / 64))
          (ch.pcOf k + 4#64) (c1.loadCost k.w ps)) ∧
      (ch.CalmReach m k.w va n accLL.perms → ch.CalmClear k.w va.toNat n →
        Retires (.ll k p d rd rs1) s k (reserved ch (leNat (readBytes ch.calm va.toNat n)) (va.toNat / 64)) (ch.pcOf k + 4#64) 2)) ∧
    ∀ rs2 : Fin 32, s.issued k (encR 0x20 p rd.val rs1.val rs2.val 0 (1 + 16 * b2n d)) = some ch →
      let result := fun (c : Chan) (ok : Bool) (cost : Nat) =>
        ((if ok then c else c.event m k.w 0x15).wg k.w rd 3 (if ok then 0#64 else 1#64)).onCore k.w fun c => c.frozenPart (c.cyc + 3) (cost - 2)
      (∀ c1 c2 pt ps ok, ch.granted m k.w accSC va n = some (c1, pt :: ps) → c1.scDo m k.w pt (ch.rg k.w rs2) = (c2, ok, false) →
        let cost := c1.atomCost k.w (pt.pa / 64)
        Retires (.sc k p d rd rs1 rs2) s k (result c2 ok cost) (ch.pcOf k + 4#64) cost) ∧
      (ch.CalmReach m k.w va n accSC.perms → (ch.core k.w).sb = [] → ch.farPending va.toNat n = [] → ch.heldBy k.w (va.toNat / 64) = none →
        let c1 := ch.onCore k.w fun c => { c with resv := none, hold := none }
        let ok : Bool := (ch.core k.w).resv = some (va.toNat / 64)
        Retires (.sc k p d rd rs1 rs2) s k
          (result (if ok then c1.calmWrite (some k.w) va.toNat (leBytes (ch.rg k.w rs2).toNat n) false false else c1) ok 6) (ch.pcOf k + 4#64) 6)

/-- An atomic operation that passes every check and meets no poison writes the old value to g[rd], 32-bit forms sign-extended; in the Calm
store it takes the value there and leaves what its operation gives, ATCAS only where the old value equals the expected one, in 6 cycles
with an empty store buffer. -/
def Obligations.Atomics : Prop :=
  (∀ row ∈ Claims.atomics, ∀ (s : State) (k : CoreId) (p d : Bool) (rd rs1 rs2 rs3 : Fin 32) (ch : Chan),
    let m := s.mtl k.ch; let n := if d then 8 else 4; let va := ch.rg k.w rs1
    let src := ch.rg k.w rs2; let cmp := if row.2.2 = .cas then ch.rg k.w rs3 else 0#64
    let result := fun (c : Chan) (old cost : Nat) => (c.wg k.w rd 3 (Claims.sized d old)).onCore k.w fun c => c.frozenPart (c.cyc + 3) (cost - 2)
    s.issued k (encR 0x20 p rd.val rs1.val rs2.val (if row.2.2 = .cas then rs3.val else 0) (row.2.1 + 16 * b2n d)) = some ch →
    (∀ c1 c2 pt ps old, ch.granted m k.w accAmo va n = some (c1, pt :: ps) → c1.amoDo m k.w pt row.2.2 src cmp = (c2, old, false) →
      let cost := c1.atomCost k.w (pt.pa / 64)
      Retires (row.1 k p d rd rs1 rs2 rs3) s k (result c2 old.toNat cost) (ch.pcOf k + 4#64) cost) ∧
    (ch.CalmReach m k.w va n accAmo.perms → (ch.core k.w).sb = [] → ch.farPending va.toNat n = [] → setHas ch.calmPois (va.toNat / 64) = false →
      ch.heldBy k.w (va.toNat / 64) = none → let old := leNat (readBytes ch.calm va.toNat n)
      Retires (row.1 k p d rd rs1 rs2 rs3) s k
        (result (if row.2.2 = .cas ∧ old ≠ cmp.toNat % 2 ^ (8 * n) then ch else
          (ch.onCore k.w fun c => { c with resv := none }).calmWrite (some k.w) va.toNat (leBytes (Claims.amo n row.2.2 old src.toNat cmp.toNat) n) false false)
          old 6) (ch.pcOf k + 4#64) 6)) ∧
  ∀ (m : MantleTable) (ch : Chan) (w : Fin 8) (pa n : Nat) (op : AmoOp) (src cmp : W64), ch.fixedCore w = true → (n = 4 ∨ n = 8) →
    (ch.core w).sb = [] → ch.farPending pa n = [] → setHas ch.calmPois (pa / 64) = false →
    let old := leNat (readBytes ch.calm pa n)
    ∃ c2 : Chan, ch.amoDo m w ⟨pa, n, .calm⟩ op src cmp = (c2, BitVec.ofNat 64 old, false) ∧
      ∀ a, Memory.byte c2.calm a = if pa ≤ a ∧ a < pa + n then byteOf (BitVec.ofNat 64 (Claims.amo n op old src.toNat cmp.toNat)) (a - pa)
        else Memory.byte ch.calm a

/-! ## Barriers and waits -/

/-- The barriers complete: FENCE after every buffered store has left and every posted one is performed; FENCE.SL after the buffer has
drained, FENCE.SS with a mark that orders what follows, FENCE.LL after the stores that loads were forwarded from, where costs are not
fixed; IFENCE in 8 cycles; ICINV takes its line from every core's L1I. A buffer of Calm stores is empty after FENCE. -/
def Sys2Proof.Claims.Barriers : Prop :=
  (∀ (s : State) (k : CoreId) (p : Bool) (ch : Chan), let m := s.mtl k.ch; let all := (ch.drainAll m k.w).postAll k.w
    (s.issued k (encR 0x21 p 0 0 0 0 0) = some ch → Retires' (.fence k p) s k all (ch.pcOf k + 4#64)) ∧
    (s.issued k (encR 0x21 p 0 0 0 0 1) = some ch →
      Retires' (.fenceSl k p) s k (if ch.fixedCore k.w then all else ch.drainAll m k.w) (ch.pcOf k + 4#64)) ∧
    (s.issued k (encR 0x21 p 0 0 0 0 2) = some ch →
      Retires' (.fenceSs k p) s k (if ch.fixedCore k.w then all else ch.onCore k.w fun c => { c with sb := c.sb ++ [ssMark] }) (ch.pcOf k + 4#64)) ∧
    (s.issued k (encR 0x21 p 0 0 0 0 3) = some ch →
      Retires' (.fenceLl k p) s k (if ch.fixedCore k.w then all else ch.drainTo m k.w fun e => e.fwd) (ch.pcOf k + 4#64)) ∧
    (s.issued k (encR 0x21 p 0 0 0 0 4) = some ch → Retires (.ifence k p) s k (ch.onCore k.w fun c => { c with fetched := [] }) (ch.pcOf k + 4#64) 8) ∧
    ∀ (rs1 : Fin 32) (c1 : Chan) (pa attr : Nat) (no : Option Nat), s.issued k (encR 0x21 p 0 rs1.val 0 0 5) = some ch →
      ch.translate m k.w (ch.rg k.w rs1).toNat false false = (c1, .ok (pa, attr, no)) →
      let c2 := c1.drainTo m k.w fun e => e.part.pa / 64 == pa / 64
      Retires' (.icinv k p rs1) s k { c2 with cores := c2.cores.map fun c => { c with l1i := setDel c.l1i (pa / 64) } } (ch.pcOf k + 4#64)) ∧
  (∀ (s : State) (k : CoreId) (p : Bool) (rs1 : Fin 32) (ch c1 : Chan) (r : Nat), s.issued k (encR 0x21 p 0 rs1.val 0 0 5) = some ch →
    ch.translate (s.mtl k.ch) k.w (ch.rg k.w rs1).toNat false false = (c1, .error r) → Retires' (.icinv k p rs1) s k c1 (ch.pcOf k + 4#64)) ∧
  (∀ (s : State) (k : CoreId) (p : Bool) (rs1 : Fin 32) (ch : Chan), s.issued k (encR 0x21 p 0 rs1.val 0 0 5) = some ch → ch.fixedCore k.w = true →
    let line := (ch.rg k.w rs1).toNat % 2 ^ 48 / 64; let c2 := ch.drainTo (s.mtl k.ch) k.w fun e => e.part.pa / 64 == line
    Retires' (.icinv k p rs1) s k { c2 with cores := c2.cores.map fun c => { c with l1i := setDel c.l1i line } } (ch.pcOf k + 4#64)) ∧
  ∀ (m : MantleTable) (ch : Chan) (w : Fin 8), (∀ e ∈ (ch.core w).sb, e.part.attr = .calm) →
    (∀ (v : Fin 8) (i : Fin 32), ((ch.core v).loq[i]).far = none) → ((ch.drainAll m w).core w).sb = []

/-- LBAR and WAITL complete in one cycle when nothing they cover is pending; else the core waits at them, PC in place, until the last
operation they cover completes: the wait then ends and PC advances. The freezes of the instructions before them pass first. -/
def Sys2Proof.Claims.Waits : Prop :=
  let held := fun (s : State) (k : CoreId) (ch : Chan) (x : Wait) (p : Bool) => let m := s.mtl k.ch
    (((ch.splitPair m k.w).meltAll m k.w).onCore k.w fun c => { c with wait := x, waitP := p }).episodeOn m k.w 0x11
  (∀ (s : State) (k : CoreId) (p : Bool) (ch : Chan), s.issued k (encR 0x21 p 0 0 0 0 6) = some ch →
    ((∀ i : Fin 32, ((ch.core k.w).loq[i]).st ≠ .pending) → Retires (.lbar k p) s k ch (ch.pcOf k + 4#64) 1) ∧
    ((∃ i : Fin 32, ((ch.core k.w).loq[i]).st = .pending) →
      exec (.lbar k p) s = .next (s.onChan k.ch fun _ => held s k ch .lbar p))) ∧
  (∀ (s : State) (k : CoreId) (p v : Bool) (rs1 : Fin 32) (ch : Chan), s.issued k (encR 0x21 p 0 rs1.val 0 0 (if v then 8 else 7)) = some ch →
    let i : Instr := if v then .waitlV k p rs1 else .waitlG k p rs1
    ((ch.core k.w).awaits v rs1 = false → Retires i s k ch (ch.pcOf k + 4#64) 1) ∧
    ((ch.core k.w).awaits v rs1 = true →
      exec i s = .next (s.onChan k.ch fun _ => held s k ch (.waitl v rs1) p))) ∧
  ∀ (m : MantleTable) (ch : Chan) (w : Fin 8), (ch.core w).waitOver = true → (ch.core w).dueFault = none → (ch.core w).stepping = false →
    ((ch.endWait m w).core w).wait = .none ∧ ((ch.endWait m w).core w).pc = (ch.core w).pc + 4#64

/-- Barriers and waits. -/
def Obligations.WaitingAndOrdering : Prop := Claims.Barriers ∧ Claims.Waits


/-! ## Branches and jumps -/

/-- A branch goes to PC plus four times its offset when its condition holds, else to PC + 4; it writes no register. -/
def Sys2Proof.Claims.Branches : Prop :=
  ∀ row ∈ Claims.branches, ∀ (s : State) (k : CoreId) (p : Bool) (rs1 rs2 : Fin 32) (off : BitVec 15) (ch : Chan),
    s.issued k (encI row.2.1 p rs1.val rs2.val off) = some ch →
    Retires' (row.1 k p rs1 rs2 off) s k ch
      (if row.2.2 (ch.rg k.w rs1) (ch.rg k.w rs2) then ch.pcOf k + off.signExtend 64 * 4#64 else ch.pcOf k + 4#64)

/-- JL and JLR write PC + 4 to g[rd] and go to PC plus four times the offset, or to g[rs1] plus the immediate with bits [1:0] cleared. -/
def Sys2Proof.Claims.Jumps : Prop :=
  ∀ (s : State) (k : CoreId) (p : Bool) (rd : Fin 32) (ch : Chan),
    (∀ off : BitVec 20, s.issued k (encU 0x2A p rd.val off) = some ch →
      Retires' (.jl k p rd off) s k (ch.wg k.w rd 1 (ch.pcOf k + 4#64)) (ch.pcOf k + off.signExtend 64 * 4#64)) ∧
    ∀ (rs1 : Fin 32) (imm : BitVec 15), s.issued k (encI 0x2B p rd.val rs1.val imm) = some ch →
      Retires' (.jlr k p rd rs1 imm) s k (ch.wg k.w rd 1 (ch.pcOf k + 4#64))
        ((ch.rg k.w rs1 + imm.signExtend 64) &&& 0xFFFFFFFFFFFFFFFC#64)

/-- With fixed costs a branch costs 8 issue cycles taken and 3 not taken, JL 4, JLR 6. -/
def Sys2Proof.Claims.FixedTransferCosts : Prop :=
  ∀ (ch : Chan) (w : Fin 8) (pc target : W64) (mt : BitVec 12) (link t pop : Bool), ch.fixedCore w = true →
    (ch.transfer w pc mt target link (.cond t)).1 = (if t then 8 else 3) ∧ (ch.transfer w pc mt target link .jl).1 = 4 ∧
    (ch.transfer w pc mt target link (.jlr pop)).1 = 6

/-- Branches and jumps, and what they cost in the fixed modes. -/
def Obligations.ControlTransfers : Prop := Claims.Branches ∧ Claims.Jumps ∧ Claims.FixedTransferCosts


/-! ## Floating point and vectors -/

/-- Scalar operations into a v register: the flags enter FPCTL; with no enabled exception among them the result is written, upper bits clear;
else Arithmetic is raised with nothing written. FDIV and FSQRT enter the long-operation queue with their flags and their figure
of R97, as a divide does. -/
def Sys2Proof.Claims.ScalarFloat : Prop :=
  (∀ row ∈ Claims.fp, ∀ (s : State) (k : CoreId) (p d : Bool) (rd rs1 rs2 : Fin 32) (ch : Chan),
    let word := encR 0x2C p rd.val rs1.val (if row.2.2.2.1 then rs2.val else 0) 0 (row.2.1 + 16 * b2n d)
    let r := row.2.2.2.2 d (ch.rm k.w) (ch.fpv k.w d rs1) (ch.fpv k.w d rs2)
    s.issued k word = some ch →
    (fpTrap (ch.fpctl k.w) r.2 = 0#5 →
      Retires (row.1 k p d rd rs1 rs2) s k ((ch.setFlags k.w r.2).wv k.w rd row.2.2.1 (BitVec.ofNat 128 r.1)) (ch.pcOf k + 4#64) 1) ∧
    (fpTrap (ch.fpctl k.w) r.2 ≠ 0#5 →
      Raises (row.1 k p d rd rs1 rs2) s k (ch.setFlags k.w r.2) ⟨9, (fpTrap (ch.fpctl k.w) r.2).toNat, 0#64⟩ (ch.pcOf k) word)) ∧
  ∀ (s : State) (k : CoreId) (p d : Bool) (rd rs1 rs2 : Fin 32) (ch : Chan),
    let m := s.mtl k.ch
    let queues := fun (i : Instr) (op : LoqOp) (most : Nat) (r : Nat × FFlags) =>
      let put := fun c : Chan => c.loqPut m k.w op (some true) rd (BitVec.ofNat 128 r.1) r.2 none most
      ((ch.core k.w).loqFree ≠ none → Retires i s k (put ch) (ch.pcOf k + 4#64) 1) ∧
      (∀ c1, ch.loqRoom m k.w = (c1, true) → Retires i s k (put c1) (ch.pcOf k + 4#64) 1) ∧
      ∀ c1, ch.loqRoom m k.w = (c1, false) → exec i s = .next (s.onChan k.ch fun _ => c1)
    let v := fun r => unpack (fmtOf d) (ch.fpv k.w d r)
    (s.issued k (encR 0x2C p rd.val rs1.val rs2.val 0 (3 + 16 * b2n d)) = some ch →
      queues (.fdiv k p d rd rs1 rs2) .fdiv (if d then 20 else 12) (fDivV (fmtOf d) (ch.rm k.w) (v rs1) (v rs2))) ∧
    (s.issued k (encR 0x2C p rd.val rs1.val 0 0 (4 + 16 * b2n d)) = some ch →
      queues (.fsqrt k p d rd rs1) .fsqrt (if d then 24 else 14) (fSqrtV (fmtOf d) (ch.rm k.w) (v rs1)))

/-- Scalar comparisons and conversions: FCEQ, FCLT, FCLE and FTOI write g[rd], FFROMI and FCVTP v[rd]; FBITS.G and FBITS.V copy bits and
raise nothing. -/
def Sys2Proof.Claims.FloatConvert : Prop :=
  ∀ (s : State) (k : CoreId) (p d : Bool) (rd rs1 rs2 : Fin 32) (ch : Chan),
    let word := fun (b fn : Nat) => encR 0x2C p rd.val rs1.val b 0 (fn + 16 * b2n d)
    let does := fun (i : Instr) (w : W32) (fl : FFlags) (put : Chan → Chan) =>
      (fpTrap (ch.fpctl k.w) fl = 0#5 → Retires i s k (put (ch.setFlags k.w fl)) (ch.pcOf k + 4#64) 1) ∧
      (fpTrap (ch.fpctl k.w) fl ≠ 0#5 → Raises i s k (ch.setFlags k.w fl) ⟨9, (fpTrap (ch.fpctl k.w) fl).toNat, 0#64⟩ (ch.pcOf k) w)
    let a := ch.fpv k.w d rs1; let b := ch.fpv k.w d rs2
    (∀ row ∈ Claims.fcmp, s.issued k (word rs2.val row.2) = some ch →
      does (row.1 k p d rd rs1 rs2) (word rs2.val row.2) (fpCmp row.2 d a b).2 fun c => c.wg k.w rd 4 (Claims.flag ((fpCmp row.2 d a b).1 = true))) ∧
    (s.issued k (word 0 9) = some ch → let r := fToI (ch.rm k.w) (unpack (fmtOf d) a)
      does (.ftoi k p d rd rs1) (word 0 9) r.2 fun c => c.wg k.w rd 4 r.1) ∧
    (s.issued k (word 0 10) = some ch → let r := fFromI (fmtOf d) (ch.rm k.w) (ch.rg k.w rs1)
      does (.ffromi k p d rd rs1) (word 0 10) r.2 fun c => c.wv k.w rd 4 (BitVec.ofNat 128 r.1)) ∧
    (s.issued k (word 0 8) = some ch → let r := fCvt (fmtOf !d) (fmtOf d) (ch.rm k.w) (ch.fpv k.w (!d) rs1)
      does (.fcvtp k p d rd rs1) (word 0 8) r.2 fun c => c.wv k.w rd 4 (BitVec.ofNat 128 r.1)) ∧
    (s.issued k (word 0 11) = some ch → Retires (.fbitsG k p d rd rs1) s k (ch.wg k.w rd 4 (BitVec.ofNat 64 a)) (ch.pcOf k + 4#64) 1) ∧
    (s.issued k (word 0 12) = some ch →
      Retires (.fbitsV k p d rd rs1) s k (ch.wv k.w rd 4 (BitVec.ofNat 128 ((ch.rg k.w rs1).toNat % 2 ^ (if d then 64 else 32)))) (ch.pcOf k + 4#64) 1)

/-- The fused operations round once: ±(v[rs1] × v[rs2]) ± v[rs3]. -/
def Sys2Proof.Claims.FusedFloat : Prop :=
  ∀ row ∈ Claims.fused, ∀ (s : State) (k : CoreId) (p d : Bool) (rd rs1 rs2 rs3 : Fin 32) (ch : Chan),
    let word := encR 0x2D p rd.val rs1.val rs2.val rs3.val (row.2.1 + 16 * b2n d)
    let v := fun r => unpack (fmtOf d) (ch.fpv k.w d r)
    let r := fFmaV (fmtOf d) (ch.rm k.w) (if row.2.2.1 then (v rs1).neg else v rs1) (v rs2) (if row.2.2.2 then (v rs3).neg else v rs3)
    s.issued k word = some ch →
    (fpTrap (ch.fpctl k.w) r.2 = 0#5 →
      Retires (row.1 k p d rd rs1 rs2 rs3) s k ((ch.setFlags k.w r.2).wv k.w rd 5 (BitVec.ofNat 128 r.1)) (ch.pcOf k + 4#64) 1) ∧
    (fpTrap (ch.fpctl k.w) r.2 ≠ 0#5 →
      Raises (row.1 k p d rd rs1 rs2 rs3) s k (ch.setFlags k.w r.2) ⟨9, (fpTrap (ch.fpctl k.w) r.2).toNat, 0#64⟩ (ch.pcOf k) word)

/-- Scalar floating-point arithmetic, fused operations included. -/
def Obligations.ScalarFloats : Prop := Claims.ScalarFloat ∧ Claims.FusedFloat

/-- Every NaN that an arithmetic, fused or converting operation gives is the canonical quiet NaN. -/
def Sys2Proof.Claims.CanonicalNan : Prop :=
  (∀ (d : Bool) (rm fn a b : Nat), fn ≤ 6 → (unpack (fmtOf d) (fpArith fn d rm a b).1).isNan = true → (fpArith fn d rm a b).1 = qnan (fmtOf d)) ∧
  (∀ (d : Bool) (rm fn a b c : Nat), (unpack (fmtOf d) (fpFused fn d rm a b c).1).isNan = true → (fpFused fn d rm a b c).1 = qnan (fmtOf d)) ∧
  (∀ (d : Bool) (rm a : Nat), (unpack (fmtOf d) (fCvt (fmtOf !d) (fmtOf d) rm a).1).isNan = true → (fCvt (fmtOf !d) (fmtOf d) rm a).1 = qnan (fmtOf d)) ∧
  qnan (fmtOf false) = 0x7FC00000 ∧ qnan (fmtOf true) = 0x7FF8000000000000

/-- Conversions, and the canonical NaN. -/
def Obligations.FloatForms : Prop := Claims.FloatConvert ∧ Claims.CanonicalNan

/-- The vector operations: integer lanes wrap, compare signed and keep the low half of a product; FP32 lanes are the scalar operations with
their flags together, and AND, OR and XOR act on all bits whatever the lane type; VFMA and VFNMA round once a lane; VSHUF, VSPLAT and VEXT. They
complete in one cycle, with no enabled exception among their flags, and so always where no exception is enabled and where the operation has no
flags; else Arithmetic is raised with nothing written. -/
def Obligations.Vectors : Prop :=
  let does := fun (i : Instr) (s : State) (k : CoreId) (word : W32) (rd : Fin 32) (ch : Chan) (x : W128) (fl : FFlags) =>
    let done := Retires i s k ((ch.setFlags k.w fl).wv k.w rd 5 x) (ch.pcOf k + 4#64) 1
    ((ch.fpctl k.w).toNat / 2 ^ 12 % 32 = 0 → done) ∧ (fl = 0#5 → done) ∧ (fpTrap (ch.fpctl k.w) fl = 0#5 → done) ∧
    (fpTrap (ch.fpctl k.w) fl ≠ 0#5 → Raises i s k (ch.setFlags k.w fl) ⟨9, (fpTrap (ch.fpctl k.w) fl).toNat, 0#64⟩ (ch.pcOf k) word)
  (∀ row ∈ Claims.vectors, ∀ (s : State) (k : CoreId) (p : Bool) (lt : LaneType) (rd rs1 rs2 : Fin 32) (ch : Chan),
    let word := encR 0x2E p rd.val rs1.val rs2.val 0 (row.2 + 8 * laneCode lt)
    s.issued k word = some ch → ∃ (x : W128) (fl : FFlags), Claims.isVec lt row.2 (ch.rm k.w) (ch.rv k.w rs1) (ch.rv k.w rs2) x fl ∧
      does (row.1 k p lt rd rs1 rs2) s k word rd ch x fl) ∧
  (∀ (s : State) (k : CoreId) (p neg : Bool) (rd rs1 rs2 rs3 : Fin 32) (ch : Chan),
    let word := encR 0x2F p rd.val rs1.val rs2.val rs3.val (if neg then 1 else 0)
    let i : Instr := if neg then .vfnmaS4 k p rd rs1 rs2 rs3 else .vfmaS4 k p rd rs1 rs2 rs3
    let f := fun i => Claims.fmaLane neg (ch.rm k.w) (lane 32 (ch.rv k.w rs1) i) (lane 32 (ch.rv k.w rs2) i) (lane 32 (ch.rv k.w rs3) i)
    s.issued k word = some ch → ∃ x : W128, (∀ i < 4, (lane 32 x i).toNat = (f i).1 % 2 ^ 32) ∧ does i s k word rd ch x (Claims.laneFlags f)) ∧
  ∀ (s : State) (k : CoreId) (p : Bool) (rd rs1 rs2 : Fin 32) (n : Fin 4) (ch : Chan),
    (s.issued k (encR 0x2F p rd.val rs1.val rs2.val 0 2) = some ch →
      ∃ x : W128, (∀ i < 16, lane 8 x i = lane 8 (ch.rv k.w rs1) ((lane 8 (ch.rv k.w rs2) i).toNat % 16)) ∧
        Retires (.vshuf k p rd rs1 rs2) s k (ch.wv k.w rd 5 x) (ch.pcOf k + 4#64) 1) ∧
    (s.issued k (encR 0x2F p rd.val rs1.val 0 0 3) = some ch → ∃ x : W128, (∀ i < 4, lane 32 x i = (ch.rg k.w rs1).truncate 32) ∧
      Retires (.vsplatW k p rd rs1) s k (ch.wv k.w rd 5 x) (ch.pcOf k + 4#64) 1) ∧
    (s.issued k (encR 0x2F p rd.val rs1.val n.val 0 4) = some ch →
      Retires (.vextW k p rd rs1 n) s k (ch.wg k.w rd 5 ((lane 32 (ch.rv k.w rs1) n.val).signExtend 64)) (ch.pcOf k + 4#64) 1)

/-! ## Tapers -/

/-- Moves and reads of Tapers: TMOV, TPCC and TVOID write c[rd], the others a field of the Taper to g[rd], at distance 2; TWITHIN tells whether
the second lies within the first in range and permissions and is tagged. -/
def Sys2Proof.Claims.TaperReads : Prop :=
  (∀ row ∈ Claims.taperFields, ∀ (s : State) (k : CoreId) (p : Bool) (rd : Fin 32) (cs : Fin 16) (ch : Chan),
    s.issued k (encR 0x30 p rd.val cs.val 0 0 row.2.1) = some ch →
    Retires (row.1 k p rd cs) s k (ch.wg k.w rd 2 (BitVec.ofNat 64 (row.2.2 (ch.rc k.w cs)))) (ch.pcOf k + 4#64) 1) ∧
  ∀ (s : State) (k : CoreId) (p : Bool) (cd cs cs2 : Fin 16) (rd : Fin 32) (ch : Chan), let a := ch.rc k.w cs; let b := ch.rc k.w cs2
    (s.issued k (encR 0x30 p cd.val cs.val 0 0 0) = some ch → Retires (.tmov k p cd cs) s k (ch.wc k.w cd 2 a) (ch.pcOf k + 4#64) 1) ∧
    (s.issued k (encR 0x30 p cd.val cs.val 0 0 10) = some ch →
      Retires (.tvoid k p cd cs) s k (ch.wc k.w cd 2 ⟨a.bits, false⟩) (ch.pcOf k + 4#64) 1) ∧
    (s.issued k (encR 0x30 p cd.val 0 0 0 12) = some ch → Retires (.tpcc k p cd) s k (ch.wc k.w cd 2 (ch.core k.w).pcc) (ch.pcOf k + 4#64) 1) ∧
    (s.issued k (encR 0x30 p rd.val cs.val cs2.val 0 13) = some ch →
      Retires (.twithin k p rd cs cs2) s k
        (ch.wg k.w rd 2 (Claims.flag (b.tag = true ∧ a.base ≤ b.base ∧ b.base + b.len ≤ a.base + a.len ∧ b.perm &&& ~~~a.perm = 0#12))) (ch.pcOf k + 4#64) 1)

/-- Derivations never widen a Taper: TNARROW gives a range within the source's or faults (6 out of range, 2 latched), TTRIM removes the named
permissions, TSHUT and TOPEN set and clear the latch under their checks, each fault naming the first that fails; TNARROW and TTRIM of an
untagged Taper give an untagged one. -/
def Sys2Proof.Claims.TaperDerivations : Prop :=
  ∀ (s : State) (k : CoreId) (p : Bool) (cd cs : Fin 16) (rs2 rs3 : Fin 32) (ch : Chan),
    let t := ch.rc k.w cs; let x := ch.rg k.w rs2; let n := ch.rg k.w rs3; let mine := inParty (s.mtl k.ch) t.mantle (ch.core k.w).pcc.mantle
    let gives := fun (i : Instr) (r : Taper) => Retires i s k (ch.wc k.w cd 2 r) (ch.pcOf k + 4#64) 1
    let faults := fun (i : Instr) (w : W32) (r : Nat) => Raises i s k ch ⟨4, r, 0#64⟩ (ch.pcOf k) w
    (let w := encR 0x30 p cd.val cs.val rs2.val rs3.val 6; s.issued k w = some ch →
      (t.tag = false ∨ (t.latch = 0 ∧ t.base ≤ x.toNat ∧ x.toNat + n.toNat ≤ t.base + t.len) →
        gives (.tnarrow k p cd cs rs2 rs3) (mkTaper x.toNat n.toNat t.mantle t.perm t.latch t.tag)) ∧
      (t.tag = true → t.latch ≠ 0 → faults (.tnarrow k p cd cs rs2 rs3) w 2) ∧
      (t.tag = true → t.latch = 0 → (x.toNat < t.base ∨ t.base + t.len < x.toNat + n.toNat) → faults (.tnarrow k p cd cs rs2 rs3) w 6)) ∧
    (let w := encR 0x30 p cd.val cs.val rs2.val 0 7; s.issued k w = some ch →
      (t.tag = false ∨ t.latch = 0 → gives (.ttrim k p cd cs rs2) (mkTaper t.base t.len t.mantle (t.perm &&& ~~~(x.truncate 12)) t.latch t.tag)) ∧
      (t.tag = true → t.latch ≠ 0 → faults (.ttrim k p cd cs rs2) w 2)) ∧
    (let w := encR 0x30 p cd.val cs.val rs2.val 0 8; s.issued k w = some ch → let l := x.toNat % 256
      (t.tag = false → faults (.tshut k p cd cs rs2) w 1) ∧ (t.tag = true → mine = false → faults (.tshut k p cd cs rs2) w 3) ∧
      (t.tag = true → mine = true → t.has 7 = false → faults (.tshut k p cd cs rs2) w 5) ∧
      (t.tag = true → mine = true → t.has 7 = true → t.latch ≠ 0 → faults (.tshut k p cd cs rs2) w 2) ∧
      (t.tag = true → mine = true → t.has 7 = true → t.latch = 0 → (l = 0 ∨ 0xFD < l) → faults (.tshut k p cd cs rs2) w 7) ∧
      (t.tag = true → mine = true → t.has 7 = true → t.latch = 0 → 0 < l → l ≤ 0xFD →
        gives (.tshut k p cd cs rs2) (mkTaper t.base t.len t.mantle t.perm l true))) ∧
    (let w := encR 0x30 p cd.val cs.val rs2.val 0 9; s.issued k w = some ch → let l := x.toNat % 256
      (t.tag = false → faults (.topen k p cd cs rs2) w 1) ∧ (t.tag = true → mine = false → faults (.topen k p cd cs rs2) w 3) ∧
      (t.tag = true → mine = true → (t.latch ≠ l ∨ l = 0 ∨ l = 0xFF) → faults (.topen k p cd cs rs2) w 7) ∧
      (t.tag = true → mine = true → t.latch = l → l ≠ 0 → l ≠ 0xFF → gives (.topen k p cd cs rs2) (mkTaper t.base t.len t.mantle t.perm 0 true)))

/-- TJUMP through a Taper with Execute of its own party goes to its base plus the offset with bits [1:0] clear, leaves the old PCC in c[rd] and
PC + 4 in g31, and makes the Taper PCC; through a latched one with Execute it opens the latch, enters at the base and leaves the old PCC latched 0xFE;
what fails a check faults with its reason and PCC stays. -/
def Sys2Proof.Claims.TaperJump : Prop :=
  ∀ (s : State) (k : CoreId) (p : Bool) (cd cs : Fin 16) (rs2 : Fin 32) (ch : Chan),
    let w := encR 0x30 p cd.val cs.val rs2.val 0 11
    let t := ch.rc k.w cs; let x := ch.rg k.w rs2; let c := ch.core k.w; let i : Instr := .tjump k p cd cs rs2; let m := s.mtl k.ch
    let enters := fun (link new : Taper) => (((ch.wc k.w cd 2 link).wg k.w 31 2 (c.pc + 4#64)).onCore k.w fun c => { c with pcc := new, fetched := [] }).mantleSwitch m k.w c.pcc.mantle new.mantle
    s.issued k w = some ch →
    (t.tag = true → t.latch = 0 → inParty m t.mantle c.pcc.mantle = true → t.has 2 = true →
      Retires' i s k (enters c.pcc t) ((BitVec.ofNat 64 t.base + x) &&& 0xFFFFFFFFFFFFFFFC#64)) ∧
    (t.tag = true → t.latch ≠ 0 → t.has 2 = true → (t.has 8 = true ∨ t.latch = 0xFE) → t.latch ≠ 0xFF → x = 0#64 →
      Retires' i s k (enters (c.pcc.withLatch 0xFE) (t.withLatch 0)) (BitVec.ofNat 64 t.base &&& 0xFFFFFFFFFFFFFFFC#64)) ∧
    let faults := fun (r : Nat) => Raises i s k ch ⟨4, r, 0#64⟩ c.pc w
    (t.tag = false → faults 1) ∧
    (t.tag = true → t.latch = 0 → inParty m t.mantle c.pcc.mantle = false → faults 3) ∧
    (t.tag = true → t.latch = 0 → inParty m t.mantle c.pcc.mantle = true → t.has 2 = false → faults 5) ∧
    (t.tag = true → t.latch ≠ 0 → (t.has 2 = false ∨ (t.has 8 = false ∧ t.latch ≠ 0xFE)) → faults 5) ∧
    (t.tag = true → t.latch = 0xFF → t.has 2 = true → t.has 8 = true → faults 7) ∧
    (t.tag = true → t.latch ≠ 0 → t.has 2 = true → (t.has 8 = true ∨ t.latch = 0xFE) → t.latch ≠ 0xFF → x ≠ 0#64 → faults 4)

/-- Operations on Tapers. -/
def Obligations.TaperOperations : Prop := Claims.TaperReads ∧ Claims.TaperDerivations ∧ Claims.TaperJump


/-! ## Exceptions and return -/

/-- SYSCALL raises its exception with the following address saved; an undefined encoding raises Undefined Instruction; BRK raises Debug,
or, where BRKHALT is set and the authorisation covers its Mantle, halts the core with BRK as the cause. -/
def Obligations.CallsAndTraps : Prop :=
  ∀ (s : State) (k : CoreId) (p : Bool) (insn : W32) (ch : Chan), let m := s.mtl k.ch
    (let w := encR 0x33 p 0 0 0 0 0
     s.issued k w = some ch → Raises (.syscall k p) s k ch ⟨10, 0, 0#64⟩ (ch.pcOf k + 4#64) w) ∧
    (definedWord (s.ch k.ch).ucode insn = false → s.issued k insn = some ch → Raises (.undefinedInstruction k insn) s k ch ⟨2, 0, 0#64⟩ (ch.pcOf k) insn) ∧
    (let w := encR 0x33 p 0 0 0 0 7
     let stops := ch.bit 0x30000C 0 = true ∧ ch.haltAuth m (ch.core k.w).pcc.mantle = true
     s.issued k w = some ch →
     (¬ stops → Raises (.brk k p) s k ch ⟨8, 1, 0#64⟩ (ch.pcOf k) w) ∧
     (stops → (ch.core k.w).wact = false → (ch.core k.w).haltReq = 0#8 → ch.fld (dbgStat k.w) 0 2 < 2 →
        (∀ i : Fin 32, ((ch.core k.w).loq[i]).st = .free) →
        Leaves (.brk k p) s k.ch fun t => t.halted k.w = true ∧ t.fld (dbgStat k.w) 4 3 = 4 ∧ (t.core k.w).pc = (ch.core k.w).pc ∧
          (t.core k.w).resv = none))

/-- Taking an event: a synchronous one at MASK 7 snuffs the channel; else its vector is entered when its descriptor is valid, its level
above MASK and it is not active. Entry waits for what has issued, stores the frame of the interrupted context and installs the
descriptor's Tapers, target, level, window and context; without a frame that can be stored it is not entered. -/
def Obligations.ExceptionEntry : Prop :=
  (∀ (m : MantleTable) (ch : Chan) (w : Fin 8) (e : Ev), e.vec < 32 → (ch.core w).mask = 7#3 → (ch.enterEv m w e).snuff = some ⟨w, false⟩) ∧
  (∀ (m : MantleTable) (ch c1 t : Chan) (w : Fin 8) (e : Ev) (d : Desc),
    let c0 := ch.onCore w fun c => { c with pend := [], slotA := none, wait := .none }
    ch.badWords = [] → c0.descriptor m w e.vec = (c1, some d) → c1.enterVec m w e d e.vec 0 = (t, true) →
    (32 ≤ e.vec ∨ ((ch.core w).mask ≠ 7#3 ∧ (ch.core w).mask.toNat < d.level ∧ (ch.core w).xact.getLsbD e.vec = false)) →
    ch.enterEv m w e = t) ∧
  (∀ (m : MantleTable) (ch c1 : Chan) (w : Fin 8) (e : Ev) (d : Desc) (vec why : Nat), vec < 256 →
    let c0 := ch.drain94 m w (if vec = 6 ∨ 32 ≤ vec then 6 else 7)
    let old := c0.core w
    let still : Core := { old with wact := false, wrem := 0 }
    let pre : Core := if d.ctxsw then
      { still with ttbase := BitVec.ofNat 64 (getW d.ctl 48 36 * 4096), asid := BitVec.ofNat 64 (getW d.ctl 24 12) } else still
    ((c0.setCore w pre).frameParts m w d.stack.base = (c1, none) → ∃ t, ch.enterVec m w e d vec why = (t, false) ∧
      (t.core w).ttbase = old.ttbase ∧ (t.core w).asid = old.asid ∧ (t.core w).wact = old.wact ∧ (t.core w).wrem = old.wrem ∧
      (t.core w).pc = (c1.core w).pc ∧ (t.core w).pcc = (c1.core w).pcc ∧ (t.core w).g = (c1.core w).g ∧ (t.core w).c = (c1.core w).c) ∧
    ∀ ps, (c0.setCore w pre).frameParts m w d.stack.base = (c1, some ps) → ∃ t, ch.enterVec m w e d vec why = (t, true) ∧
      t.Entered w d vec (if vec = 11 then 7 else if 32 ≤ vec then max d.level e.prio else d.level) ∧
      (vec < 32 → (t.core w).xact.getLsbD vec = true) ∧ (32 ≤ vec → t.active vec = true ∧ t.pulse.getLsbD vec = false) ∧
      ((c1.core w).sbUsed + 8 ≤ 16 → ps.length = 8 → (∀ p ∈ ps, p.n ≠ 0) → (t.core w).ttbase = (c1.core w).ttbase ∧ (t.core w).asid = (c1.core w).asid ∧
        ∃ es, (t.core w).sb = (c1.core w).sb ++ es ∧ es.map (fun x => { x with born := 0, leave := 0 }) =
          (ps.zip (frameOf old e vec why d.ctxsw)).map fun x => ⟨x.1, x.2.1, x.2.2, false, false, d.stack.mantle, 0, 0⟩)) ∧
  ∀ (m : MantleTable) (ch : Chan) (w : Fin 8) (e : Ev) (d : Desc), ch.EntryReady w e.vec d → e.vec < 256 →
    (32 ≤ e.vec ∨ ((ch.core w).mask ≠ 7#3 ∧ (ch.core w).mask.toNat < d.level ∧ (ch.core w).xact.getLsbD e.vec = false)) →
    (ch.enterEv m w e).Entered w d e.vec (if e.vec = 11 then 7 else if 32 ≤ e.vec then max d.level e.prio else d.level)

/-- RETX installs what the frame holds, and the frame of an entry holds what was interrupted: PCC, PC, c0, c15, g30, g31, MASK, the
window and, with a context switch, TTBASE and ASID come back. A frame without its tags or its mark raises Frame Fault. From a frame in the
Calm store that c15 reaches it returns at once. -/
def Obligations.ExceptionReturn : Prop :=
  (∀ (c x : Core) (e : Ev) (vec why : Nat) (cs : Bool), vec < 256 →
    let r := x.restore (frameOf c e vec why cs)
    r.pcc = c.pcc ∧ r.pc = (e.pc &&& 0xFFFFFFFFFFFFFFFC#64) ∧ r.c[0] = c.c[0] ∧ r.c[15] = c.c[15] ∧ r.g[30] = c.g[30] ∧ r.g[31] = c.g[31] ∧
    r.mask = c.mask ∧ r.wact = c.wact ∧ (c.wact = true → r.wrem = c.wrem % 65536) ∧ r.wovr = c.wovr ∧
    r.ttbase = (if cs then c.ttbase &&& 0xFFFFFFFFF000#64 else x.ttbase) ∧ r.asid = (if cs then c.asid &&& 0xFFF#64 else x.asid) ∧
    (vec < 32 → r.xact.getLsbD vec = false) ∧ (c.pcc.tag = true → c.c[0].tag = true → c.c[15].tag = true → forged (frameOf c e vec why cs) = 0)) ∧
  ∀ (s : State) (k : CoreId) (p : Bool) (ch : Chan), let m := s.mtl k.ch; let word := encR 0x33 p 0 0 0 0 1
    let c0 := (((ch.onCore k.w fun c => { c with wact := false, wrem := 0 }).drain94 m k.w 7).settle m k.w).1
    let back := fun (c1 : Chan) (gs : List (W128 × Bool)) => let r := (c1.core k.w).restore gs
      Leaves (.retx k p) s k.ch fun t => let c := t.core k.w
        c.pcc = r.pcc ∧ c.pc = r.pc ∧ c.g = r.g ∧ c.v = r.v ∧ c.c = r.c ∧ c.mask = r.mask ∧ c.xact = r.xact ∧ c.ttbase = r.ttbase ∧ c.asid = r.asid ∧
        ((ch.core k.w).stepping = false → c.wact = r.wact ∧ c.wrem = r.wrem ∧ c.wovr = r.wovr) ∧ c.resv = none ∧ c.pend = [] ∧ t.calm = c1.calm
    s.issued k word = some ch → (∀ i : Fin 32, ((ch.core k.w).loq[i]).st = .free) → (ch.core k.w).wovr = false →
    (∀ (c1 : Chan) (gs : List (W128 × Bool)),
      c0.readFrame m k.w = (c1, .ok gs) →
      (forged gs = 0 → back c1 gs) ∧ (forged gs ≠ 0 → Raises (.retx k p) s k c1 ⟨7, forged gs, 0#64⟩ (c1.pcOf k) word)) ∧
    let t := (ch.core k.w).c[15]
    let gs := (List.range 8).map fun i => (BitVec.ofNat 128 (leNat (readBytes ch.calm (t.base + 16 * i) 16)), setHas ch.calmTag ((t.base + 16 * i) / 16))
    (ch.fixedCore k.w = true → taperCheck m (ch.core k.w).pcc.mantle t (BitVec.ofNat 64 t.base) 128 [0, 3] = none → t.base % 16 = 0 →
      t.base + 128 ≤ saveBase → (ch.mode = 5 → t.base + 128 ≤ ch.split) → (ch.core k.w).sb = [] → ch.farPending t.base 128 = [] →
      (∀ i < 8, setHas ch.calmPois ((t.base + 16 * i) / 64) = false) → forged gs = 0 → back ch gs)

/-! ## System instructions -/

/-- SRR reads a special register; SRW writes one at distance 6, numbers 0 to 3 only with System in PCC, and a write of MASK ends the
window; a number that is not listed is an undefined encoding. COREID and CURMODE are computed. -/
def Obligations.SpecialRegisters : Prop :=
  (∀ (s : State) (k : CoreId) (p : Bool) (rd n : Fin 32) (ch : Chan), let w := encR 0x33 p rd.val n.val 0 0 2
    s.issued k w = some ch →
    (n.val ≤ 7 → Retires (.srr k p rd n) s k (ch.wg k.w rd 1 (ch.special k.w n)) (ch.pcOf k + 4#64) 1) ∧
    (7 < n.val → Raises (.srr k p rd n) s k ch ⟨2, 0, 0#64⟩ (ch.pcOf k) w)) ∧
  (∀ (s : State) (k : CoreId) (p : Bool) (n rs1 : Fin 32) (ch : Chan), let w := encR 0x33 p n.val rs1.val 0 0 3
    let put := ch.onCore k.w fun c => c.put (.sr n) 6 ((ch.rg k.w rs1).zeroExtend 129)
    let cost := if ch.fixedCore k.w then 2 else 1
    s.issued k w = some ch →
    (n.val = 0 → (ch.core k.w).pcc.has 5 = true →
      Retires (.srw k p n rs1) s k (put.onCore k.w fun c => { c with wact := false, wrem := 0 }) (ch.pcOf k + 4#64) cost) ∧
    (0 < n.val → n.val ≤ 5 → (n.val ≤ 3 → (ch.core k.w).pcc.has 5 = true) →
      Retires (.srw k p n rs1) s k put (ch.pcOf k + 4#64) cost) ∧
    (n.val ≤ 3 → (ch.core k.w).pcc.has 5 = false → Raises (.srw k p n rs1) s k ch ⟨1, 1, 0#64⟩ (ch.pcOf k) w) ∧
    (5 < n.val → Raises (.srw k p n rs1) s k ch ⟨2, 0, 0#64⟩ (ch.pcOf k) w)) ∧
  ∀ (ch : Chan) (w : Fin 8), ch.special w 6 = BitVec.ofNat 64 (w.val + 16 * ch.num.val) ∧ ch.special w 7 = BitVec.ofNat 64 ch.mode

/-- MKMANTLE. CREATE adds an entry below the Taper's Mantle when that is at most 7 deep, the table has room and the class is not below its
parent's and not 3, and gives the Taper its number; else status 1, 2 or 3. BRAND gives a Mantle of the party, else status 4. An
operation 2 or 3 gives status 5 (the model's choice, log 23). A Taper that fails, or PCC without System, raises the exception. An event that is due at
its safe point, or a fault recorded by then, abandons it with nothing done; with no long operation, request, transition or source there is none. -/
def Sys2Proof.Claims.MantleOperations : Prop :=
  ∀ (s : State) (k : CoreId) (p : Bool) (cd cs : Fin 16) (rs2 rs3 : Fin 32) (ch : Chan) (i : Instr),
    i = .create k p cd cs rs2 rs3 ∨ i = .brand k p cd cs rs2 rs3 →
    let word := encR 0x33 p cd.val cs.val rs2.val rs3.val 4
    let m := s.mtl k.ch
    let c0 := (ch.drain94 m k.w 7).onCore k.w fun c => { c with pend := [] }
    let polled := c0.mkPoll m k.w; let c1 := polled.1
    let t := c1.rc k.w cs; let x := (c1.rg k.w rs2).toNat; let cls := x % 4; let op := x / 4 % 4
    let own := taperOwn m (c1.core k.w).pcc.mantle t
    let status := fun (n : Nat) => Retires i s k (c1.wg k.w rs3 1 (BitVec.ofNat 64 n)) (ch.pcOf k + 4#64) 96
    s.issued k word = some ch →
    ((∀ j : Fin 32, ((c0.core k.w).loq[j]).st = .free) → (c0.core k.w).haltReq = 0#8 → c0.trans = none → c0.receives k.w = none → polled = (c0, false)) ∧
    (polled.2 = true →
      exec i s = .next (s.onChan k.ch fun _ => ((((c1.splitPair m k.w).elapse m k.w 40).windowTick k.w 40).endStep m k.w))) ∧
    (polled.2 = false → (c1.core k.w).pcc.has 5 = false → Raises i s k c1 ⟨1, 1, 0#64⟩ (c1.pcOf k) word) ∧
    (polled.2 = false → (c1.core k.w).pcc.has 5 = true →
      (2 ≤ op → status 5) ∧
      (op < 2 → own = some 3 → Raises i s k c1 ⟨1, 2, 0#64⟩ (c1.pcOf k) word) ∧
      (∀ r, op < 2 → own = some r → r ≠ 3 → Raises i s k c1 ⟨4, r, 0#64⟩ (c1.pcOf k) word) ∧
      (op = 0 → own = none → ∀ q, m[t.mantle.toNat]? = some q →
        (8 ≤ q.depth → status 1) ∧ (q.depth < 8 → 4096 ≤ m.length → status 2) ∧
        (q.depth < 8 → m.length < 4096 → (cls < q.cls.toNat ∨ cls = 3) → status 3) ∧
        (q.depth < 8 → m.length < 4096 → q.cls.toNat ≤ cls → cls < 3 →
          let e := (c1.wc k.w cd 1 (t.withMantle (BitVec.ofNat 12 m.length))).wg k.w rs3 1 0#64
          ∃ b : Chan, exec i s = .next { s.onChan k.ch fun _ => b.endStep m k.w with
              mantles := s.mantles.set k.ch (m ++ [⟨t.mantle, BitVec.ofNat 2 cls, q.depth + 1⟩]) } ∧
            e.Passed k.w b ∧ (b.core k.w).pc = ch.pcOf k + 4#64)) ∧
      (op = 1 → own = none → let named := BitVec.ofNat 12 (x / 16)
        (named.toNat < m.length → inParty m named t.mantle = true →
          Retires i s k ((c1.wc k.w cd 1 (t.withMantle named)).wg k.w rs3 1 0#64) (ch.pcOf k + 4#64) 96) ∧
        (m.length ≤ named.toNat ∨ inParty m named t.mantle = false → status 4)))

/-- TLBINV drops from all three TLBs of its core the entries of its page for its ASID, for every ASID with bit 12 of the operand, and global ones; TLBINVALL drops
every entry; both need System in PCC. -/
def Sys2Proof.Claims.TlbInvalidation : Prop :=
  ∀ (s : State) (k : CoreId) (p : Bool) (rs1 rs2 : Fin 32) (ch : Chan), let c := ch.core k.w
    (let w := encR 0x33 p 0 rs1.val rs2.val 0 5
     s.issued k w = some ch →
     (c.pcc.has 5 = false → Raises (.tlbinv k p rs1 rs2) s k ch ⟨1, 1, 0#64⟩ (ch.pcOf k) w) ∧
     (c.pcc.has 5 = true → ∃ itlb dtlb l2 : List TlbEnt,
       (∀ e : TlbEnt, let goes := e.vpn = (ch.rg k.w rs1).toNat % 2 ^ 48 / 2 ^ e.size ∧
          ((ch.rg k.w rs2).getLsbD 12 = true ∨ e.asid = (ch.rg k.w rs2).truncate 12 ∨ e.leaf.getLsbD 7 = true)
        (e ∈ itlb ↔ e ∈ c.itlb ∧ ¬ goes) ∧ (e ∈ dtlb ↔ e ∈ c.dtlb ∧ ¬ goes) ∧ (e ∈ l2 ↔ e ∈ c.l2tlb ∧ ¬ goes)) ∧
       Retires (.tlbinv k p rs1 rs2) s k (ch.setCore k.w { c with itlb := itlb, dtlb := dtlb, l2tlb := l2 }) (ch.pcOf k + 4#64) 4)) ∧
    (let w := encR 0x33 p 0 0 0 0 6
     s.issued k w = some ch →
     (c.pcc.has 5 = false → Raises (.tlbinvall k p) s k ch ⟨1, 1, 0#64⟩ (ch.pcOf k) w) ∧
     (c.pcc.has 5 = true → Retires (.tlbinvall k p) s k (ch.setCore k.w { c with itlb := [], dtlb := [], l2tlb := [] }) (ch.pcOf k + 4#64) 16))

/-- The operations of Mantle 0x000, and TLB invalidation. -/
def Obligations.SystemOperations : Prop := Claims.MantleOperations ∧ Claims.TlbInvalidation


/-! ## Block repeat, phase instructions, routines -/

/-- The block-repeat instructions: a register named twice or g0 is an undefined encoding; a count of 0 ends at once; else one element of
at most 64 bytes is moved, filled, compared, scanned or summed, the registers advance by what was done, and the instruction ends when
the count is 0 or, for CMPB and SCANB, at the byte that stops it. In the Calm store, with no store buffered, an element is made of the
bytes of memory. -/
def Obligations.BlockRepeat : Prop :=
  ∀ (s : State) (k : CoreId) (p : Bool) (rd rs1 rs2 rs3 : Fin 32) (ch : Chan), let m := s.mtl k.ch; let w := k.w
    let first := (ch.core w).elem.isNone
    let c0 := if first then (ch.drain94 m w 7).onCore w fun c => { c with pend := [] } else ch
    let count := c0.rg w rs2; let n := min 64 count.toNat; let npc := ch.pcOf k + 4#64
    let word := fun (c fn : Nat) => encR 0x35 p rd.val rs1.val rs2.val c fn
    let distinct := rd ≠ 0 ∧ rs1 ≠ 0 ∧ rs2 ≠ 0 ∧ rd ≠ rs1 ∧ rd ≠ rs2 ∧ rs1 ≠ rs2
    let up := fun (c : Chan) (r : Fin 32) (x : Nat) => c.wg w r 0 (c.rg w r + BitVec.ofNat 64 x)
    let dn := fun (c : Chan) (x : Nat) => c.wg w rs2 0 (c.rg w rs2 - BitVec.ofNat 64 x)
    let rows : List (Instr × W32 × Prop) := [(.movb k p rd rs1 rs2, word 0 0, distinct), (.fillb k p rd rs1 rs2, word 0 1, distinct),
      (.cmpb k p rd rs1 rs2, word 0 2, distinct), (.scanb k p rd rs1 rs2, word 0 3, distinct),
      (.crcb k p rd rs1 rs2 rs3, word rs3.val 4, distinct ∧ rs3 ≠ 0 ∧ rs3 ≠ rd ∧ rs3 ≠ rs1 ∧ rs3 ≠ rs2)]
    let src := (c0.rg w rs1).toNat; let dst := (c0.rg w rd).toNat
    let train := fun (c c' : Chan) (ps : List Part) => c'.trainPrefetch m w ((c.l1dMisses w ps).take 1)
    let readable := fun (r : Fin 32) => c0.ElemReach m w (c0.rg w r) n [0] ∧ c0.ElemClear (c0.rg w r).toNat n
    let movb := fun (c : Chan) (qs : List Part) (b : List Byte) =>
      let e := dn (up (up (c.enter m w (elemEnts qs b (c.core w).pcc.mantle)) rd n) rs1 n) n
      Element (.movb k p rd rs1 rs2) s k (word 0 0) e npc (2 + 2 * ((n + 15) / 16)) (e.rg w rs2 == 0#64)
    let fillb := fun (c : Chan) (qs : List Part) =>
      let b := (List.range n).map fun i => byteOf (c.rg w rs1) ((dst + i) % 8)
      let e := dn (up (c.enter m w (elemEnts qs b (c.core w).pcc.mantle)) rd n) n
      Element (.fillb k p rd rs1 rs2) s k (word 0 1) e npc (2 + (n + 15) / 16) (e.rg w rs2 == 0#64)
    let cmpb := fun (c : Chan) (a b : List Byte) =>
      let same := ((a.zip b).takeWhile fun x => x.1 == x.2).length; let e := dn (up (up c rd same) rs1 same) same
      Element (.cmpb k p rd rs1 rs2) s k (word 0 2) e npc (2 + 2 * ((n + 15) / 16)) (decide (same < n) || e.rg w rs2 == 0#64)
    let scanb := fun (c : Chan) (b : List Byte) =>
      let skip := (b.takeWhile fun y => y != (c.rg w rs1).truncate 8).length; let e := dn (up c rd skip) skip
      Element (.scanb k p rd rs1 rs2) s k (word 0 3) e npc (2 + (n + 15) / 16) (decide (skip < n) || e.rg w rs2 == 0#64)
    let crcb := fun (c : Chan) (b : List Byte) (i : Fin 32) =>
      let put := c.loqPut m w .crcb (some false) rd ((crcRun (c.rg w rs3) (c.rg w rd) b).zeroExtend 128) 0#5 none 4
      let t := (c.core w).cyc + (2 + (n + 7) / 8) + 1
      let e := dn (up (put.loqSet w i { (put.core w).loq[i] with start := t, lo := 4, hi := some 4 }) rs1 n) n
      Element (.crcb k p rd rs1 rs2 rs3) s k (word rs3.val 4) e npc (2 + (n + 7) / 8) (e.rg w rs2 == 0#64)
    (∀ row ∈ rows, s.issued k row.2.1 = some ch →
      (¬ row.2.2 → Raises row.1 s k ch ⟨2, 0, 0#64⟩ (ch.pcOf k) row.2.1) ∧
      (row.2.2 → count = 0#64 → Element row.1 s k row.2.1 c0 npc 0 true)) ∧
    (count ≠ 0#64 → distinct →
      (s.issued k (word 0 0) = some ch →
        (∀ c1 c2 c3 ps qs b tag, c0.grantedElem m w accLoad (c0.rg w rs1) n = some (c1, ps) → c1.grantedElem m w accStore (c1.rg w rd) n = some (c2, qs) →
          c2.loadParts m w false (elemUnits ps) 0 = (c3, b, none, tag) → movb (train c2 c3 ps) qs b) ∧
        (readable rs1 → c0.ElemReach m w (c0.rg w rd) n [1] → movb c0 (calmParts (c0.rg w rd) n) (readBytes c0.calm src n))) ∧
      (s.issued k (word 0 1) = some ch →
        (∀ c1 qs, c0.grantedElem m w accStore (c0.rg w rd) n = some (c1, qs) → fillb c1 qs) ∧
        (c0.ElemReach m w (c0.rg w rd) n [1] → fillb c0 (calmParts (c0.rg w rd) n))) ∧
      (s.issued k (word 0 2) = some ch →
        (∀ c1 c2 c3 c4 ps qs a b ta tb, c0.grantedElem m w accLoad (c0.rg w rd) n = some (c1, ps) →
          c1.grantedElem m w accLoad (c0.rg w rs1) n = some (c2, qs) → c2.loadParts m w false (elemUnits ps) 0 = (c3, a, none, ta) →
          (train c2 c3 ps).loadParts m w false (elemUnits qs) 0 = (c4, b, none, tb) → cmpb (train (train c2 c3 ps) c4 qs) a b) ∧
        (readable rd → readable rs1 → cmpb c0 (readBytes c0.calm dst n) (readBytes c0.calm src n))) ∧
      (s.issued k (word 0 3) = some ch →
        (∀ c1 c2 ps b tag, c0.grantedElem m w accLoad (c0.rg w rd) n = some (c1, ps) →
          c1.loadParts m w false (elemUnits ps) 0 = (c2, b, none, tag) → scanb (train c1 c2 ps) b) ∧
        (readable rd → scanb c0 (readBytes c0.calm dst n))) ∧
      (s.issued k (word rs3.val 4) = some ch → rs3 ≠ 0 → rs3 ≠ rd → rs3 ≠ rs1 → rs3 ≠ rs2 →
        (∀ c1 c2 ps b tag i, c0.grantedElem m w accLoad (c0.rg w rs1) n = some (c1, ps) →
          c1.loadParts m w false (elemUnits ps) 0 = (c2, b, none, tag) → let c := train c1 c2 ps
          (c.core w).elem = none → (c.core w).loqFree ≠ none →
          ((c.loqPut m w .crcb (some false) rd ((crcRun (c.rg w rs3) (c.rg w rd) b).zeroExtend 128) 0#5 none 4).core w).crcbNew = some i → crcb c b i) ∧
        (readable rs1 → (ch.core w).elem = none → (∀ j : Fin 32, ((ch.core w).loq[j]).st = .free) → crcb c0 (readBytes c0.calm src n) 0)))

/-- WAITPH ends at once with status 0 when its release bit is set, with 2 when its slot is not armed, and else waits; its timeout ends the
wait with status 1, but on a core that stands for a transition or a snuff. STPH queues its write with status 0, or, with 128 writes queued, writes status 1. -/
def Obligations.PhaseInstructions : Prop :=
  (∀ (s : State) (k : CoreId) (p : Bool) (rd rs1 : Fin 32) (slot : Fin 64) (ch : Chan), let i : Instr := .waitph k p rd rs1 slot
    let cost := if ch.fixedCore k.w then 2 else 1; let t := (ch.rg k.w rs1).toNat
    s.issued k (encP p rd.val rs1.val 0 slot.val 0) = some ch →
    (ch.relBit k.w slot = true → Retires i s k ((ch.clrRel k.w slot).wg k.w rd 1 0#64) (ch.pcOf k + 4#64) cost) ∧
    (ch.relBit k.w slot = false → ch.armed slot = false → Retires i s k (ch.wg k.w rd 1 2#64) (ch.pcOf k + 4#64) cost) ∧
    (ch.relBit k.w slot = false → ch.armed slot = true →
      exec i s = .next (s.onChan k.ch fun _ => ((ch.splitPair (s.mtl k.ch) k.w).meltAll (s.mtl k.ch) k.w).onCore k.w fun c =>
        { c with wait := .waitph slot rd (if t = 0 then none else some t), waitP := p }))) ∧
  (∀ (s : State) (k : CoreId) (slot : Fin 64) (rd : Fin 32) (t : Nat), ((s.ch k.ch).core k.w).wait = .waitph slot rd (some t) →
    ((s.ch k.ch).core k.w).dueFault = none → (s.ch k.ch).stands k.w = false →
    Leaves (.waitphTimeout k) s k.ch fun c => (c.core k.w).wait = .none ∧ (c.core k.w).pc = ((s.ch k.ch).core k.w).pc + 4#64 ∧
      (rd ≠ 0 → (c.core k.w).g[rd] = 1#64)) ∧
  ∀ (s : State) (k : CoreId) (p : Bool) (rd rs1 rs2 : Fin 32) (slot : Fin 64) (ch : Chan), let m := s.mtl k.ch; let va := ch.rg k.w rs1
    let i : Instr := .stph k p rd rs1 rs2 slot
    let queues := fun (c1 : Chan) (pa : Nat) => let cost := if c1.fixedCore k.w then 2 else 1
      (c1.stph.length < 128 →
        Retires i s k ((({ c1 with stph := c1.stph ++ [⟨slot, pa - ctrlBase, (c1.rg k.w rs2).truncate 32, (c1.core k.w).pcc.mantle⟩] } : Chan).putF
          0x10010 8 8 (max (c1.fld 0x10010 8 8) (c1.stph.length + 1))).wg k.w rd 2 0#64) (ch.pcOf k + 4#64) cost) ∧
      (128 ≤ c1.stph.length → Retires i s k ((c1.setBit 0x10010 16).wg k.w rd 2 1#64) (ch.pcOf k + 4#64) cost)
    s.issued k (encP p rd.val rs1.val rs2.val slot.val 1) = some ch →
    (∀ c1 pt ps, ch.granted m k.w accStph va 4 = some (c1, pt :: ps) → queues c1 pt.pa) ∧
    (ch.CtrlReach m k.w va [1] → (needsSystem (va.toNat - ctrlBase) = true → (ch.core k.w).pcc.has 5 = true ∨ (ch.rc k.w 0).has 5 = true) →
      queues ch va.toNat)

/-- A word of page 0x3F that no routine claims is an undefined encoding. A claimed one runs its routine: one that is only END completes
with nothing written; one of an integer operation on rs1 and rs2 into rd and END leaves that result. A first microword whose parity is
wrong snuffs the channel before it has any effect, with bit 24 of the last cause set. -/
def Obligations.Routines : Prop :=
  ∀ (s : State) (k : CoreId) (p : Bool) (xop : Fin 64) (rd rs1 rs2 : Fin 32) (imm4 : BitVec 4) (ch : Chan), let m := s.mtl k.ch
    let i : Instr := .customerRoutine k p xop rd rs1 rs2 imm4
    let word := encX p rd.val rs1.val rs2.val imm4.toNat xop.val
    let c1 := (ch.drain94 m k.w 7).onCore k.w fun c => { c with pend := [] }
    let at0 := (nth 0#16 ch.ucode.entry xop.val).toNat % 2 ^ 13 - 0x1C00
    let micro := fun (j : Nat) => nth 0xC0000#20 c1.ucode.micro j
    s.issued k word = some ch →
    (definedWord ch.ucode word = false → Raises i s k ch ⟨2, 0, 0#64⟩ (ch.pcOf k) word) ∧
    (definedWord ch.ucode word = true → (ch.core k.w).elem = none → c1.badWords.contains ⟨k.w, false, at0 + 0x1C00⟩ = true →
      (0x1C00 ≤ (nth 0#16 ch.ucode.entry xop.val).toNat % 2 ^ 13) → c1.ucode = ch.ucode → (c1.core k.w).elem = none → Claims.AtRest c1 →
      Leaves i s k.ch fun t => t.snuff = some ⟨k.w, false⟩ ∧ t.objN (t.idx 0x3040) 4 0 = 2 ^ 24 ∧ (t.core k.w).g = (c1.core k.w).g) ∧
    (definedWord ch.ucode word = true → (ch.core k.w).elem = none → (c1.core k.w).elem = none → c1.ucode = ch.ucode → c1.badWords = [] →
      (0x1C00 ≤ (nth 0#16 ch.ucode.entry xop.val).toNat % 2 ^ 13) →
      ((micro at0).toNat / 2 ^ 18 = 3 → Retires i s k (c1.onCore k.w fun c => { c with elem := none }) (ch.pcOf k + 4#64) 3) ∧
      (∀ op, (micro at0).toNat / 2 ^ 18 = 0 → (micro (at0 + 1)).toNat / 2 ^ 18 = 3 → op ≤ 23 →
        (let ν := (nth 0#144 c1.ucode.nano ((micro at0).toNat % 1024 - 0x380)).toNat
         ν % 16 = 1 ∧ ν / 2 ^ 4 % 64 = op ∧ ν / 2 ^ 10 % 32 = 1 ∧ ν / 2 ^ 15 % 32 = 2 ∧ ν / 2 ^ 20 % 32 = 3) →
        rd ≠ 0 → let c := c1.core k.w
        Retires i s k ((c1.wg k.w rd 1 (intFn op c.g[rs1] c.g[rs2])).onCore k.w fun c => { c with elem := none }) (ch.pcOf k + 4#64) 4))

/-! ## What happens to a core between instructions -/

/-- A core at a boundary, in no transition and outside a window that is offered a source enters its vector, unless a lower-numbered core takes it. The source
offered is ready, targets the core, has a PRIO above MASK, and none like it has a higher PRIO or, at the same, a lower number. A window that
reaches its limit ends as an overrun and is counted; a recorded fault is delivered and its entry is free. -/
def Obligations.CoreEvents : Prop :=
  (∀ (s : State) (k : CoreId) (v : Nat), let m := s.mtl k.ch; let ch := s.ch k.ch; let c0 := { ch with free := ch.free + 1 }
    ch.badWords = [] → ch.atBoundary k.w = true → ch.trans = none → (ch.core k.w).wact = false → ch.offered k.w = some v → 32 ≤ v → ch.lowerTakes k.w v = false →
    (∀ i : Fin 32, ((ch.core k.w).loq[i]).st = .free) →
    (∀ (c1 t : Chan) (d : Desc),
      ((c0.settle m k.w).1.onCore k.w fun c => { c with pend := [], slotA := none, wait := .none }).descriptor m k.w v = (c1, some d) →
      c1.enterVec m k.w ⟨v, 0, 0#64, (ch.core k.w).pc, 0#32, ch.fld (flrCfg v) 0 3, 0, 0#64⟩ d v 0 = (t, true) →
      exec (.interruptEntry k) s = .next (s.onChan k.ch fun _ => t)) ∧
    ∀ d : Desc, ch.EntryReady k.w v d →
      Leaves (.interruptEntry k) s k.ch fun t => t.Entered k.w d v (max d.level (ch.fld (flrCfg v) 0 3)) ∧ t.active v = true ∧
        t.pulse.getLsbD v = false ∧ t.fld (flrCfg v) 12 3 = k.w.val) ∧
  (∀ (ch : Chan) (w : Fin 8) (v : Nat), ch.offered w = some v →
    let fits := fun u => u < 192 ∧ ch.ready u = true ∧ ch.bit (flrCfg u) (4 + w.val) = true ∧ (ch.core w).maskNow < ch.fld (flrCfg u) 0 3
    fits v ∧ ∀ u, fits u → ch.fld (flrCfg u) 0 3 ≤ ch.fld (flrCfg v) 0 3 ∧ (ch.fld (flrCfg u) 0 3 = ch.fld (flrCfg v) 0 3 → v ≤ u)) ∧
  (∀ (s : State) (k : CoreId), let ch := s.ch k.ch; let off := 0x41004 + k.w.val * 0x40
    ch.life = .up → (ch.core k.w).wact = true →
    Leaves (.windowLimit k) s k.ch fun t => (t.core k.w).wact = false ∧ (t.core k.w).wrem = 0 ∧ (t.core k.w).wovr = true ∧
      t.fld off 0 16 = min 0xFFFF (ch.fld off 0 16 + 1)) ∧
  ∀ (s : State) (k : CoreId) (i : Fin 32) (d : Desc), let m := s.mtl k.ch; let ch := s.ch k.ch; let x := (ch.core k.w).loq[i]
    let c0 := (({ ch with free := ch.free + 1 } : Chan).settle m k.w).1.loqSet k.w i LoqEnt.empty
    ch.badWords = [] → ch.atBoundary k.w = true → (ch.core k.w).dueFault = some i → (∀ j : Fin 32, ((ch.core k.w).loq[j]).st ≠ .pending) →
    (ch.core k.w).mask ≠ 7#3 → (ch.core k.w).mask.toNat < d.level → (ch.core k.w).xact.getLsbD 6 = false →
    (∀ c1 t : Chan, (c0.onCore k.w fun c => { c with pend := [], slotA := none, wait := .none }).descriptor m k.w 6 = (c1, some d) →
      c1.enterVec m k.w ⟨6, 0, 0#64, (ch.core k.w).pc, 0#32, 0, i.val + 256 * (x.cause % 16), x.pc⟩ d 6 0 = (t, true) →
      Leaves (.longOperationFault k) s k.ch fun t' => (t'.core k.w).pc = (t.core k.w).pc ∧ (t'.core k.w).pcc = (t.core k.w).pcc ∧
        (t'.core k.w).g = (t.core k.w).g ∧ (t'.core k.w).mask = (t.core k.w).mask) ∧
    (ch.EntryReady k.w 6 d → Leaves (.longOperationFault k) s k.ch fun t => t.Entered k.w d 6 d.level ∧ (t.core k.w).loq[i] = LoqEnt.empty)
/-! ## Control registers -/

/-- A store of a control register that passes its checks enters the buffer, every row that names one among them; where the costs are fixed it leaves
12 cycles after its issue or later, elsewhere within its own command, after the older ones (log 25). In reach of a core with fixed costs, its buffer
empty, what leaves is the register's write of the value. A store of another size raises Data Abort "size", a Taper store "untagged". -/
def Obligations.RegisterStores : Prop :=
  ∀ (s : State) (k : CoreId) (insn val : W32) (ch : Chan), let m := s.mtl k.ch; let w := k.w
    s.issued k insn = some ch →
    (∀ (c1 : Chan) (ps : List Part) (i v : Fin 8) (t : Fin 4) (n : Fin 64) (r : Fin 16) (u : Fin 2) (pu : Fin 32) (b : Bool) (off : BitVec 24),
      ∀ row ∈ Claims.regStores k insn val i v t n r u pu b ++ [(.registerWrite k insn off .b4 false val, off.toNat)],
        ch.granted m w accStore (BitVec.ofNat 64 (0xF0000000 + row.2)) 4 = some (c1, ps) →
        Retires row.1 s k ((c1.enter m w (storeEnts ps (val.zeroExtend 128) false (c1.core w).pcc.mantle)).regLeave m w)
          (ch.pcOf k + 4#64) (c1.storeCost w ps)) ∧
    ∀ off : BitVec 24, let va := BitVec.ofNat 64 (0xF0000000 + off.toNat); let pt : Part := ⟨0xF0000000 + off.toNat, 4, .device⟩
      (∀ u : Fin 32, ch.fld (pu u + 8) 0 2 = 0) → ch.fixedCore w = true →
      (off.toNat % 4 = 0 → taperCheck m (ch.core w).pcc.mantle (ch.rc w 0) va 4 [1] = none →
        (needsSystem off.toNat = true → (ch.core w).pcc.has 5 = true ∨ (ch.rc w 0).has 5 = true) →
        ch.granted m w accStore va 4 = some (ch, [pt]) ∧ ch.storeCost w [pt] = 2 ∧
        ((ch.core w).sb = [] → let put := ch.enter m w (storeEnts [pt] (val.zeroExtend 128) false (ch.core w).pcc.mantle)
          (∃ x : SbEnt, (put.core w).sb = [x] ∧ x.part = pt ∧ x.leave = (ch.core w).cyc + 12) ∧
          put.drainAll m w = (ch.onCore w fun c => { c with l1i := setDel c.l1i (pt.pa / 64) }).writeCtrl m off.toNat val (ch.core w).pcc.mantle false ∧
          ∀ (i v : Fin 8) (t : Fin 4) (n : Fin 64) (r : Fin 16) (u : Fin 2) (pu : Fin 32) (b : Bool),
            ∀ row ∈ Claims.regStores k insn val i v t n r u pu b ++ [(.registerWrite k insn off .b4 false val, off.toNat)],
              row.2 = off.toNat → Retires row.1 s k put (ch.pcOf k + 4#64) 2)) ∧
      (∀ (n : Nat) (size : AccSize), (size, n) ∈ [(AccSize.b1, 1), (.b2, 2), (.b8, 8), (.b16, 16)] →
        taperCheck m (ch.core w).pcc.mantle (ch.rc w 0) va n [1] = none →
        Raises (.registerWrite k insn off size false val) s k ch ⟨5, 9, va⟩ (ch.pcOf k) insn) ∧
      (taperCheck m (ch.core w).pcc.mantle (ch.rc w 0) va 16 [1, 4] = none →
        ∀ size, Raises (.registerWrite k insn off size true val) s k ch ⟨5, 10, va⟩ (ch.pcOf k) insn)

/-- A load of a control register that passes its checks writes its value, sign-extended by LWS, at distance 3, and costs what a load does: in
reach of a core with fixed costs, its buffer empty, 14. A read clears the counters that a read clears, takes the front of a receive
FIFO, or empties a capture register; a capture in the same cycle enters after the value is read. -/
def Obligations.RegisterLoads : Prop :=
  (∀ (s : State) (k : CoreId) (insn : W32) (rd : Fin 32) (v : Fin 8) (u : Fin 2) (r : Fin 16) (j : Fin 4) (ch : Chan),
    let m := s.mtl k.ch; let w := k.w
    let e := if ch.chained r then evenOf r else r
    let cap := fun (c : Chan) => if c.capOn (if c.chained r then evenOf r else r) j then c.capture (if c.chained r then evenOf r else r) j true else c
    s.issued k insn = some ch →
    (∀ (c1 c2 : Chan) (ps : List Part) (b : List Byte) (tag : Bool),
      let still := if c2.fixedCore w ∧ ps.any (fun p => p.attr = .device) then c1.loadCost w ps - 2 else 0
      let x := if majorOf insn = 0x14 then Claims.signed b.length (leNat b) else BitVec.ofNat 64 (leNat b)
      let fin := fun (c : Chan) => ((c.wg w rd 3 x).trainPrefetch m w (c1.l1dMisses w ps)).onCore w fun c => c.frozenPart (c.cyc + 3) still
      (c1.splitFreeze w ps).loadParts m w false ps 0 = (c2, b, none, tag) →
      (∀ row ∈ Claims.regLoads k insn rd v u r j, ch.granted m w accLoad (BitVec.ofNat 64 (0xF0000000 + row.2)) 4 = some (c1, ps) →
        Retires row.1 s k (fin c2) (ch.pcOf k + 4#64) (c1.loadCost w ps)) ∧
      (ch.granted m w accLoad (BitVec.ofNat 64 (0xF0000000 + (0x20030 + 0x100 * r.val + 4 * j.val))) 4 = some (c1, ps) →
        Retires (.capRead k insn rd r j true) s k (fin (cap c2)) (ch.pcOf k + 4#64) (c1.loadCost w ps))) ∧
    ∀ off : Nat, ch.CtrlReach m w (BitVec.ofNat 64 (0xF0000000 + off)) [0] → (needsGauge off = true → (ch.rc w 0).has 6 = true) → (ch.core w).sb = [] →
      let rs := ch.readCtrl off
      let x := if majorOf insn = 0x14 then Claims.signed 4 rs.2.toNat else BitVec.ofNat 64 rs.2.toNat
      let fin := fun (c : Chan) => (c.wg w rd 3 x).onCore w fun c => c.frozenPart (c.cyc + 3) 12
      (∀ row ∈ Claims.regLoads k insn rd v u r j, row.2 = off → Retires row.1 s k (fin rs.1) (ch.pcOf k + 4#64) 14) ∧
      (off = 0x20030 + 0x100 * r.val + 4 * j.val →
        Retires (.capRead k insn rd r j true) s k (fin (if ch.capOn e j then rs.1.capture e j true else rs.1)) (ch.pcOf k + 4#64) 14)) ∧
  (∀ (ch : Chan) (w : Fin 8), ∀ row ∈ Claims.counters w, (ch.readCtrl row.1).2 = regShown row.1 (ch.reg row.1) ∧
    getF (ch.readCtrl row.1).2 row.2.1 row.2.2 = ch.fld row.1 row.2.1 row.2.2 ∧ (ch.readCtrl row.1).1.fld row.1 row.2.1 row.2.2 = 0 ∧
    ∀ off, off ≠ row.1 → (ch.readCtrl row.1).1.reg off = ch.reg off) ∧
  (∀ (ch : Chan) (u : Fin 2) (x : BitVec 11) (rest : List (BitVec 11)), (ch.io.uart[u]).rx = x :: rest →
    (ch.readCtrl (ub u + 8)).2 = x.zeroExtend 32 ∧ ((ch.readCtrl (ub u + 8)).1.io.uart[u]).rx = rest) ∧
  (∀ (ch : Chan) (x : W32) (rest : List W32), ch.io.spiRx = x :: rest →
    (ch.readCtrl 0x510004).2 = x ∧ (ch.readCtrl 0x510004).1.io.spiRx = rest) ∧
  (∀ (ch : Chan) (x : Byte) (rest : List Byte), ch.io.i2cRx = x :: rest →
    (ch.readCtrl 0x520008).2 = x.zeroExtend 32 ∧ (ch.readCtrl 0x520008).1.io.i2cRx = rest) ∧
  (∀ (ch : Chan) (u : Fin 2), ((ch.io.uart[u]).rx = [] → ch.readCtrl (ub u + 8) = (ch, 0x80000000#32)) ∧ (ch.io.spiRx = [] → ch.readCtrl 0x510004 = (ch, 0#32)) ∧
    (ch.io.i2cRx = [] → ch.readCtrl 0x520008 = (ch, 0x80000000#32))) ∧
  ∀ (ch : Chan) (r : Fin 16) (j : Fin 4), let off := tb r + 0x30 + 4 * j.val
    ch.chained r = false → (ch.tm r).half.contains j.val = false →
    (ch.readCtrl off).2 = ch.reg off ∧ (ch.readCtrl off).1.bit (tb r + 0x1C) (8 + j.val) = false

/-- What a write does at the registers that command something: interrupt latches, dismissal of faulted entries, FLUSH, high-water marks, timers,
watchdog, output latches, pin functions, transmit FIFOs, trace, trackers, slots, mailbox, patch units. -/
def Sys2Proof.Claims.CommandRegisters : Prop :=
  (∀ (m : MantleTable) (ch : Chan) (v : W32) (mt : BitVec 12) (i : Fin 8) (b : Nat), b < 32 → let wr := fun off => ch.writeOne m off v mt false
    (wr 0x40010).pulse.getLsbD (160 + b) = (ch.pulse.getLsbD (160 + b) || v.getLsbD b) ∧
    (wr (0x40080 + 4 * i.val)).pulse.getLsbD (32 * i.val + b) = (ch.pulse.getLsbD (32 * i.val + b) && !v.getLsbD b) ∧
    (wr (0x400A0 + 4 * i.val)).activ.getLsbD (32 * i.val + b) = (ch.activ.getLsbD (32 * i.val + b) && !v.getLsbD b)) ∧
  (∀ (m : MantleTable) (ch : Chan) (v : W32) (mt : BitVec 12) (w : Fin 8) (i : Fin 32), let wr := fun off => ch.writeOne m off v mt false
    (((wr (0x100004 + 0x10000 * w.val)).core w).loq[i] =
      if v.getLsbD i.val = true ∧ ((ch.core w).loq[i]).st = .faulted then LoqEnt.empty else (ch.core w).loq[i]) ∧
    (v.getLsbD 0 = true → ((wr (0x100014 + 0x10000 * w.val)).core w).pred = Pred.clear) ∧
    (v.getLsbD 31 = true → ((wr 0x10010).fld 0x10010 8 8 = ch.stph.length % 256 ∧ (wr 0x60080).fld 0x60080 16 11 = ch.tokensUsed % 2048))) ∧
  (∀ (m : MantleTable) (ch : Chan) (v : W32) (mt : BitVec 12) (n : Fin 16), let wr := fun off => ch.writeOne m off v mt false
    (wr (tb n)).tmRun n = v.getLsbD 0 ∧ ((wr (tb n + 8)).tm n).newC = some v ∧ ((wr (tb n + 0x10)).tm n).newA = some v ∧
    ((wr (tb n + 0x14)).tm n).newB = some v ∧
    (wr 0x21000).tmRun n = if v.getLsbD (16 + n.val) then false else if v.getLsbD n.val then true else ch.tmRun n) ∧
  (∀ (m : MantleTable) (ch : Chan) (v : W32) (mt : BitVec 12), let wr := fun off => ch.writeOne m off v mt false
    (ch.bit 0x50000 4 = true → wr 0x50000 = ch) ∧
    (ch.bit 0x50000 4 = false → ch.bit 0x50000 0 = false → v.getLsbD 0 = true → (wr 0x50000).reg 0x5000C = ch.reg 0x50004) ∧
    (ch.bit 0x50000 4 = false → ch.bit 0x50000 0 = true → (wr 0x50000).bit 0x50000 0 = true) ∧
    (ch.svcKey = none → v = 0xAC1D#32 → (wr 0x50010).svcKey = some ch.ptb.toNat) ∧
    (ch.wdtLate = true → (wr 0x50010).bit 0x50014 2 = true) ∧
    (ch.svcKey ≠ none → ch.wdtLate = false → v = 0x53E2#32 → (wr 0x50010).svcKey = none ∧ (wr 0x50010).reg 0x5000C = ch.reg 0x50004) ∧
    ((ch.svcKey = none ∧ v ≠ 0xAC1D#32) ∨ (ch.svcKey ≠ none ∧ v ≠ 0x53E2#32) → (wr 0x50010).bit 0x50014 2 = true)) ∧
  (∀ (m : MantleTable) (ch : Chan) (v : W32) (mt : BitVec 12) (n : Fin 64), let wr := fun off => ch.writeOne m off v mt false
    (wr 0x30108).reg 0x30100 = (ch.reg 0x30100 ||| v) ∧ (wr 0x3010C).reg 0x30104 = (ch.reg 0x30104 ||| v) ∧
    (wr 0x30110).reg 0x30100 = (ch.reg 0x30100 &&& ~~~v) ∧ (wr 0x30114).reg 0x30104 = (ch.reg 0x30104 &&& ~~~v) ∧
    (wr 0x30118).reg 0x30100 = (ch.reg 0x30100 ^^^ v) ∧ (wr 0x3011C).reg 0x30104 = (ch.reg 0x30104 ^^^ v) ∧
    (v.toNat % 16 ≤ 7 → (wr (0x30000 + 4 * n.val)).pinFunc n.val = v.toNat % 16 ∧ (wr (0x30000 + 4 * n.val)).pinSel n.val =
      if (v.toNat % 16 = 4 ∧ 6 ≤ v.toNat / 16 % 64) ∨ (v.toNat % 16 = 5 ∧ 7 ≤ v.toNat / 16 % 64) ∨ ((v.toNat % 16 = 6 ∨ v.toNat % 16 = 7) ∧ 2 ≤ v.toNat / 16 % 64)
      then ch.pinSel n.val else v.toNat / 16 % 64)) ∧
  (∀ (m : MantleTable) (ch : Chan) (v : W32) (mt : BitVec 12) (u : Fin 2), let wr := fun off => ch.writeOne m off v mt false
    let x := ch.io.uart[u]; let t := wr (ub u + 8); let len := v.toNat / 4096 % 2048
    (64 ≤ x.tx.length → t.bit (ub u + 0xC) 18 = true ∧ (t.io.uart[u]).tx = x.tx) ∧
    (x.tx.length < 64 → x.on ≠ none → (t.io.uart[u]).tx = x.tx ++ [v.truncate 8]) ∧
    (x.tx = [] → x.on = none → ch.bit (ub u) 0 = true → ch.bit (ub u) 1 = true → (t.io.uart[u]).on = some (v.truncate 8)) ∧
    (16 ≤ ch.io.spiTx.length → (wr 0x510004).bit 0x510008 18 = true ∧ (wr 0x510004).io.spiTx = ch.io.spiTx) ∧
    (ch.io.spiTx.length < 16 → ch.io.spiOn ≠ none → (wr 0x510004).io.spiTx = ch.io.spiTx ++ [v]) ∧
    (ch.io.i2cCmd.length < 16 → (wr 0x520004).io.i2cCmd = ch.io.i2cCmd ++ [v]) ∧ (16 ≤ ch.io.i2cCmd.length → wr 0x520004 = ch) ∧
    (len < 14 ∨ 1518 < len → wr 0x530014 = ch) ∧
    (14 ≤ len → len ≤ 1518 → 8 ≤ ch.io.ethQ.length → (wr 0x530014).bit 0x53000C 10 = true) ∧
    (14 ≤ len → len ≤ 1518 → ch.io.ethQ.length < 8 → (wr 0x530014).io.ethQ = ch.io.ethQ ++ [(v.toNat % 4096, len)]) ∧
    (ch.bit 0x530024 11 = true → wr 0x530024 = ch) ∧ (ch.bit 0x530024 11 = false → (wr 0x530024).fld 0x530024 0 12 = v.toNat % 4096)) ∧
  (∀ (m : MantleTable) (ch : Chan) (v : W32) (mt : BitVec 12), let wr := fun off => ch.writeOne m off v mt false
    (ch.bit 0x200000 0 = false → v.getLsbD 0 = true → (wr 0x200000).trcState = 1 ∧ (wr 0x200000).trcBuf = []) ∧
    (ch.bit 0x200000 0 = true → v.getLsbD 0 = false → (ch.trcState = 1 ∨ ch.trcState = 2) → (wr 0x200000).trcState = 3) ∧
    (v.getLsbD 0 = true → ch.trcState = 1 → ch.fld 0x20000C 0 3 = 1 → (wr 0x200014).trcState = 2) ∧
    (wr 0x400100).mbxIn = ch.mbxIn.tail ∧
    (ch.bit 0x400000 0 = false → wr 0x400080 = ch) ∧
    (ch.bit 0x400000 0 = true → 16 ≤ ch.mbxOut.length → (wr 0x400080).bit 0x400004 26 = true) ∧
    (ch.bit 0x400000 0 = true → ch.mbxOut.length < 16 → let dst := ch.fld 0x400040 0 4
      (dst < 4 ∨ dst = 15 → (wr 0x400080).mbxOut = ch.mbxOut ++ [⟨ch.mbxStaged, mt⟩]) ∧
      (4 ≤ dst → dst ≠ 15 → (wr 0x400080).mbxOut = ch.mbxOut ∧ (wr 0x400080).fld 0x400008 8 2 = 3))) ∧
  (∀ (m : MantleTable) (ch : Chan) (v : W32) (mt : BitVec 12) (k : Fin 4) (n : Fin 64), let wr := fun off => ch.writeOne m off v mt false
    let q : W64 := ch.reg (kb k + 0x34) ++ ch.reg (kb k + 0x30)
    (Claims.Bare ch → (wr (kb k)).trkState k = if (wr (kb k)).trkSrc k = 0 then 0 else 1) ∧
    (Claims.Bare ch → ch.trkState k = 2 → (wr (kb k)).bit (kb k + 0x18) 4 = true) ∧
    (Claims.Bare ch → ch.trkSrc k = 5 → ch.trkState k = 1 → (v.getLsbD 0 = true ∨ v.getLsbD 1 = true) → (ch.reg (kb k + 0x38)).toInt.natAbs ≤ maxSpeed →
      (wr (kb k + 0x3C)).trkState k = 2 ∧ (wr (kb k + 0x3C)).pos k = q) ∧
    (Claims.Bare ch → ch.trkSrc k = 5 → ch.trkState k = 2 → v.getLsbD 1 = true → (ch.reg (kb k + 0x38)).toInt.natAbs ≤ maxSpeed →
      (wr (kb k + 0x3C)).pos k = q ∧ (wr (kb k + 0x3C)).bit (kb k + 0x18) 6 = true) ∧
    (ch.armed n = true → v.getLsbD 0 = true → wr (nb n) = ch.setBit (nb n + 0x18) 4) ∧
    (ch.armed n = true → v.getLsbD 0 = false → (wr (nb n)).armed n = false ∧ (n ∉ ch.fired → (wr (nb n)).bit (nb n + 0x18) 3 = true)) ∧
    (Claims.Bare ch → v.getLsbD 0 = true → v.getLsbD 3 = false → v.getLsbD 8 = false →
      ch.trkState ⟨v.toNat / 2 % 4, Nat.mod_lt _ (by decide)⟩ < 2 → (wr (nb n)).armed n = true ∧ (wr (nb n)).fld (nb n + 0x18) 0 5 = 0)) ∧
  ∀ (m : MantleTable) (ch : Chan) (v : W32) (mt : BitVec 12) (u : Fin 32), let t := ch.writeOne m (0x300108 + 16 * u.val) v mt false
    (v.toNat % 4 = 2 → t.fld (pu u + 8) 0 2 = ch.fld (pu u + 8) 0 2 ∧ t.bit 0x300004 2 = true) ∧
    ((v.toNat % 4 = 0 ∨ v.toNat % 4 = 3) → t.fld (pu u + 8) 0 2 = v.toNat % 4) ∧
    ∀ w : Fin 8, setHas (t.core w).l1i (ch.puAddr u / 64) = false

/-- A plain register: a write replaces its RW fields by values they list, clears W1C bits, and leaves RO and RC fields, and no other
register changes. -/
def Sys2Proof.Claims.RegisterKinds : Prop :=
  (∀ (ch : Chan) (off : Nat) (v : W32), (ch.plainWrite off v).reg off = regWritten off (ch.reg off) v ∧
    ∀ o, o ≠ off → (ch.plainWrite off v).reg o = ch.reg o) ∧
  (∀ (off : Nat) (img v : W32), regDef off = none → regWritten off img v = img ∧ regShown off img = 0#32) ∧
  ∀ (f : FieldDef) (img v : W32), f.lo + f.w ≤ 32 → let t := f.write img v
    (∀ b, (b < f.lo ∨ f.lo + f.w ≤ b) → t.getLsbD b = img.getLsbD b) ∧
    (f.acc = .rw → getF t f.lo f.w = if f.lists (getF v f.lo f.w) then getF v f.lo f.w else getF img f.lo f.w) ∧
    (f.acc = .wo → getF t f.lo f.w = getF v f.lo f.w) ∧
    (f.acc = .w1c → ∀ b, f.lo ≤ b → b < f.lo + f.w → t.getLsbD b = (img.getLsbD b && !v.getLsbD b)) ∧
    (f.acc = .ro ∨ f.acc = .rc → t = img)

/-- Control registers whose writes command, and the kinds of their fields. -/
def Obligations.ControlRegisters : Prop := Claims.CommandRegisters ∧ Claims.RegisterKinds


/-! ## What happens to a channel from outside its cores -/

/-- The trackers and slots at an event. A count of the encoder turns the position, a reversal shows in STAT; a narrow pulse and an edge that is
not the mark do nothing; an index edge locks; an edge in time keeps lock, one faster or slower than its source allows, one too far from the
expected angle, an illegal move or a missing edge lose it; HOLDOVER ends in ACQUIRE; a new ring master makes the position jump. A slot fires when
its target or its deadline is reached; a one-shot slot is disarmed by it, a periodic one notes the TURN. The position estimates beyond these are
free (log 13). With the glitch filter off an edge acts at once, else by the filter's width later; a ring sample acts once the Lamplighter has
delivered it. That an illegal move sets SRCERR outside LOCKED too, and that a correction of less than a count is a jump, is the model's choice
(log 61). -/
def Sys2Proof.Claims.PhaseTimebase : Prop :=
  ∀ (s : State) (c k : Fin 4), let ch := s.ch c
    let lost := fun (t : Chan) => t.bit (kb k + 0x18) 4 = true ∧ t.trkState k = if ch.fld (kb k + 0x10) 0 20 = 0 then 1 else 3
    let same := fun (t : Chan) => t = { ch with free := ch.free + 1 }
    let errOf := fun (q : W64) => (q.truncate 32 : W32) - ch.reg (kb k + 0x20)
    let counted := fun (n : Int) => (ch.tk k).pred + BitVec.ofInt 64 (n * 2 ^ 32 / (ch.fld (kb k + 4) 0 24 : Int))
    let queued := fun (saw : TrkSaw) (t : Chan) => t = { ch with free := ch.free + 1, edges := ch.edges ++ [⟨k, ch.filt k, saw⟩] }
    Claims.Still ch →
    (∀ (mv : EncMove) (width dt : Nat), let back := (mv == .back) != ch.bit (kb k) 18; let n := (ch.tk k).count + (if back then -1 else 1)
      ch.trkSrc k = 1 →
      (ch.passes k width = false → Leaves (.encoderCount c k mv ⟨width, dt⟩) s c same) ∧
      (ch.passes k width = true → ch.filt k ≠ 0 → Leaves (.encoderCount c k mv ⟨width, dt⟩) s c (queued (.count mv dt))) ∧
      (ch.passes k width = true → ch.filt k = 0 → ch.trkState k ≠ 2 → Leaves (.encoderCount c k mv ⟨width, dt⟩) s c fun t =>
        if mv = .illegal then t.bit (kb k + 0x18) 8 = true ∧ (t.tk k).count = (ch.tk k).count
        else (t.tk k).count = n ∧ t.trkDir k = back ∧ (back ≠ ch.trkDir k → t.bit (kb k + 0x18) 5 = true)) ∧
      (ch.passes k width = true → ch.filt k = 0 → ch.trkState k = 2 → Claims.Bare ch →
        (mv = .illegal → Leaves (.encoderCount c k mv ⟨width, dt⟩) s c fun t => lost t ∧ t.bit (kb k + 0x18) 8 = true) ∧
        (mv ≠ .illegal → 24 ≤ dt → (back = ch.trkDir k → 150000 ≤ dt * ch.fld (kb k + 4) 0 24) →
          Leaves (.encoderCount c k mv ⟨width, dt⟩) s c fun t => (t.tk k).count = n ∧ t.pos k = counted n ∧ t.reg (kb k + 0x2C) = errOf (counted n) ∧
            t.trkState k = 2 ∧ t.trkDir k = back ∧ (back ≠ ch.trkDir k → t.speed k = 0 ∧ t.bit (kb k + 0x18) 5 = true)) ∧
        (mv ≠ .illegal → dt < 24 → Leaves (.encoderCount c k mv ⟨width, dt⟩) s c lost) ∧
        (mv ≠ .illegal → back = ch.trkDir k → dt * ch.fld (kb k + 4) 0 24 < 150000 →
          Leaves (.encoderCount c k mv ⟨width, dt⟩) s c fun t => lost t ∧ t.bit (kb k + 0x18) 8 = true ∧ t.speed k = ch.speed k))) ∧
    (∀ e : MarkEdge, (ch.marks k e = false → Leaves (.indexEdge c k e) s c same ∧ Leaves (.pulseEdge c k e) s c same ∧ Leaves (.zeroCrossing c k e) s c same)) ∧
    (∀ e : MarkEdge, ch.marks k e = true → ch.filt k ≠ 0 →
      (ch.trkSrc k = 1 → Leaves (.indexEdge c k e) s c (queued (.index e.dt))) ∧ (ch.trkSrc k = 2 → Leaves (.pulseEdge c k e) s c (queued (.mark 2 e.dt))) ∧
      (ch.trkSrc k = 3 → Leaves (.zeroCrossing c k e) s c (queued (.mark 3 e.dt)))) ∧
    (∀ e : MarkEdge, ch.marks k e = true → ch.filt k = 0 → Claims.Bare ch → ch.trkSrc k = 1 → (ch.trkState k = 1 ∨ ch.trkState k = 3) →
      Leaves (.indexEdge c k e) s c fun t => t.trkState k = 2 ∧ t.bit (kb k + 0x18) 9 = true ∧ t.pos k = nearest (ch.pos k) (ch.reg (kb k + 8)) ∧
        (t.tk k).count = 0) ∧
    (∀ e : MarkEdge, ch.marks k e = true → ch.filt k = 0 → Claims.Bare ch → ch.trkSrc k = 1 → ch.trkState k = 2 →
      let q := nearest (counted (ch.tk k).count) (ch.reg (kb k + 8)); let d := dist (counted (ch.tk k).count) q
      let scale := ch.fld (kb k + 4) 0 24; let tol := 2 ^ ch.fld (kb k) 16 2
      (tol * 2 ^ 32 + scale < d.natAbs * scale → Leaves (.indexEdge c k e) s c fun t => lost t ∧ t.bit (kb k + 0x18) 8 = true) ∧
      (d.natAbs * scale ≤ tol * 2 ^ 32 + scale → Leaves (.indexEdge c k e) s c fun t => t.trkState k = 2 ∧ (t.tk k).pred = q ∧ (t.tk k).count = 0 ∧
        t.pos k = (if d = 0 then ch.pos k else q) ∧ (d ≠ 0 → t.bit (kb k + 0x18) 6 = true))) ∧
    (∀ (p : W64) (a : W32), (nearest p a).truncate 32 = a ∧ (dist p (nearest p a)).natAbs ≤ 2 ^ 31) ∧
    (∀ e : MarkEdge, ch.marks k e = true → ch.filt k = 0 → Claims.Bare ch → ch.trkState k = 2 → let q := nearest (ch.pos k) (ch.reg (kb k + 8))
      let run := fun (i : Instr) (early late : Prop) =>
        (early ∨ late → Leaves i s c fun t => lost t ∧ t.bit (kb k + 0x18) 8 = true) ∧
        (¬ early → ¬ late → ch.fld (kb k + 0xC) 16 16 * 65536 < (errOf q).toInt.natAbs → Leaves i s c lost) ∧
        (¬ early → ¬ late → (errOf q).toInt.natAbs ≤ ch.fld (kb k + 0xC) 16 16 * 65536 →
          Leaves i s c fun t => t.trkState k = 2 ∧ t.pos k = ch.pos k ∧ t.reg (kb k + 0x2C) = errOf q ∧ (t.speed k).natAbs ≤ maxSpeed)
      (ch.trkSrc k = 2 → run (.pulseEdge c k e) (e.dt < 150000) (1200000000 < e.dt)) ∧
      (ch.trkSrc k = 3 → run (.zeroCrossing c k e) (e.dt * 70 < 600000000) (600000000 < e.dt * 40))) ∧
    (∀ (angle turn : W32) (new : Bool) (e : SampleTime), let x : RingSample := ⟨k, angle, turn, new, e, true⟩
      (x ∉ ch.samples → Leaves (.ringPhaseSample c k angle turn new e) s c same) ∧
      (x ∈ ch.samples → ch.trkSrc k ≠ 4 → Leaves (.ringPhaseSample c k angle turn new e) s c fun t => x ∉ t.samples ∧ t.regs = ch.regs)) ∧
    (∀ (angle turn : W32) (dt : Nat) (stamp : W64), Claims.Bare ch → ch.trkSrc k = 4 → ch.trkState k = 2 →
      let now : W64 := (turn ++ angle) + BitVec.ofInt 64 (ch.speed k * (ch.ptb - stamp).toInt / 65536)
      (⟨k, angle, turn, true, ⟨dt, stamp⟩, true⟩ ∈ ch.samples → Leaves (.ringPhaseSample c k angle turn true ⟨dt, stamp⟩) s c (fun t => t.pos k = now ∧ t.bit (kb k + 0x18) 6 = true ∧ t.trkState k = 2)) ∧
      (⟨k, angle, turn, false, ⟨dt, stamp⟩, true⟩ ∈ ch.samples → (dt = 0 ∨ (dist (ch.tk k).pred (turn ++ angle)).natAbs * 600000000 ≤ 4000 * 2 ^ 32 * (dt : Int)) →
        (errOf now).toInt.natAbs ≤ ch.fld (kb k + 0xC) 16 16 * 65536 →
        Leaves (.ringPhaseSample c k angle turn false ⟨dt, stamp⟩) s c fun t => t.trkState k = 2 ∧ t.pos k = ch.pos k ∧ t.reg (kb k + 0x2C) = errOf now)) ∧
    (Claims.Bare ch → ch.trkState k = 2 → (ch.missAt k).isSome = true → Leaves (.missingEdge c k) s c lost) ∧
    (Claims.Bare ch → ch.trkState k = 3 → Leaves (.holdoverExpiry c k) s c fun t => t.trkState k = 1) ∧
    (∀ n : Fin 64, ch.armed n = true → (∀ j, j ≠ n → ch.armed j = false) → let j := ch.slotTrk n
      let fired := fun (t : Chan) => t.bit (nb n + 0x18) 0 = true ∧ t.armed n = ch.periodic n ∧
        (ch.bit (nb n + 4) 0 = true → t.pulse.getLsbD (32 + n.val) = true)
      (∀ bwd, (ch.trkState j = 2 ∨ ch.trkState j = 3) → ch.dirOk n bwd = true →
        (if ch.speed j < 0 then true else if 0 < ch.speed j then false else ch.trkDir j) = bwd →
        (ch.periodic n = false → (if bwd then dist (ch.adv j) (ch.target n) < 0 else 0 < dist (ch.adv j) (ch.target n)) →
          Leaves (.slotFiring c n bwd) s c fired) ∧
        (ch.periodic n = true → let turn : W32 := ((ch.adv j + BitVec.ofInt 64 (ch.ahead n bwd)) >>> 32).truncate 32
          ch.firedIn n bwd turn = false → Leaves (.slotFiring c n bwd) s c fun t => fired t ∧ t.firedIn n bwd turn = true)) ∧
      (ch.periodic n = false → ch.bit (nb n) 8 = true → ch.rel = [] → Leaves (.deadline c n) s c fun t => fired t ∧ t.bit (nb n + 0x18) 2 = true ∧
        t.ptb = if ch.deadlineHit n then ch.ptb else (ch.reg (nb n + 0x14) ++ ch.reg (nb n + 0x10)) - BitVec.ofNat 64 (ch.fld (kb j + 0x14) 0 16)))

/-- A timer at an event: the tick to 0 sets ZERO, the one to PER in up-down mode PEAK, the one to a compare value its match; a selected
edge on an assigned input, of a pulse that passes the filter, captures the count with its flag, of a chained pair both counts, an unread capture notes
the overrun, one between the two reads of a pair is held; a delayed output rises while the timer runs. -/
def Sys2Proof.Claims.TimersAndCaptures : Prop :=
  ∀ (s : State) (c : Fin 4) (n : Fin 16), let ch := s.ch c
    Claims.Still ch →
    (ch.tmRun n = true → Leaves (.timerZero c n) s c fun t => t.cnt n = 0 ∧ t.bit (tb n + 0x1C) 0 = true) ∧
    (ch.tmRun n = true → ch.updown n = true → Leaves (.timerPeak c n) s c fun t => t.cnt n = ch.perUD n ∧ t.bit (tb n + 0x1C) 1 = true) ∧
    (∀ b : Bool, let v := ((if b then (ch.tm n).newB else (ch.tm n).newA).getD (ch.reg (tb n + if b then 0x14 else 0x10))).toNat
      ch.tmRun n = true → (ch.tm n).clr = false → (if ch.updown n then v ≤ ch.perUD n else v ≤ (ch.reg (tb n + 4)).toNat) →
      Leaves (.compareMatch c n b) s c fun t => t.cnt n = v ∧ t.bit (tb n + 0x1C) (if b then 3 else 2) = true) ∧
    (∀ (m : Fin 4) (rising : Bool) (width : Nat), ch.capSel n m rising = true → ch.selects 3 (4 * n.val + m.val) = true → ch.chained n = false →
      let pair := decide (n.val % 2 = 0) && ch.chained (oddOf n)
      (width < ch.capFilt n m → Leaves (.capture c n m ⟨rising, width⟩) s c fun t => t.regs = ch.regs ∧ t.tmr = ch.tmr) ∧
      (ch.capFilt n m ≤ width → (pair && (ch.tm n).half.contains m.val) = false →
        Leaves (.capture c n m ⟨rising, width⟩) s c fun t => t.reg (tb n + 0x30 + 4 * m.val) = ch.reg (tb n + 8) ∧ t.bit (tb n + 0x1C) (8 + m.val) = true ∧
          (pair = true → t.reg (tb (oddOf n) + 0x30 + 4 * m.val) = ch.reg (tb (oddOf n) + 8)) ∧
          (ch.bit (tb n + 0x1C) (8 + m.val) = true → t.bit (tb n + 0x1C) (12 + m.val) = true)) ∧
      (ch.capFilt n m ≤ width → (pair && (ch.tm n).half.contains m.val) = true →
        Leaves (.capture c n m ⟨rising, width⟩) s c fun t => t.regs = ch.regs ∧
          (t.tm n).held = (ch.tm n).held ++ [⟨m.val, ch.reg (tb n + 8), ch.reg (tb (oddOf n) + 8), ch.tmDir n⟩])) ∧
    (∀ b low : Bool, ch.tmRun n = true → (ch.tm n).rise.any (fun r => r.1 == 2 * b2n b + b2n low) = true →
      Leaves (.deadTimeEnd c n b low) s c fun t => (t.tm n).outs.getLsbD (2 * b2n b + b2n low) = true)

/-- The phase timebase, the timers and captures. -/
def Obligations.TimeAndTimers : Prop := Claims.PhaseTimebase ∧ Claims.TimersAndCaptures

/-- The pins and the local peripherals at an event: the level of a ball, characters and frames into their FIFOs or their overrun flag, the end
of a transfer, failures of the I²C bus, the Ethernet ring and its filter, the link, MDIO. -/
def Obligations.PeripheralEvents : Prop :=
  ∀ (s : State) (c : Fin 4), let ch := s.ch c
    Claims.Still ch →
    (∀ (p : Fin 64) (level : Bool), Leaves (.pinEdge c p level) s c fun t =>
      t.pinExt.getLsbD p.val = true ∧ t.pinIn.getLsbD p.val = level ∧ (∀ q : Fin 64, q ≠ p → t.pinIn.getLsbD q.val = ch.pinIn.getLsbD q.val) ∧
      (ch.drive p.val = .z → ch.pinExt.getLsbD p.val = true → ch.pinIn.getLsbD p.val ≠ level → ch.fld (0x30000 + 4 * p.val) 14 2 = 3 →
        t.bit (0x30130 + p.val / 32 * 4) (p.val % 32) = true)) ∧
    (∀ (u : Fin 2) (x : Byte) (par frm brk : Bool), let io := ch.io.uart[u]
      ch.bit (ub u) 0 = true → ch.bit (ub u) 2 = true → (ch.bit (ub u) 6 = false ∨ io.de = false) → ch.selects 4 (2 + u.val) = true →
      (io.rx.length < 64 → Leaves (.characterReceived c u x par frm brk) s c fun t => ∃ y : BitVec 11, (t.io.uart[u]).rx = io.rx ++ [y] ∧
        y.truncate 8 = x ∧ y.getLsbD 8 = (par && ch.fld (ub u) 3 2 != 0) ∧ y.getLsbD 9 = frm ∧ y.getLsbD 10 = brk) ∧
      (64 ≤ io.rx.length → Leaves (.characterReceived c u x par frm brk) s c fun t => (t.io.uart[u]).rx = io.rx ∧ t.bit (ub u + 0xC) 17 = true)) ∧
    (∀ u : Fin 2, let io := ch.io.uart[u]
      (io.on ≠ none → io.tx = [] → Leaves (.characterSent c u) s c fun t => (t.io.uart[u]).on = none ∧
        (io.de = false ∨ ch.uartTurn u = 0 → (t.io.uart[u]).de = false) ∧ (io.de = true → 0 < ch.uartTurn u → (t.io.uart[u]).de = true ∧ (t.io.uart[u]).turn = some (ch.uartTurn u))) ∧
      (∀ x rest, io.on ≠ none → io.tx = x :: rest → ch.bit (ub u) 0 = true → ch.bit (ub u) 1 = true →
        Leaves (.characterSent c u) s c fun t => (t.io.uart[u]).on = some x ∧ (t.io.uart[u]).tx = rest) ∧
      (io.rx ≠ [] → Leaves (.rxTimeout c u) s c fun t => t.bit (ub u + 0xC) 19 = true)) ∧
    (∀ rx : W32, ch.io.spiOn ≠ none →
      (ch.io.spiRx.length < 16 → Leaves (.spiFrameDone c rx) s c fun t =>
        t.io.spiRx = ch.io.spiRx ++ [if ch.selects 5 2 then BitVec.ofNat 32 (rx.toNat % 2 ^ (ch.fld 0x510000 4 5 + 1)) else 0#32]) ∧
      (16 ≤ ch.io.spiRx.length → Leaves (.spiFrameDone c rx) s c fun t => t.io.spiRx = ch.io.spiRx ∧ t.bit 0x510008 17 = true)) ∧
    (∀ (rx : Byte) (nack : Bool), ch.bit 0x520000 0 = true → ch.io.i2cCmd ≠ [] →
      ((ch.io.i2cCmd.headD 0).getLsbD 10 = false → (nack = true ∨ ch.selects 6 1 = false) → Leaves (.i2cByteDone c rx nack) s c fun t =>
        t.io.i2cCmd = [] ∧ t.io.i2cBus = false ∧ t.bit 0x52000C 17 = true) ∧
      ((ch.io.i2cCmd.headD 0).getLsbD 10 = true → ch.io.i2cRx.length < 16 → Leaves (.i2cByteDone c rx nack) s c fun t =>
        t.io.i2cCmd = ch.io.i2cCmd.tail ∧ t.io.i2cRx = ch.io.i2cRx ++ [if ch.selects 6 1 then rx else 0xFF#8]) ∧
      ((ch.io.i2cCmd.headD 0).getLsbD 10 = false → nack = false → ch.selects 6 1 = true → Leaves (.i2cByteDone c rx nack) s c fun t =>
        t.io.i2cCmd = ch.io.i2cCmd.tail ∧ t.io.i2cRx = ch.io.i2cRx)) ∧
    (ch.i2cActive = true → ch.selects 6 1 = true → Leaves (.arbitrationLost c) s c fun t => t.io.i2cCmd = [] ∧ t.io.i2cBus = false ∧ t.bit 0x52000C 18 = true) ∧
    (ch.i2cActive = true → ch.selects 6 0 = true → ch.fld 0x520000 16 16 ≠ 0 → Leaves (.stretchTimeout c) s c fun t => t.io.i2cCmd = [] ∧ t.bit 0x52000C 19 = true) ∧
    (ch.bit 0x530000 0 = true → ch.bit 0x530000 1 = true → ch.bit 0x53000C 0 = true → ch.io.ethQ ≠ [] →
      Leaves (.frameSent c) s c fun t => t.io.ethQ = ch.io.ethQ.tail ∧ t.bit 0x53000C 9 = true ∧
        t.io.ethLast = ch.ethFrame (ch.io.ethQ.headD (0, 0)).1 (ch.io.ethQ.headD (0, 0)).2) ∧
    (∀ (f : List Byte) (ok : Bool), let head := ch.fld 0x530018 0 14; let tail := ch.fld 0x53001C 0 14; let need := 4 + (f.length + 3) / 4 * 4
      ch.bit 0x530000 0 = true → ch.bit 0x530000 2 = true → ch.bit 0x53000C 0 = true →
      (ok = false ∨ f.length < 60 ∨ 1518 < f.length → Leaves (.frameReceived c f ok) s c fun t =>
        t.fld 0x530020 0 16 = min 0xFFFF (ch.fld 0x530020 0 16 + 1) ∧ t.fld 0x530018 0 14 = head) ∧
      (ok = true → 60 ≤ f.length → f.length ≤ 1518 → ch.ethAccepts f = false → Leaves (.frameReceived c f ok) s c fun t => t.regs = ch.regs) ∧
      (ok = true → 60 ≤ f.length → f.length ≤ 1518 → ch.ethAccepts f = true → (head + 16384 - tail) % 16384 + need < 16384 →
        Leaves (.frameReceived c f ok) s c fun t => t.fld 0x530018 0 14 = (head + need) % 16384) ∧
      (ok = true → 60 ≤ f.length → f.length ≤ 1518 → ch.ethAccepts f = true → 16384 ≤ (head + 16384 - tail) % 16384 + need →
        Leaves (.frameReceived c f ok) s c fun t => t.fld 0x530020 16 16 = min 0xFFFF (ch.fld 0x530020 16 16 + 1) ∧ t.fld 0x530018 0 14 = head)) ∧
    (∀ (up : Bool) (speed : BitVec 2) (hdx : Bool), let now := up && !hdx && ch.bit 0x530000 0
      Leaves (.linkChange c up speed hdx) s c fun t => t.bit 0x53000C 0 = now ∧ t.bit 0x53000C 3 = (up && hdx) ∧
        t.fld 0x53000C 1 2 = (if ch.bit 0x530000 6 then speed.toNat else ch.fld 0x530000 7 2) ∧ (now ≠ ch.bit 0x53000C 0 → t.bit 0x53000C 11 = true)) ∧
    (∀ data : BitVec 16, ch.bit 0x530024 11 = true → Leaves (.mdioDone c data) s c fun t => t.bit 0x530024 11 = false ∧
      (ch.bit 0x530024 10 = true → t.fld 0x530024 16 16 = if ch.selects 7 1 then data.toNat else 0xFFFF))

/-- The watchdog's warning and key gap, a counter that wraps, and trace: triggers, the stop, the stall and its end, the return of room,
the packet at the cycle limit. -/
def Obligations.WatchdogAndTrace : Prop :=
  ∀ (s : State) (c : Fin 4), let ch := s.ch c
    Claims.Still ch →
    (ch.wdtRuns = true → ch.reg 0x50008 ≠ 0#32 → (ch.reg 0x50008).toNat ≤ (ch.reg 0x5000C).toNat →
      Leaves (.watchdogWarning c) s c fun t => t.reg 0x5000C = ch.reg 0x50008 ∧ t.bit 0x50014 0 = true) ∧
    (ch.svcKey ≠ none → Leaves (.serviceGapExpiry c) s c fun t => t.svcKey = none ∧ t.bit 0x50014 2 = true) ∧
    (∀ (w : Fin 8) (b : Fin 14), ch.bit (pcr w 0x1000) 0 = true → Leaves (.counterOverflow ⟨c, w⟩ b) s c fun t =>
      t.counter w b.val = 0 ∧ t.bit (pcr w 0x1004) b.val = true ∧ (ch.bit (pcr w 0x1000) 1 = true → t.bit (pcr w 0x1000) 0 = false)) ∧
    (∀ ev : TriggerEvent, let x : Nat × Nat × Nat := match ev with
        | .software => (1, 0, 64) | .patchMatch u => (2, u.val, 64) | .slotFired n => (3, n.val, 64) | .overflow w => (4, w.val, 8)
      ch.trcState = 1 → ch.fld 0x20000C 0 3 = x.1 → (x.1 ≠ 1 → ch.fld 0x20000C 4 6 % x.2.2 = x.2.1) →
      Leaves (.trigger c ev) s c fun t => t.trcState = 2 ∧ t.bit 0x200004 2 = true ∧ t.postLeft = some (ch.reg 0x200010).toNat) ∧
    (ch.trcState = 2 → Leaves (.postEnd c) s c fun t => t.trcState = 3 ∧ t.postLeft = none ∧ t.stall = false) ∧
    (ch.bit 0x200000 3 = true → ch.trcPort ≠ 0 → 3584 ≤ ch.trcUsed / 16 → Leaves (.traceStall c) s c fun t => t.stall = true) ∧
    (ch.trcUsed / 16 < 2048 → Leaves (.traceStallEnd c) s c fun t => t.stall = false) ∧
    (ch.trcUsed + 4096 ≤ 65536 → ch.cores.toList.any (fun x => x.trcDrop) = true → Leaves (.roomReturns c) s c fun t =>
      t.trcDrops = 0 ∧ (∀ w : Fin 8, (t.core w).trcDrop = false) ∧ ∀ w : Fin 8, (ch.core w).trcDrop = true → (t.core w).trcSync = true) ∧
    (∀ (w : Fin 8) (l : Nat), (ch.core w).trcOn = true → (ch.core w).trcLast = some l → Leaves (.syncCycleLimit ⟨c, w⟩) s c fun t =>
      (t.core w).trcSync = false ∧ (t.core w).trcSince = 0 ∧ (t.core w).cyc = max (ch.core w).cyc (l + (2 ^ 35 - 1)))

/-! ## Modes, resets, the start -/

/-- A mode request of a running channel: rejected while a transition runs (1), of THAW by a core (2), with a core halted (3), when snuffed but
for FROST by the Lamplighter (5), through THAW while the wire is down (4), with its reason in CHN_MODE_STAT; of the present mode, done at once,
but rejected as any other with a core halted (the model's choice, log 63); else a transition begins. To a channel in FROST the Lamplighter's
request starts it, but DEW is rejected. A core makes its request by its store to CHN_MODE_REQ. -/
def Sys2Proof.Claims.ModeRequests : Prop :=
  (∀ (ch : Chan) (tgt : Nat) (tag : BitVec 8) (lamp : Bool), ch.life = .up → 0 < tgt → tgt ≤ 8 →
    let t := (ch.requestMode tgt tag lamp).1
    let no := fun (code : Nat) => t.fld 0x14 24 4 = code ∧ t.bit 0x14 28 = true ∧ t.trans = ch.trans ∧ t.mode = ch.mode
    (ch.trans ≠ none → no 1) ∧ (ch.trans = none → tgt = 8 → lamp = false → no 2) ∧
    (ch.trans = none → (tgt = 8 → lamp = true) → ch.anyHalted = true → no 3) ∧
    (ch.trans = none → (tgt = 8 → lamp = true) → ch.anyHalted = false → ch.snuff ≠ none → ¬ (lamp = true ∧ tgt = 7) → no 5) ∧
    (ch.trans = none → (tgt = 8 → lamp = true) → ch.anyHalted = false → (ch.snuff = none ∨ (lamp = true ∧ tgt = 7)) →
      (ch.llDown = true → viaThaw ch.mode ch.prevMode tgt = true → no 4) ∧
      (ch.llDown = false → tgt = ch.mode → t.bit 0x14 29 = true ∧ t.trans = none) ∧
      (ch.llDown = false → tgt ≠ ch.mode → t.trans = some { tgt := tgt, tag := if lamp then 0#8 else tag, lamp := lamp, back := false } ∧
        t.bit 0x14 8 = true ∧ t.mode = ch.mode)) ∧
    t.fld 0x10 0 4 = tgt) ∧
  ∀ (s : State) (c : Fin 4) (tag : BitVec 8), let ch := s.ch c
    ∀ row ∈ ([(.modeRequestGale, 1), (.modeRequestBreeze, 2), (.modeRequestDrizzle, 3), (.modeRequestCalm, 4), (.modeRequestHaze, 5),
        (.modeRequestDew, 6), (.modeRequestFrost, 7), (.modeRequestThaw, 8)] : List ((Fin 4 → ModeSrc → BitVec 8 → Instr) × Nat)),
      (s.lamp.life = .up → ch.life = .up →
        Leaves (row.1 c .lamp tag) s c fun t => t = (({ ch with free := ch.free + 1 } : Chan).requestMode row.2 0#8 true).1) ∧
      (s.lamp.life = .up → ch.life = .frost →
        Leaves (row.1 c .lamp tag) s c fun t =>
          if row.2 = 6 then t.fld 0x14 24 4 = 2 ∧ t.life = .frost else if row.2 = 7 then t.bit 0x14 29 = true ∧ t.life = .frost
          else t.life = .starting ∧ t.goal = some row.2) ∧
      ∀ (w : Fin 8) (insn : W32) (c0 : Chan), let m := s.mtl c; let v := row.2 + 256 * tag.toNat
        s.issued ⟨c, w⟩ insn = some c0 →
        (∀ (c1 : Chan) (ps : List Part), c0.granted m w accStore 0xF0000010#64 4 = some (c1, ps) →
          Retires (row.1 c (.core w insn) tag) s ⟨c, w⟩
            ((c1.enter m w (storeEnts ps (BitVec.ofNat 128 v) false (c1.core w).pcc.mantle)).regLeave m w)
            ((c0.core w).pc + 4#64) (c1.storeCost w ps)) ∧
        (c0.CtrlReach m w 0xF0000010#64 [1] → ((c0.core w).pcc.has 5 = true ∨ (c0.rc w 0).has 5 = true) → (c0.core w).sb = [] →
          let pt : Part := ⟨0xF0000010, 4, .device⟩; let put := c0.enter m w (storeEnts [pt] (BitVec.ofNat 128 v) false (c0.core w).pcc.mantle)
          Retires (row.1 c (.core w insn) tag) s ⟨c, w⟩ put ((c0.core w).pc + 4#64) 2 ∧
            (∃ x : SbEnt, (put.core w).sb = [x] ∧ x.part = pt ∧ x.leave = (c0.core w).cyc + 12) ∧
            put.drainAll m w = (((c0.onCore w fun c => { c with l1i := setDel c.l1i (0xF0000010 / 64) }).putF 0x10 8 8 tag.toNat).requestMode row.2 tag false).1)

/-- The end of a transition shows the mode reached, clears BUSY and sets DONE, with its time; that to FROST takes the channel's power. A wake
event brings a channel in DEW back to the run mode it left, its registers as they were; one during the entry to DEW is held until the entry
ends. A retraining stop ends in the mode it began in. Where the transition steps the voltage and the regulator fails, the channel is
reset into FROST with cause 4. -/
def Sys2Proof.Claims.ModeTransitions : Prop :=
  ∀ (s : State) (c : Fin 4), let ch := s.ch c
    ch.life = .up →
    (∀ (us : Nat) (tr : Trans), ch.trans = some tr →
      let ended := fun (t : Chan) => t.trans = none ∧ t.bit 0x14 8 = false ∧ t.bit 0x14 29 = true ∧ t.reg 0x1C = BitVec.ofNat 32 (min us 0xFFFFF)
      (tr.back = false → runMode tr.tgt = true ∨ tr.tgt = 8 → Leaves (.modeTransitionDone c us true) s c fun t => ended t ∧ t.mode = tr.tgt) ∧
      (tr.back = false → tr.tgt = 6 → Leaves (.modeTransitionDone c us true) s c fun t => t.bit 0x14 29 = true ∧ t.mode = 6 ∧ t.wakeHeld = false) ∧
      (tr.back = false → Claims.AtRest ch → ch.wakeHeld = false → runMode tr.tgt = true ∨ tr.tgt = 6 ∨ tr.tgt = 8 →
        Leaves (.modeTransitionDone c us true) s c fun t => t.life = .up ∧ t.mode = tr.tgt ∧ ended t) ∧
      (tr.back = false → tr.tgt = 7 → Leaves (.modeTransitionDone c us true) s c fun t => t.life = .frost ∧ t.calm = [] ∧ t.trans = none) ∧
      (tr.back = true → ch.mode ≠ 6 → Claims.AtRest ch → ch.wakeHeld = false → ch.expander = none →
        Leaves (.modeTransitionDone c us true) s c fun t => t.life = .up ∧ t.mode = ch.mode ∧ ended t) ∧
      (ch.railSteps tr = true → Leaves (.modeTransitionDone c us false) s c fun t =>
        t.life = .frost ∧ t.calm = [] ∧ t.trans = none ∧ t.objN (t.idx 0x3000) 3 0 = 4) ∧
      (ch.railSteps tr = false → exec (.modeTransitionDone c us false) s = exec (.modeTransitionDone c us true) s)) ∧
    ∀ ev : WakeEvent, ch.wakes ev = true →
      (ch.mode = 6 → ch.trans = none → ch.wakeHeld = false → Leaves (.dewWake c ev) s c fun t =>
        t.mode = ch.prevMode ∧ runMode t.mode = true ∧ t.trans = none ∧ t.calm = ch.calm ∧ ∀ w : Fin 8, t.core w = { ch.core w with woken := true }) ∧
      ∀ tr : Trans, ch.trans = some tr → tr.tgt = 6 → tr.back = false →
        Leaves (.dewWake c ev) s c fun t => t = { ch with free := ch.free + 1, wakeHeld := true }

/-- Mode requests and transitions. -/
def Obligations.Modes : Prop := Claims.ModeRequests ∧ Claims.ModeTransitions

/-- A reset of a channel, from the wire for 50 µs or more, by its watchdog or by the response to a snuff, loses its Calm store and records
its cause; the channel then starts, or rests in FROST where its start mode or the watchdog's HOLD says so. A shorter low does nothing. -/
def Sys2Proof.Claims.ChannelResets : Prop :=
  ∀ (s : State) (c : Fin 4), let ch := s.ch c
    let gone := fun (cause : Nat) (t : Chan) => t.calm = [] ∧ t.cores = Vector.replicate 8 Core.reset ∧ t.objN (t.idx 0x3000) 3 0 = cause ∧ t.wire.awake = false
    let starts := fun (t : Chan) => (if t.startMode = 7 then t.life = .frost else t.life = .starting ∧ t.goal = some t.startMode ∧ t.loaded = false) ∧
      (Claims.AtRest ch → t.startMode = ch.startMode)
    (∀ ns, 50000 ≤ ns → (ch.objN (ch.idx 0x3090) 1 0 = 0 ∨ ch.objN (ch.idx 0x3090) 1 0 = 2) → s.lamp.life = .up →
      Leaves (.channelReset c ns) s c fun t => gone 1 t ∧ starts t) ∧
    (∀ ns, ns < 45000 → exec (.channelReset c ns) s = .next (s.onChan c fun ch => { ch with free := ch.free + 1 })) ∧
    (ch.wdtRuns = true → Leaves (.watchdogExpiry c) s c fun t => gone 2 t ∧ if ch.fld 0x50000 2 2 = 1 then t.life = .frost else starts t) ∧
    ∀ w, ch.snuff = some ⟨w, false⟩ →
      (ch.objN (ch.idx 0x3040) 1 1 = 0 → Leaves (.snuffResponse c) s c fun t => t = { ch with free := ch.free + 1, snuff := some ⟨w, true⟩ }) ∧
      (ch.objN (ch.idx 0x3040) 1 1 ≠ 0 → Leaves (.snuffResponse c) s c fun t => gone 3 t ∧ starts t)

/-- A channel whose start was commanded is brought up. With its regulator at the first target, a vendor patch that may run, an image that may
load and a memory test that finds nothing, the start goes on: the channel in THAW, its Mantle table the root alone, its boot image at hand for
the bulk transfers, its Calm store zero. Otherwise it rests in FROST; a regulator that fails is cause 4. CORE_RELEASE moves what is
left of the boot image and sets every core to its start, with the mode shown. No other channel changes. -/
def Sys2Proof.Claims.ChannelStart : Prop :=
  ∀ (s : State) (c : Fin 4), let ch := s.ch c
    ch.life = .starting →
    (∀ (x : ExpanderFacts) (memFail : Option (BitVec 48)), s.lamp.life = .up → ch.loaded = false →
      let p := s.lamp.item .patch; let r := patchResult p.minimum (p.slot p.active)
      let test := ch.objN (ch.idx 0x3010) 0xA 0 = 1
      let leaves := fun (rail : Bool) (P : State → Prop) => ∃ t, exec (.coldChannelStart c x memFail rail) s = .next t ∧
        t.mtl c = MantleTable.reset ∧ (∀ d, d ≠ c → t.ch d = s.ch d ∧ t.mtl d = s.mtl d) ∧ P t
      leaves false (fun t => (t.ch c).life = .frost ∧ (t.ch c).objN ((t.ch c).idx 0x3000) 3 0 = 4) ∧
      (r ≠ 0 → (r ≠ 1 ∨ p.minimum ≠ 0) → leaves true fun t => (t.ch c).life = .frost) ∧
      ((r = 0 ∨ (r = 1 ∧ p.minimum = 0)) →
        (∀ code, s.lamp.imageFor ch.num = (none, code) → leaves true fun t => (t.ch c).life = .frost) ∧
        ∀ b code, s.lamp.imageFor ch.num = (some b, code) →
          (memFail.isSome = true → test → leaves true fun t => (t.ch c).life = .frost) ∧
          ((memFail = none ∨ ¬ test) → leaves true fun t => (t.ch c).life = .starting ∧ (t.ch c).loaded = true ∧ (t.ch c).mode = 8 ∧ (t.ch c).calm = [] ∧
            (t.ch c).bulk = bootOf b ∧ (t.ch c).bulkAt = 0))) ∧
    (ch.loaded = true → ∃ t, exec (.coreRelease c) s = .next t ∧ (∀ d, d ≠ c → t.ch d = s.ch d) ∧ t.mantles = s.mantles ∧
      (t.ch c).life = .up ∧ (t.ch c).mode = ch.goal.getD ch.startMode % 16 ∧ (t.ch c).calm = writeBytes ch.calm ch.bulkAt ch.bulk ∧
      ∀ w : Fin 8, (t.ch c).core w = Core.released) ∧
    Core.released.pc = Core.reset.pc ∧ Core.released.pcc = mkTaper 0 0xFFFFFFFFFFFF 0#12 0x1FF#12 0 true ∧
    Core.released.c[0] = Core.released.pcc ∧ ∀ r : Fin 16, r ≠ 0 → (Core.released.c[r]).tag = false

/-- Channel resets and cold channel starts. -/
def Obligations.ResetsAndStarts : Prop := Claims.ChannelResets ∧ Claims.ChannelStart

/-- A slot of the host port brings a channel its message when its mailbox is on and has room, records BUSY or FULL for the sender
otherwise, shows the channel the results of its own messages, and takes these with their source Mantle and channel in the header. In the
stay in THAW of a start the slot moves up to 4 KB of the boot image and no message. -/
def Obligations.HostPortSlots : Prop :=
  ∀ (s : State) (c : Fin 4), let ch := s.ch c
    s.lamp.serving = true →
    (ch.life = .starting → ∃ t, exec (.hostPortSlot c) s = .next t ∧ (t.ch c).calm = writeBytes ch.calm ch.bulkAt (ch.bulk.take 4096) ∧
      (t.ch c).bulk = ch.bulk.drop 4096 ∧ (t.ch c).bulkAt = ch.bulkAt + min 4096 ch.bulk.length ∧ (t.ch c).mbxIn = ch.mbxIn ∧ (t.ch c).mbxOut = ch.mbxOut) ∧
    (ch.life = .up → ch.mode ≠ 8 →
      (∀ seq res : Nat, s.lamp.results = [(c.val, seq, res)] → s.lamp.carried = [] → ch.mbxOut = [] → seq < 256 → res < 4 →
        ∃ t, exec (.hostPortSlot c) s = .next t ∧ t.lamp.results = [] ∧ (t.ch c).fld 0x400008 0 8 = seq ∧ (t.ch c).fld 0x400008 8 2 = res) ∧
      (s.lamp.results = [] →
        (∀ x : Carried, s.lamp.carried = [x] → x.dst = c.val → ch.mbxOut = [] →
          (ch.bit 0x400000 0 = true → ch.mbxIn.length < 16 →
            ∃ t, exec (.hostPortSlot c) s = .next t ∧ (t.ch c).mbxIn = ch.mbxIn ++ [x.words] ∧ t.lamp.carried = []) ∧
          (ch.bit 0x400000 0 = false ∨ 16 ≤ ch.mbxIn.length →
            ∃ t, exec (.hostPortSlot c) s = .next t ∧ (t.ch c).mbxIn = ch.mbxIn ∧ t.lamp.carried = [] ∧
              (x.src < 4 → x.src ≠ c.val → t.lamp.results = [(x.src, getF (nth 0#32 x.words 0) 8 8, if ch.bit 0x400000 0 then 2 else 1)]))) ∧
        (∀ (m : MbxMsg) (h : W32) (rest : List W32), s.lamp.carried = [] → ch.mbxOut = [m] → m.words = h :: rest →
          ∃ t h', exec (.hostPortSlot c) s = .next t ∧ (t.ch c).mbxOut = [] ∧
            getF h' 0 16 = getF h 0 16 ∧ getF h' 16 12 = m.mantle.toNat ∧ getF h' 28 4 = c.val ∧
            (getF h 0 4 ≠ 15 → t.lamp.carried = [⟨c.val, getF h 0 4, h' :: rest⟩]) ∧
            (getF h 0 4 = 15 → t.lamp.results = [(c.val, getF h 8 8, 0)] ∧ t.lamp.carried = if isRequest (h' :: rest) then [⟨c.val, 15, h' :: rest⟩] else []))))
/-! ## The memory system's messages -/

/-- The messages between the L2s and the homes: a read of a line that no L2 holds is granted from the L3 exclusively, an ownership modified; an
upgrade is acknowledged; an eviction's data enter the L3, and its L2 leaves the directory; home accesses return or change the line; a snoop takes
the line or its ownership and is answered; the answers end the transaction, or await the crossing eviction; a grant fills the L2; a timeout is
counted and leaves the line poisoned; the last report of a rebuild has the set's entries rewritten from what the L2s hold. A hold of another
core delays what writes the line or asks for its ownership: its transaction is open, its snoops are not sent. -/
def Sys2Proof.Claims.HomeTraffic : Prop :=
  ∀ (s : State) (c : Fin 4) (w : Fin 8) (line : BitVec 42), let ch := s.ch c; let l := line.toNat; let own := ch.ownerOf (s.mtl c) w
    let me : BitVec 8 := BitVec.ofNat 8 (2 ^ w.val)
    let idle := ch.homeQ = [] ∧ ch.txs = [] ∧ ch.net = [] ∧ ch.rebuild = none ∧ ch.results = [] ∧ ∀ v : Fin 8, (ch.core v).miss = [] ∧ (ch.core v).evb = []
    ch.life = .up →
    (∀ x : L3Line, idle → ch.dir = [] → ch.cachesLine w l = true → ch.l3Find l = some x → 0 < ch.ways own →
      ((ch.core w).l2Find l = none →
        Leaves (.rds c w line) s c (fun t => t.net = [.dat w l .e x.data x.tags x.poison own]) ∧
        (ch.heldBy w l = none → Leaves (.rdo c w line) s c (fun t => t.net = [.dat w l .m x.data x.tags x.poison own])) ∧
        (ch.heldBy w l ≠ none → Leaves (.rdo c w line) s c (fun t => t.net = [] ∧ t.dir = [⟨l, false, 0#8, own, true, false⟩] ∧
          ∃ x : Tx, t.txs = [x] ∧ x.req.kind = .rdo ∧ x.req.w = w ∧ x.req.line = l ∧ x.held = true))) ∧
      (x.poison = false → ch.heldBy w l = none →
        (∀ (op : AmoOp) (d : Bool) (pa : BitVec 48) (src cmp : W64), let n := if d then 8 else 4; let old := leNat (lineBytes x.data (pa.toNat % 64) n)
          pa.toNat / 64 = l → pa.toNat % n = 0 →
          Leaves (.amo c w op d pa src cmp) s c fun t => (∃ r, t.results = [r] ∧ r.w = w ∧ r.value.toNat = old ∧ r.poison = false) ∧
            ∀ v, amoNew op d (BitVec.ofNat 64 old) src cmp = some v → let y := patchLine x.data x.tags (pa.toNat % 64) (leBytes v.toNat n) false
              t.l3Find l = some { x with data := y.1, tags := y.2, dirty := true }) ∧
        ∀ (pa : BitVec 48) (n : AccSize) (data : W128), pa.toNat / 64 = l → pa.toNat % accBytes n = 0 →
          Leaves (.ucr c w pa n) s c (fun t => ∃ r, t.results = [r] ∧ r.w = w ∧ r.value.toNat = leNat (lineBytes x.data (pa.toNat % 64) (accBytes n))) ∧
          Leaves (.ucw c w pa n data) s c (fun t => let y := patchLine x.data x.tags (pa.toNat % 64) (leBytes data.toNat (accBytes n)) false
            t.l3Find l = some { x with data := y.1, tags := y.2, dirty := true }))) ∧
    (∀ y : L2Line, (ch.core w).l2Find l = some y → idle →
      (y.st = .s → ch.dir = [⟨l, false, me, own, false, false⟩] → ch.cachesLine w l = true → ch.heldBy w l = none → Leaves (.upg c w line) s c fun t => t.net = [.ack w l .upg]) ∧
      (y.st ≠ .s → ch.dir = [⟨l, true, me, y.owner, false, false⟩] → ch.l3 = [] → 0 < ch.ways y.owner → Leaves (.evd c w line) s c fun t =>
        t.net = [.ack w l .evd] ∧ (t.core w).l2Find l = none ∧ t.dir = [] ∧ ∃ z, t.l3Find l = some z ∧ z.data = y.data ∧ z.tags = y.tags ∧ z.poison = y.poison) ∧
      (y.st = .s → ch.dir = [⟨l, false, me, y.owner, false, false⟩] → Leaves (.evn c w line) s c fun t =>
        t.net = [.ack w l .evn] ∧ (t.core w).l2Find l = none ∧ t.dir = [])) ∧
    let still := ∀ x ∈ ch.txs, Claims.Awaits x
    (∀ y : L2Line, (ch.core w).l2Find l = some y → y.st = .m → still →
      (ch.net = [.sns w l] → Leaves (.sns c w line) s c fun t =>
        t.net = [.rspD w l y.data y.tags true y.poison] ∧ (t.core w).l2Find l = some { y with st := .s }) ∧
      (ch.net = [.sni w l] → Leaves (.sni c w line) s c fun t => t.net = [.rspD w l y.data y.tags true y.poison] ∧ (t.core w).l2Find l = none)) ∧
    (∀ (y : L2Line) (slice : Fin 8) (set : Fin 1024) (wait : BitVec 8), still → ch.rebuild = some ⟨slice.val, set.val, wait⟩ → ch.net = [.snq w slice.val set.val] →
      (wait &&& ~~~me ≠ 0#8 → Leaves (.snq c w slice set) s c fun t => t.net = [] ∧ t.rebuild = some ⟨slice.val, set.val, wait &&& ~~~me⟩ ∧ t.dir = ch.dir) ∧
      (wait = me → ch.txs = [] → (ch.core w).l2 = [y] → (∀ v : Fin 8, (ch.core v).evb = [] ∧ (v ≠ w → (ch.core v).l2 = [])) → setOf y.line = set.val →
        ch.slice y.line = slice.val → Leaves (.snq c w slice set) s c fun t => t.net = [] ∧ t.rebuild = none ∧
          t.dirFind y.line = some ⟨y.line, y.st != .s, me, y.owner, false, ((ch.dirFind y.line).map fun e => e.crossing).getD false⟩ ∧
          (t.core w).l2 = [y])) ∧
    (∀ (v : Fin 8) (tmo : Nat) (data : BitVec 512) (tags : BitVec 4) (poison : Bool), v ≠ w → 0 < ch.ways own →
      ch.txs = [⟨⟨.rds, v, l, own, false, .none⟩, me, 0#8, none, false, tmo, false, false⟩] → ch.dir = [⟨l, true, me, own, true, false⟩] →
      (ch.net = [.rspD w l data tags true poison] → ch.l3 = [] → Leaves (.rspD c w line) s c fun t =>
        t.net = [.dat v l .s data tags poison own] ∧ t.txFind l = none) ∧
      (∀ x : L3Line, ch.net = [.rspN w l] → ch.l3Find l = some x → Leaves (.rspN c w line) s c fun t =>
        t.net = [.dat v l .e x.data x.tags x.poison own] ∧ t.txFind l = none) ∧
      (ch.net = [.rspX w l] → Leaves (.rspX c w line) s c fun t => t.net = [] ∧ ∃ x, t.txFind l = some x ∧ x.snoops = 0#8 ∧ x.evds = me)) ∧
    (∀ (st : L2St) (data : BitVec 512) (tags : BitVec 4) (poison : Bool), still → ch.net = [.dat w l st data tags poison own] → ((ch.core w).l2Rivals l).length < 8 →
      Leaves (.dat c w line) s c fun t => t.net = [] ∧ 
        (t.core w).l2Find l = some ⟨l, st, data, tags, poison, (((ch.core w).l2Find l).map fun y => y.owner).getD own⟩) ∧
    (still → ch.net = [.ack w l .evd] ∨ ch.net = [.ack w l .evn] → Leaves (.ack c w line) s c fun t => t.net = [] ∧ ∀ x ∈ (t.core w).evb, x.line ≠ l) ∧
    (∀ y : L2Line, still → ch.net = [.ack w l .upg] → (ch.core w).l2Find l = some y → Leaves (.ack c w line) s c fun t =>
      t.net = [] ∧ (t.core w).l2Find l = some { y with st := .m } ∧ ∀ q ∈ (t.core w).miss, q.line ≠ l) ∧
    (∀ x : Tx, ch.txFind l = some x → (∀ y ∈ ch.txs, y.req.line ≠ l → Claims.Awaits y) → ch.dirFind l ≠ none → ch.l3 = [] → 0 < ch.ways x.req.owner → Leaves (.homeTimeout c line) s c fun t =>
      t.txFind l = none ∧ t.l3Find l = some ⟨l, 0#512, 0#4, true, true, x.req.owner⟩ ∧
        t.fld 0x70014 16 16 = min 0xFFFF (ch.fld 0x70014 16 16 + 1) ∧ t.bit 0x70004 3 = true) ∧
    (still → ch.fld 0x70080 0 16 ≠ 0 → Leaves (.imbalanceWindow c) s c fun t => t.admitted = Vector.replicate 8 0 ∧
      ∀ i : Fin 8, t.reg (0x700C0 + 4 * i.val) = BitVec.ofNat 32 ch.admitted[i])

/-- Errors of the arrays: a single bit is counted and changes no data; a double bit drops a clean line and poisons a dirty one and a line of
the Calm store; lost data on the network arrives poisoned, a message with a lost header is dropped; a parity error of the directory pins its set, whose requests wait until every
L2 in scope has reported. -/
def Sys2Proof.Claims.ArrayErrors : Prop :=
  ∀ (ch : Chan) (w : Fin 8),
    let bad := fun (t : Chan) => t.fld 0x70010 16 16 = min 0xFFFF (ch.fld 0x70010 16 16 + 1) ∧ t.bit 0x70004 1 = true
    let noted := fun (t : Chan) (kind line slice core : Nat) => ch.bit 0x70004 1 = false → ch.bit 0x70004 3 = false →
      t.reg 0x70020 = BitVec.ofNat 32 (line * 64) ∧ t.fld 0x70024 16 4 = kind ∧ t.fld 0x70024 20 3 = slice ∧ t.fld 0x70024 24 3 = core
    (ch.noteCorr.fld 0x70010 0 16 = min 0xFFFF (ch.fld 0x70010 0 16 + 1) ∧ ch.noteCorr.bit 0x70004 0 = true ∧ ch.noteCorr = { ch with regs := ch.noteCorr.regs }) ∧
    (∀ x : L2Line, (ch.core w).l2 = [x] → bad (ch.l2Double w) ∧
      (x.st ≠ .m → ((ch.l2Double w).core w).l2 = []) ∧
      (x.st = .m → ((ch.l2Double w).core w).l2 = [{ x with poison := true }] ∧ noted (ch.l2Double w) 1 x.line (ch.slice x.line) w.val)) ∧
    (∀ x : L3Line, ch.l3 = [x] → bad ch.l3Double ∧ (x.dirty = false → ch.l3Double.l3 = []) ∧
      (x.dirty = true → ch.l3Double.l3 = [{ x with poison := true }] ∧ noted ch.l3Double 2 x.line (ch.slice x.line) 0)) ∧
    (bad ch.calmDouble ∧ ch.calmDouble.calm = ch.calm ∧
      ∃ line < 32768, ch.calmDouble.calmPois = setAdd ch.calmPois line ∧ noted ch.calmDouble 3 line 0 0) ∧
    (∀ (v : Fin 8) (line : Nat) (st : L2St) (d : BitVec 512) (t : BitVec 4) (p : Bool) (o : Nat), ch.net = [.dat v line st d t p o] → ch.homeQ = [] → ch.cxlReqs = [] →
      bad ch.netData ∧ ch.netData.net = [.dat v line st d t true o] ∧ noted ch.netData 5 line (ch.slice line) 0) ∧
    (∀ (v : Fin 8) (line : Nat), (ch.net = [.sns v line] ∨ ch.net = [.sni v line]) → ch.homeQ = [] → ch.cxlReqs = [] → (ch.txFind line).isSome = true →
      ch.netHeader = { ch with net := [] }) ∧
    ∀ (slice : Fin 8) (set : Fin 1024), ch.rebuild = none → ch.fixedCore w = false → let t := ch.dirParity slice.val set.val
      t.fld 0x70014 0 16 = min 0xFFFF (ch.fld 0x70014 0 16 + 1) ∧ t.bit 0x70004 2 = true ∧ NetMsg.snq w slice.val set.val ∈ t.net ∧
      (∃ wait : BitVec 8, t.rebuild = some ⟨slice.val, set.val, wait⟩ ∧ ∀ v : Fin 8, wait.getLsbD v.val = !ch.fixedCore v) ∧
      (∀ r : Req, setOf r.line = set.val → ch.slice r.line = slice.val → t.canOpen r = false) ∧ t.cores = ch.cores

/-- The messages between the L2s and the homes, and the errors of the arrays. -/
def Obligations.HomeMessages : Prop := Claims.HomeTraffic ∧ Claims.ArrayErrors

/-- The memory controller and the CXL link: requests take a token of their pool, a written-back line stays clean, a response ends its
transaction, an early one is held in a partitioned mode, one that nothing awaits is counted as late, a completed posted store leaves its queue, a
16-byte one after its two halves, a refused one is counted, an early one held, one that nothing awaits late; four link failures in a row or a
link-down take the link down and fault the far accesses; event records are counted, 64 in a second of PTB_TIME (log 27). -/
def Obligations.CxlEvents : Prop :=
  ∀ (s : State) (c : Fin 4) (line : BitVec 42), let ch := s.ch c; let l := line.toNat
    ch.life = .up → ch.linkUp = true → (∀ x ∈ ch.txs, Claims.Awaits x) →
    (∀ x : Tx, ch.txFind l = some x → x.mem = true → x.lost = false → ch.cxlReqs.any (fun q => q.line == l && q.kind == .read) = false → ch.tokenFree (ch.pool x.req.owner) = true →
      Leaves (.mrd c line) s c fun t => t.cxlReqs = ch.cxlReqs ++ [⟨l, ch.pool x.req.owner, .read, none, false⟩]) ∧
    (∀ x : L3Line, ch.l3Find l = some x → x.dirty = true → ch.tokenFree (ch.pool x.owner) = true →
      Leaves (.mwr c line) s c fun t => t.l3Find l = some { x with dirty := false } ∧ t.cxlReqs.length = ch.cxlReqs.length + 1) ∧
    (∀ q : CxlReq, ch.cxlReqs = [q] → q.line = l → q.kind = .read → q.resp = none →
      (∀ a : Arrival, ch.parted = true → a.late = false → Leaves (.cxlReadResponse c line true a) s c fun t =>
        t.cxlReqs = [{ q with resp := some true }] ∧ t.cxlPoisoned l = (ch.cxlPoisoned l || a.poison)) ∧
      (∀ (w : Fin 8) (own tmo : Nat) (held : Bool) (a : Arrival), ch.txs = [⟨⟨.rds, w, l, own, false, .none⟩, 0#8, 0#8, none, true, tmo, false, false⟩] →
        ch.dir = [⟨l, false, 0#8, own, true, false⟩] → ch.net = [] → ch.parted = false ∨ held = false ∨ a.late = true →
        Leaves (.cxlReadResponse c line held a) s c fun t => t.cxlReqs = [] ∧ t.txs = [] ∧
          t.net = [.dat w l .e (ch.cxlData l) (ch.cxlTags l) (ch.cxlPoisoned l || a.poison || q.hurt) own] ∧
          (ch.parted = true → a.late = true → t.fld 0x6002C 0 16 = min 0xFFFF (ch.fld 0x6002C 0 16 + 1)))) ∧
    (∀ (held : Bool) (a : Arrival), ch.cxlReqs = [] → ch.farAt l false = none → Leaves (.cxlReadResponse c line held a) s c fun t =>
      t.fld 0x60028 16 16 = min 0xFFFF (ch.fld 0x60028 16 16 + 1)) ∧
    (∀ q : CxlReq, ch.cxlReqs = [q] → q.line = l → q.resp ≠ none → (∀ w : Fin 8, q.kind = .posted w → (ch.core w).posted ≠ []) → ch.txs = [] →
      Leaves (.heldResponseDelivery c line) s c fun t => t.cxlReqs = []) ∧
    (∀ (w : Fin 8) (e : SbEnt) (rest : List SbEnt), (ch.core w).posted = e :: rest → e.part.pa / 64 = l → (∀ v, v ≠ w → (ch.core v).posted = []) →
      (∀ q ∈ ch.cxlReqs, q.kind = .posted w → q.resp = none) →
      (e.part.n ≠ 16 → Leaves (.cxlWriteCompletion c line ⟨true, false, false⟩) s c (fun t => (t.core w).posted = rest)) ∧
      (e.part.n = 16 → e.part.attr = .unc10 → e.part.pa % 16 = 0 → Leaves (.cxlWriteCompletion c line ⟨true, false, false⟩) s c (fun t =>
        (t.core w).posted = { e with part := ⟨e.part.pa + 8, 8, .unc10⟩, data := e.data >>> 64 } :: rest)) ∧
      (∀ (q : CxlReq) (ok : Bool), ch.parted = true → ch.cxlReqs = [q] → q.kind = .posted w →
        Leaves (.cxlWriteCompletion c line ⟨ok, true, false⟩) s c (fun t => (t.core w).posted = e :: rest ∧ t.cxlReqs = [{ q with resp := some ok }])) ∧
      Leaves (.cxlWriteCompletion c line ⟨false, false, false⟩) s c (fun t => (t.core w).posted = rest ∧
        t.fld 0x60024 16 16 = min 0xFFFF (ch.fld 0x60024 16 16 + 1) ∧ t.cxl = ch.cxl)) ∧
    (∀ a : Completion, (∀ w : Fin 8, (ch.core w).posted = [] ∧ ch.confirms w l = false) → ch.cxlReqs = [] → ch.farAt l true = none →
      Leaves (.cxlWriteCompletion c line a) s c fun t => t.fld 0x60028 16 16 = min 0xFFFF (ch.fld 0x60028 16 16 + 1)) ∧
    (ch.txs = [] →
      let down := fun (t : Chan) => t.linkUp = false ∧ t.cxlReqs = [] ∧ (∀ w : Fin 8, (t.core w).posted = []) ∧ ∀ (w : Fin 8) (i : Fin 32), let e := (ch.core w).loq[i]
        e.st = .pending → (∀ f, e.far = some f → f.parts.any (fun p => decide (hdmBase ≤ p.pa)) = true ∧ f.over = false) → e.far ≠ none →
        ((t.core w).loq[i]).st = .faulted ∧ ((t.core w).loq[i]).cause = 4
      Leaves (.linkDown c) s c down ∧ (3 ≤ ch.flitFails → Leaves (.flitCrcFailure c) s c down)) ∧
    (ch.flitFails < 3 → Leaves (.flitCrcFailure c) s c fun t => t.flitFails = ch.flitFails + 1 ∧ t.linkUp = true ∧
      t.fld 0x60020 0 16 = min 0xFFFF (ch.fld 0x60020 0 16 + 1)) ∧
    ∀ recs : List EventRecord, let n := if ch.evtSec = ch.ptb.toNat / 600000000 then ch.evtN else 0
      recs ≠ [] → n < 64 → Leaves (.getEventRecords c recs) s c fun t => t.bit 0x60010 6 = true ∧
        (n + recs.length ≤ 64 → t.fld 0x60040 0 16 = min 0xFFFF (ch.fld 0x60040 0 16 + recs.length)) ∧ (64 < n + recs.length → t.bit 0x60040 22 = true)

/-! ## The ring -/

/-- A node that is not bypassed, at a port with block lock: a frame goes on out of the other port, or back with WRAP when that has lost block
lock, and the port is busy with it for its time on the wire; one cut short is dropped; marked frames, failed checks, frames of other types and
switching delays are counted; a mailbox frame whose HOPS reaches 8,192 and a calibration frame are not forwarded; a calibration request is
returned with the node's stamps, the mean of 16 exchanges is the cable delay, and the next exchange follows until there are 16; a frame of the
node's own leaves by an idle port and ends 2 µs before the next head, else it waits; loss of block lock is counted once and cuts what is being
sent. A node that is bypassed passes all by. -/
def Obligations.RingForwarding : Prop :=
  ∀ (s : State) (p : RingPort), let r := s.ring; let q := otherPort p; let o := Claims.portOf p
    let on := r.bypHold = true ∧ r.lock[portIdx p] = true
    let seen := fun (l : Lamp) (ok marked : Bool) => (marked = true → Claims.counted s.lamp l o 2) ∧ (marked = false → ok = false → Claims.counted s.lamp l o 1)
    let dropped := fun (l : Lamp) (t : Ring) => t = r ∧ Claims.counted s.lamp l o 1
    (∀ n, 12 * (n + 8) ≤ 5 * wireTime n ∧ 5 * wireTime n < 12 * (n + 8) + 5) ∧
    (∀ x : RingOut, s.mayStart x = true ↔ ∀ y ∈ x.ports, r.busy[portIdx y.1] ≤ s.lamp.time ∧
      ∀ t, r.headAt = some t → s.lamp.time + wireTime y.2 + 6000 ≤ t + 3000 * r.conf.period) ∧
    (∀ (x : RingOut) (n : Nat), x.ports = [(p, n)] → (r.occupy s.lamp.time x).busy[portIdx p] = max s.lamp.time r.busy[portIdx p] + wireTime n ∧
      (r.occupy s.lamp.time x).busy[portIdx q] = r.busy[portIdx q]) ∧
    (on →
      (∀ f : FrameIn, f.cut = false → Claims.RingLeaves (.forward p f) s fun l t => seen l f.fcsOk f.marked ∧
        (f.waited = true → (f.typ = 1 ∨ f.typ = 2) → Claims.counted s.lamp l o 4) ∧
        (f.marked = false → f.fcsOk = true → f.waited = false → l = s.lamp) ∧
        if f.typ = 4 ∨ (f.typ = 3 ∧ 8192 ≤ f.hops.toNat + 1) then t = r else
          Claims.sends s (.forwarded (if r.lock[portIdx q] then q else p) (f.marked || !f.fcsOk) (!r.lock[portIdx q]) (if f.typ = 3 then f.hops + 1#16 else f.hops) f.len) t) ∧
      (∀ f : FrameIn, f.cut = true → Claims.RingLeaves (.forward p f) s dropped) ∧ (∀ h : HeadFrame, h.cut = true → Claims.RingLeaves (.headFrame p h) s dropped) ∧
      (∀ f : DataFrame, f.cut = true → Claims.RingLeaves (.dataFrame p f) s dropped) ∧
      (∀ f : OtherFrame, f.port = p → Claims.RingLeaves (.other f) s fun l t => t = r ∧ Claims.counted s.lamp l o 5 ∧ seen l f.fcsOk f.marked) ∧
      (∀ (t1 t2 t3 : W64) (ok marked : Bool), let fine := ok = true ∧ marked = false
        Claims.RingLeaves (.calibrationRequest p t1 ok marked) s (fun l t => seen l ok marked ∧
          (fine → l = s.lamp ∧ Claims.owns s (.calReturn p t1 s.lamp.stamp s.lamp.stamp) t) ∧ (¬ fine → t = r)) ∧
        Claims.RingLeaves (.calibrationReturn p t1 t2 t3 ⟨ok, marked⟩) s fun l t => seen l ok marked ∧ (¬ fine → t = r) ∧ (fine → l = s.lamp ∧
          t.cable[portIdx q] = r.cable[portIdx q] ∧
          (∃ old, old <:+ r.cable[portIdx p] ∧ t.cable[portIdx p] = old ++ [((s.lamp.stamp - t1) - (t3 - t2)).toInt / 2] ∧
            old.length = min 15 r.cable[portIdx p].length) ∧
          if r.cable[portIdx p].length < 15 then Claims.owns s (.calRequest p 0#64) { t with cable := r.cable } else t.outs = r.outs ∧ t.waiting = r.waiting)) ∧
      Claims.RingLeaves (.calibrationTimer p) s fun l t => l = s.lamp ∧ Claims.owns s (.calRequest p 0#64) t) ∧
    (r.lock[portIdx p] = true → Claims.RingLeaves (.blockLockLoss p) s fun l t => Claims.counted s.lamp l o 3 ∧
      t.lock[portIdx p] = false ∧ t.lock[portIdx q] = r.lock[portIdx q] ∧ t.outs = r.outs ++ (if s.lamp.time < r.busy[portIdx p] then [.cut p] else []) ∧
      t.sweeping = (r.sweeping && r.lock[portIdx q])) ∧
    (r.lock[portIdx p] = false → Claims.RingLeaves (.blockLockGain p) s fun l t => l = s.lamp ∧ t.lock[portIdx p] = true ∧
      t.lock[portIdx q] = r.lock[portIdx q] ∧ t.cable[portIdx p] = [] ∧ t.outs = r.outs ∧
      t.waiting = r.waiting ++ if r.bypHold then [.calRequest p 0#64] else []) ∧
    (r.bypHold = false → (∀ f : FrameIn, exec (.forward p f) s = .next s) ∧ (∀ f, exec (.other f) s = .next s) ∧ (∀ h, exec (.headFrame p h) s = .next s) ∧
      (∀ f, exec (.dataFrame p f) s = .next s) ∧
      ∀ f : MailboxFrame, f.src.toNat ≠ r.conf.nodeId → exec (.ringRead f) s = .next s ∧ exec (.ringWrite f) s = .next s ∧ exec (.groupRead f) s = .next s)

/-- The sweep. At the next multiple of PERIOD the master's head carries the next SWEEP and its identity, and its data frames follow in order; a
sweep not yet back is counted as an overrun and the next one waits for its last frame and 2 µs, but at most a PERIOD (log 65). A node that
receives a head of another master processes it: its PRESENT bit, its CONSIST bit where its digest prefix is the one expected, DELAY advanced by
cable and residence, a ring-phase sample for every tracker that selects the ring, and it stops sweeping; of a head whose FCS fails it takes
nothing and sends it on marked. At the master the returned head is published, each copy as it returns (log 31). An extract binding of a frame
whose FCS and CRC check delivers its bytes. Three missed heads in a row make the standby sweep with the next epoch. -/
def Obligations.RingSweep : Prop :=
  ∀ (s : State), let r := s.ring; let l := s.lamp; let per := l.num 0x2100 4 1000
    r.bypHold = true →
    (let id := l.nodeId; let at' := (l.time / (3000 * per) + 1) * (3000 * per)
      id < 4096 → 250 ≤ per →
      (r.sweeping = true ∨ (id = l.masterId ∧ r.last = none ∧ r.headAt = none ∧ r.joined + 9750 * per ≤ at')) →
      Claims.RingLeaves .sweep s fun l' t => l'.time = at' ∧ (r.due ≠ 0 → Claims.counted l l' 0x2101 16) ∧ t.waiting = r.waiting ∧
        (r.due ≠ 0 → r.late = false → t = { r with conf := l.conf, late := true }) ∧
        (r.due = 0 ∨ r.late = true → t.sweeping = true ∧ t.sweep = r.sweep + 1#32 ∧ t.late = false ∧
          ∃ h ds, t.outs = .head true r.wrapped h :: ds ∧ ds.length = l.frames - 1 ∧ h.sa = nodeSa ∧ h.master.toNat = id ∧ h.sweep = r.sweep + 1#32 ∧ h.epoch = r.epoch ∧
          h.nfr = l.frames ∧ h.delay = 0#64 ∧ h.wrap = false ∧
          ∀ i < ds.length, ∃ f, ds[i]? = some (.data true r.wrapped f) ∧ f.fidx = i + 1 ∧ f.sweep = h.sweep ∧ f.master = h.master ∧ f.fcsOk = true)) ∧
    (∀ (p : RingPort) (h : HeadFrame), let id := l.nodeId; let d := (h.epoch - r.epoch).toInt; let came := h.delay + BitVec.ofInt 64 (r.cableOf p)
      id < 4096 → r.lock[portIdx p] = true → h.cut = false → h.fcsOk = true → h.marked = false → h.wrap = false → h.master.toNat ≠ id →
      r.last ≠ some (h.sweep, h.master) → h.present.length = 512 → h.consist.length = 512 →
      (if r.sweeping then 0 < d ∨ (d = 0 ∧ h.master.toNat = l.masterId) else r.last = none ∨ 0 ≤ d) →
      Claims.HeadLeaves (.headFrame p h) s fun cs l' t => t.sweeping = false ∧ t.epoch = h.epoch ∧ t.master = h.master ∧ t.last = some (h.sweep, h.master) ∧ t.missed = 0 ∧ t.port = p ∧
        t.headAt = some l.time ∧ t.waiting = r.waiting ∧ (bitGet h.present id = true → Claims.counted l l' 0x2101 17) ∧
        (∃ a b o, t.outs = [.head a b o] ∧ o.marked = false ∧ (∀ n < 4096, bitGet o.present n = (bitGet h.present n || n == id)) ∧
          (∀ n < 4096, bitGet o.consist n = (bitGet h.consist n || (n == id && l.digest.isSome && l.prefix' == h.expDig.toNat))) ∧
          o.delay = came + h.res ∧ o.sweep = h.sweep ∧ o.dup = (h.dup || bitGet h.present id)) ∧
        ∀ (c : Fin 4) (k : Fin 4), if (h.phValid && r.calibrated && l.pause.isNone && ((s.ch c).life == .up)) = true then
            (s.ch c).trkSrc k = 4 → ∃ x ∈ (cs[c]).samples, x.trk = k ∧ x.angle = h.rAngle ∧ x.turn = h.rTurn ∧ x.due = true ∧
              x.e.stamp = (s.ch c).ptb - BitVec.ofNat 64 (toCycles came) ∧ (r.sampled.all (fun m => m == h.master) = false → x.newMaster = true)
          else cs[c] = s.ch c) ∧
    (∀ (p : RingPort) (h : HeadFrame), r.lock[portIdx p] = true → h.cut = false → (h.fcsOk = false ∨ h.marked = true) → Claims.RingLeaves (.headFrame p h) s fun _ t =>
      t.last = r.last ∧ t.sweeping = r.sweeping ∧ t.master = r.master ∧ t.epoch = r.epoch ∧ t.headAt = r.headAt ∧ t.snap = r.snap ∧ t.binds = r.binds ∧
        ∃ a b o, t.outs = [.head a b o] ∧ o.marked = true) ∧
    (∀ (p : RingPort) (h : HeadFrame), r.lock[portIdx p] = true → r.sweeping = true → h.cut = false → h.fcsOk = true → h.marked = false → h.master.toNat ≠ l.nodeId →
      (0 < (h.epoch - r.epoch).toInt ∨ (h.epoch = r.epoch ∧ h.master.toNat = l.masterId)) →
      Claims.HeadLeaves (.headFrame p h) s fun _ _ t => t.sweeping = false ∧ t.epoch = h.epoch ∧ t.master = h.master) ∧
    (∀ (p : RingPort) (h : HeadFrame) (ns : Nat), let id := r.conf.nodeId
      r.lock[portIdx p] = true → r.sweeping = true → h.cut = false → h.fcsOk = true → h.marked = false → h.master.toNat = id → h.sweep = r.sweep →
      r.last ≠ some (h.sweep, h.master) → h.present.length = 512 →
      Claims.HeadLeaves (.headReturn p h ns) s fun _ l' t => t.thead = ns ∧
        (∀ n < 4096, bitGet t.present n = (bitGet h.present n || (!h.wrap && n == id) || (r.heads != 0 && bitGet r.present n))) ∧
        (r.late = false → t.due = r.due - 1) ∧
        (r.late = true → r.due = 1 → t.sweep = r.sweep + 1#32 ∧ t.late = false ∧ l'.time = l.time + 6000)) ∧
    (∀ (p : RingPort) (f : DataFrame) (b : List Byte) (a : AppObj) (sub : Nat) (x : Binding), r.lock[portIdx p] = true → f.cut = false → f.fcsOk = true → f.marked = false → f.wrap = false →
      p = r.port → r.sweeping = false → r.conf.nodeId < 4096 → r.last = some (f.sweep, f.master) → r.bindings = [(sub, x)] → x.insert = false → x.fidx = f.fidx →
      (f.payload.drop x.off).take x.len = b → l.app x.obj = some a → b.length = a.len → a.value.length ≤ a.len → a.notify = false → l.pause = none →
      let good := (f.payload.drop (x.off + x.len)).take 4 = (leBytes (crc32c b).toNat 4).reverse ∧ (a.ty = 1 → leNat b ≤ 1)
      Claims.RingLeaves (.dataFrame p f) s fun l' t => (good → (l'.app x.obj).map (fun y => y.value) = some b) ∧
        (¬ good → l'.app x.obj = some a ∧ Claims.counted l l' 0x2101 14) ∧
        ∃ c d, Claims.sends s (.data c d { f with wrap := !r.lock[portIdx (otherPort p)] }) t) ∧
    (∀ t0, r.sweeping = false → r.headAt = some t0 → Claims.RingLeaves .swMiss s fun l' t => Claims.counted l l' 0x2101 15 ∧ t.headAt = some (t0 + 3000 * r.conf.period) ∧
      (r.missed < 2 → t.missed = r.missed + 1 ∧ t.sweeping = false) ∧
      (2 ≤ r.missed → r.conf.nodeId < 4096 → (r.conf.nodeId = r.conf.standbyId ∨ r.conf.nodeId = r.conf.masterId) →
        t.sweeping = true ∧ t.epoch = r.epoch + 1#16 ∧ t.master.toNat = r.conf.nodeId))

/-- Mailbox exchanges. A request for another node passes on with one hop more; one for this node comes back answered, each record by the
dictionary access it names or with its error; a GROUP READ gathers the node's value into every record; a request of the node's own leaves by port A, and a
group write is refused; a returned frame is taken as the answer, a GROUP READ to which not every member has contributed with that as its status; a
transaction without an answer is reported once. -/
def Obligations.RingMailbox : Prop :=
  ∀ (s : State) (f : MailboxFrame), let r := s.ring; let l := s.lamp; let id := r.conf.nodeId
    let on := fun (g : MailboxFrame) => { g with
      hops := g.hops + 1#16, port := if r.lock[portIdx (otherPort f.port)] then otherPort f.port else f.port, wrap := f.wrap || !r.lock[portIdx (otherPort f.port)] }
    r.bypHold = true → r.lock[portIdx f.port] = true → f.cut = false → f.fcsOk = true → f.marked = false → f.hops.toNat < 8191 →
    (f.dst.toNat ≠ id → f.src.toNat ≠ id →
      Claims.RingLeaves (.ringRead f) s (fun l' t => l' = l ∧ Claims.sends s (.mailbox (on f)) t) ∧
      Claims.RingLeaves (.ringWrite f) s (fun l' t => l' = l ∧ Claims.sends s (.mailbox (on f)) t)) ∧
    (f.src.toNat = id → l.life = .up → l.pause = none → r.lock[portIdx .a] = true →
      let g : MailboxFrame := { f with port := .a, sa := nodeSa, dir := false, wrap := false, master := r.master, epoch := r.epoch, hops := 0#16 }
      let goes := fun (l' : Lamp) (t : Ring) => l' = l ∧ f.tid ∈ t.asked ∧ (∀ x ∈ t.answers, x.tid ≠ f.tid) ∧
        Claims.owns s (.mailbox g) { t with asked := r.asked, answers := r.answers }
      Claims.RingLeaves (.ringRead f) s goes ∧ Claims.RingLeaves (.groupRead f) s goes ∧ (f.group = false → Claims.RingLeaves (.ringWrite f) s goes) ∧
      (f.group = true → Claims.RingLeaves (.ringWrite f) s fun l' t => l' = l ∧ t = { r with answers := r.answers ++ [{ f with status := 0xF3#8 }] })) ∧
    (∀ (x : ObjRecord) (d : ODef), f.group = false → f.dst.toNat = id → f.src.toNat ≠ id → l.life = .up → l.pause = none → f.session = 0#32 → f.records = [x] → x.crcOk = true →
      l.odef x.index.toNat x.sub.toNat = .ok d → l.app x.index.toNat = none →
      let answered := fun (t : Ring) (st : Nat) (v : List Byte) => ∃ y, t.outs = r.outs ++ [.mailbox (on { f with
          op := f.op ||| 0x80#8, status := BitVec.ofNat 8 st, records := [y] })] ∧ y.rstat = BitVec.ofNat 8 st ∧ y.value = v
      (d.acc ≠ .wo → x.index ≠ 0x2030#16 → d.ty < 0xC → x.offset = 0#32 → x.vlen = 0 →
        Claims.RingLeaves (.ringRead f) s fun l' t => l' = l ∧ answered t 0 (s.value f.src.toNat x.index.toNat x.sub.toNat d).reverse) ∧
      (d.acc = .wo → Claims.RingLeaves (.ringRead f) s fun l' t => l' = l ∧ answered t 3 x.value) ∧
      ((d.acc = .ro ∨ d.acc = .const) → Claims.RingLeaves (.ringWrite f) s fun l' t => l' = l ∧ answered t 4 x.value)) ∧
    (∀ x : ObjRecord, f.group = true → l.belongs f.dst.toNat = true → f.src.toNat ≠ id → l.life = .up → l.pause = none → f.records = [x] →
      (x.crcOk = true → x.rstat = 0#8 → Claims.RingLeaves (.groupRead f) s fun l' t => l' = l ∧
        ∃ o y, t.outs = r.outs ++ [.mailbox o] ∧ o.contrib = f.contrib + 1 ∧ o.hops = f.hops + 1#16 ∧ o.records = [y] ∧ o.status = y.rstat ∧
          ∀ d, l.odef x.index.toNat x.sub.toNat = .ok d →
            let own := if d.ty < 0xC then (s.value id x.index.toNat x.sub.toNat d).reverse else s.value id x.index.toNat x.sub.toNat d
            match groupRule x.index.toNat x.sub.toNat with
            | none => y.rstat = 0xF2#8
            | some 0 => x.value.length = own.length → y.value = x.value.zipWith (fun a b => a &&& b) own
            | some 1 => beNat y.value = max (beNat x.value) (beNat own)
            | some _ => (f.contrib = 0 → y.value = own) ∧ (0 < f.contrib → if x.value = own then y = x else y.differ = true)) ∧
      (x.crcOk = false → Claims.RingLeaves (.groupRead f) s fun l' t => l' = l ∧
        ∃ o, t.outs = r.outs ++ [.mailbox o] ∧ o.contrib = f.contrib ∧ o.records = [{ x with rstat := 0xF0#8 }] ∧ o.status = 0xF0#8)) ∧
    (f.src.toNat = id → l.life = .up → l.pause = none → let rest := r.asked.filter fun x => x != f.tid
      (f.group = false → Claims.RingLeaves (.mailboxReturn f) s fun l' t => l' = l ∧ t = { r with answers := r.answers ++ [f], asked := rest }) ∧
      (f.group = true → f.op = 0x11#8 → l.belongs f.dst.toNat = false →
        let want := l.num (0x7000 + f.dst.toNat) 2 0
        Claims.RingLeaves (.mailboxReturn f) s fun l' t => l' = l ∧ ∃ g, t = { r with answers := r.answers ++ [g], asked := rest } ∧
          (want = 0 → g.status = 0xF4#8) ∧ (want ≠ 0 → f.contrib ≠ want → g.status = 0xF1#8) ∧ (want ≠ 0 → f.contrib = want → g = f))) ∧
    ∀ tid : BitVec 16, (tid ∈ r.asked → Claims.RingLeaves (.mailboxTimeout tid) s fun l' t => l' = l ∧
        t = { r with lost := r.lost ++ [tid], asked := r.asked.filter fun x => x != tid }) ∧
      (tid ∉ r.asked → exec (.mailboxTimeout tid) s = .next s)

/-- The bypass relay: held again only when the test frames pass, and not after three releases in a row for a port fault; released for a port that
cannot lock, for failed checks, or by the control, but not in an activation pause; what is being sent is then cut, and a node that swept stays
silent. HOLD BYPASSED and RETRY NOW need Engineer authority, of a session of the node that asks. -/
def Obligations.BypassRelay : Prop :=
  ∀ (s : State), let r := s.ring; let l := s.lamp
    let out := fun (t : Ring) => t.bypHold = false ∧ t.sweeping = false ∧ t.waiting = [] ∧
      t.outs = r.outs ++ (if l.time < r.busy[0] then [.cut .a] else []) ++ (if l.time < r.busy[1] then [.cut .b] else [])
    let back := fun (t : Ring) => t.bypHold = true ∧ t.bypWait = false ∧ t.joined = l.time ∧ t.outs = r.outs ∧ t.sweeping = r.sweeping ∧
      ∀ p : RingPort, t.cable[portIdx p] = if r.lock[portIdx p] then [] else r.cable[portIdx p]
    (r.bypHold = true → l.pause = none →
      (∀ why, why = .fcsErrors ∨ (why = .noBlockLock ∧ r.lock[0] ≠ r.lock[1]) →
        Claims.RingLeaves (.bypassRelease why) s fun l' t => Claims.counted l l' 0x2101 18 ∧ out t ∧
          t.bypFaults = r.bypFaults + 1 ∧ t.bypWait = decide (r.bypFaults + 1 < 3)) ∧
      (l.num 0x2100 10 0 = 1 → Claims.RingLeaves (.bypassRelease .control) s fun _ t => out t ∧ t.bypWait = false)) ∧
    (l.pause ≠ none → ∀ why, exec (.bypassRelease why) s = .next s) ∧
    (l.life = .up → l.pause = none → r.bypHold = false → r.bypWait = true → l.num 0x2100 10 0 = 0 →
      Claims.RingLeaves (.bypassRetry true) s (fun l' t => l' = l ∧ back t) ∧ exec (.bypassRetry false) s = .next s) ∧
    (∀ x, l.life = .up → l.pause = none → x ∈ l.sessions → l.sessions.Pairwise (fun a b => a.num ≠ b.num) → x.num ≠ 0#32 → l.time < x.till →
      (∀ n, n ≠ x.node → Claims.RingLeaves (.holdBypassed ⟨n, x.num⟩) s (fun l' t => l'.status = 6 ∧ t = r) ∧
        ∀ ok, Claims.RingLeaves (.retryNow ⟨n, x.num⟩ ok) s (fun l' t => l'.status = 6 ∧ t = r)) ∧
      (x.cls < 2 → Claims.RingLeaves (.holdBypassed ⟨x.node, x.num⟩) s fun l' t => l'.status = 5 ∧ t = r) ∧
      (2 ≤ x.cls → Claims.RingLeaves (.holdBypassed ⟨x.node, x.num⟩) s (fun l' t => l'.status = 0 ∧ l'.num 0x2100 10 0 = 1 ∧ out t) ∧
        ∀ ok, Claims.RingLeaves (.retryNow ⟨x.node, x.num⟩ ok) s fun l' t => l'.status = 0 ∧ l'.num 0x2100 10 0 = 0 ∧ t.bypHold = (r.bypHold || ok) ∧
          (r.bypHold = false → ok = true → back t)))

/-! ## The dictionary, sessions, keys, parameters, updates -/

/-- The Lamplighter answers a channel's oldest request with its SEQ, OP with bit 7, STATUS and value: a READ of a number of the channel's own
area by Mantle 0x000, 0x00 and its value; of an index of another channel, 0x05; a WRITE of a value that is not writable, 0x04, of the channel's
own application object of its length, 0x00, and the object has the bytes; a DECLARE of a new object of the channel, 0x00, and the object stands
with the message's value; a BOOL value other than 0 and 1 answers 0x08; by another Mantle, or outside the channel's range, 0x0C. -/
def Obligations.ChannelRequests : Prop :=
  ∀ (s : State) (c : Fin 4) (q : Carried) (h op vlen idx sub w3 : Nat) (val : List Byte), let l := s.lamp; let mantle := h / 65536 % 4096
    l.life = .up → l.pause = none → l.request c = some q → h < 2 ^ 32 → vlen ≤ 48 → idx < 65536 → sub < 256 → w3 < 2 ^ 32 → val.length = vlen →
    q.words = msgWords h op 0 vlen idx sub w3 val →
    let answered := fun (l' : Lamp) (st : Nat) (v : List Byte) => ∃ h', l'.carried = l.carried.erase q ++
        [⟨15, c.val, msgWords h' (op + 128) st v.length idx sub w3 v⟩] ∧ h' % 65536 = c.val + 256 * (h / 256 % 256) ∧ h' / 2 ^ 28 = 15
    let own := (inArea idx = true ∧ areaChan idx = c) ∨ (inApps idx = true ∧ appChan idx = c)
    let shared := (0x1000 ≤ idx ∧ idx < 0x2000) ∨ (0x2100 ≤ idx ∧ idx < 0x2104)
    (op = 1 →
      (∀ d, own ∨ shared → l.odef idx sub = .ok d → l.app idx = none → d.acc ≠ .wo → d.ty < 0xC → vlen = 0 → w3 = 0 →
        Claims.RingLeaves (.dictionaryRead c) s fun l' r => r = s.ring ∧ answered l' 0 ((s.value 0xFFFF idx sub d).take 48)) ∧
      (¬ own → ¬ shared → Claims.RingLeaves (.dictionaryRead c) s fun l' r => r = s.ring ∧ answered l' 5 [])) ∧
    (op = 2 →
      (¬ own → ¬ shared → Claims.RingLeaves (.dictionaryWrite c) s fun l' r => r = s.ring ∧ answered l' 5 []) ∧
      (∀ d, own ∨ shared → l.odef idx sub = .ok d → (d.acc = .ro ∨ d.acc = .const) →
        Claims.RingLeaves (.dictionaryWrite c) s fun l' r => r = s.ring ∧ answered l' 4 []) ∧
      (∀ a, inApps idx = true → appChan idx = c → sub = 1 → mantle = 0 → l.app idx = some a → a.acc = 1 → a.cls ≤ (s.ch c).objN ((s.ch c).idx 0x3080) 1 2 →
        1 < a.ty → a.ty < 0xC → vlen = a.len → Claims.RingLeaves (.dictionaryWrite c) s fun l' r => r = s.ring ∧ answered l' 0 [] ∧
          l'.app idx = some { a with value := val } ∧ ∀ i ≠ idx, l'.app i = l.app i)) ∧
    (op = 0x21 →
      (mantle ≠ 0 ∨ inApps idx = false ∨ appChan idx ≠ c ∨ w3 % 256 = 0xE →
        Claims.RingLeaves (.declare c) s fun l' r => r = s.ring ∧ answered l' 0xC [] ∧ l'.apps = l.apps) ∧
      (∀ ty acc cls n, mantle = 0 → inApps idx = true → appChan idx = c → l.app idx = none → w3 = ty + 256 * acc + 1024 * cls + 65536 * n →
        acc < 3 → cls < 3 → ((0 < ty ∧ ty < 0xC) ∨ ((ty = 0xC ∨ ty = 0xD) ∧ 0 < n ∧ n ≤ 2044)) → n < 4096 →
        (l.apps.filter fun a => appChan a.index == c && a.index != idx).length < 1024 →
        ((l.apps.filter fun a => appChan a.index == c && a.index != idx).map fun a => a.len).sum + (if ty < 0xC then tyBytes ty else n) ≤ 65536 →
        (ty = 1 → 1 < leNat (takePad 1 val) → Claims.RingLeaves (.declare c) s fun l' r => r = s.ring ∧ answered l' 8 [] ∧ l'.apps = l.apps) ∧
        ((ty = 1 → leNat (takePad 1 val) ≤ 1) → Claims.RingLeaves (.declare c) s fun l' r => r = s.ring ∧ answered l' 0 [] ∧ ∃ a, l'.app idx = some a ∧ a.ty = ty ∧ a.acc = acc ∧ a.cls = cls ∧
          a.notify = false ∧ a.len = (if ty < 0xC then tyBytes ty else n) ∧ ∀ i < vlen, i < a.len → a.value[i]? = val[i]?)))

/-- Sessions: a challenge is bound to its node for 10 s and replaces the node's earlier one; a token of 140 bytes that carries it, names its node and
is signed by a key with role 0 opens a session for LIFETIME with a number other than 0 and answers 0x00; it answers 0x08 when its length, a field, the
challenge or the signature fails, 0x0A with 16 sessions open; the challenge is spent. A session closes for its own node, and expires when its lifetime
has ended; by then, and for another node, its number gives no authority but 0x06. -/
def Obligations.Sessions : Prop :=
  ∀ (s : State) (src : BitVec 12), let l := s.lamp
    (l.life = .up → l.pause = none →
      (Claims.RingLeaves (.challenge src) s fun l' r => r = s.ring ∧ l'.sessions = l.sessions ∧
        (∃ n, l'.challenges.find? (fun x => x.1 == src.toNat) = some (src.toNat, n, l.time + secs 10)) ∧
        ∀ m : BitVec 12, m ≠ src → l'.challenges.find? (fun x => x.1 == m.toNat) = l.challenges.find? fun x => x.1 == m.toNat) ∧
      (∀ b : List Byte,
        let at' := fun (off k : Nat) => beNat ((b.drop off).take k)
        let asked := ∃ n t, l.challenges.find? (fun x => x.1 == src.toNat) = some (src.toNat, n, t) ∧ l.time < t ∧ (b.drop 8).take 32 = nonceBytes n
        let good := b.length = 140 ∧ asked ∧ at' 0 1 = 1 ∧ at' 1 1 ≤ 3 ∧ at' 2 2 = src.toNat ∧ 1 ≤ at' 4 4 ∧ at' 4 4 ≤ 86400 ∧ at' 41 3 = 0 ∧
          signedBy (l.key (at' 40 1) 0) (b.take 44) (b.drop 44) = true ∧ (at' 1 1 = 3 → at' 40 1 = 0)
        Claims.RingLeaves (.token src b) s fun l' r => r = s.ring ∧ l'.challenges.find? (fun x => x.1 == src.toNat) = none ∧
          (¬ good → l'.status = 8 ∧ l'.sessions = l.sessions) ∧ (good → 16 ≤ l.open.length → l'.status = 0xA ∧ l'.sessions = l.sessions) ∧
          (good → l.open.length < 16 → l'.status = 0 ∧ ∃ x, l'.sessions = l.open ++ [x] ∧ x.num ≠ 0#32 ∧ x.node = src ∧ x.cls = at' 1 1 ∧ x.till = l.time + secs (at' 4 4) ∧
            l'.opened.find? (fun y => y.1 == src.toNat) = some (src.toNat, x.num))) ∧
      (∀ num : W32, Claims.RingLeaves (.close src num) s fun l' r => r = s.ring ∧ l'.status = 0 ∧ ∀ x, x ∈ l'.sessions ↔ x ∈ l.sessions ∧ ¬ (x.num = num ∧ x.node = src))) ∧
    (∀ num : W32, Claims.RingLeaves (.sessionExpiry num) s fun l' r => r = s.ring ∧ ∀ x, x ∈ l'.sessions ↔ x ∈ l.sessions ∧ (x.num ≠ num ∨ l.time < x.till)) ∧
    Claims.RingLeaves (.challengeExpiry src) s (fun l' r => r = s.ring ∧ l'.sessions = l.sessions ∧
      ∀ x, x ∈ l'.challenges ↔ x ∈ l.challenges ∧ (x.1 ≠ src.toNat ∨ l.time < x.2.2)) ∧
    (∀ x, x ∈ l.open ↔ x ∈ l.sessions ∧ l.time < x.till) ∧
    ∀ num : W32, num ≠ 0#32 → (∀ x ∈ l.sessions, x.num = num → x.node ≠ src ∨ x.till ≤ l.time) → l.authority (some src) num = .error 6

/-- The parameter store and the digest: a change is written to the older copy, which becomes the newer; a failed write is a store fault
that the retry mends; the restoration of the defaults is asked for with its magic value alone; the digest is that of the canonical
serialisation. -/
def Sys2Proof.Claims.ParameterStore : Prop :=
  ∀ (s : State), let l := s.lamp
    let stored := fun (l' : Lamp) => ∃ k p, l'.copies[(k : Fin 2)] = some p ∧ l'.copies[1 - k] = l.copies[1 - k] ∧ p.vals = s.paramVals ∧ l'.storeGen = p.gen ∧
        l'.newerCopy = some p ∧ l'.dirty = false ∧ l'.store = if l.copies[1 - k].isSome then 0 else 1
    let failed := fun (l' : Lamp) => l'.store = 3 ∧ l'.objs = l.objs ∧ l'.storeGen = l.storeGen ∧ ∃ k : Fin 2, l'.copies[k] = l.copies[k] ∧
        (l'.copies[1 - k] = l.copies[1 - k] ∨ l'.copies[1 - k] = none)
    (l.life = .up → l.dirty = true → Claims.RingLeaves (.parameterStoreWrite true) s (fun l' r => r = s.ring ∧ stored l') ∧
      Claims.RingLeaves (.parameterStoreWrite false) s fun l' r => r = s.ring ∧ failed l') ∧
    (l.life = .up → l.store = 3 → Claims.RingLeaves (.storeRetry true) s (fun l' r => r = s.ring ∧ stored l') ∧
      Claims.RingLeaves (.storeRetry false) s fun l' r => r = s.ring ∧ failed l') ∧
    (∀ (q : RingAsker) (val : W32) (cls : Nat), l.life = .up → l.pause = none → l.authority (some q.src) q.session = .ok cls →
      (cls < 2 → exec (.restoreDefaults q val) s = .next { s with lamp := { l with status := 5 } }) ∧
      (2 ≤ cls → val = 0x6C6F6164#32 → exec (.restoreDefaults q val) s = .next { s with lamp := { l with restore := true, status := 0 } }) ∧
      (2 ≤ cls → val ≠ 0x6C6F6164#32 → exec (.restoreDefaults q val) s = .next { s with lamp := { l with status := 8 } })) ∧
    (l.life = .up → l.pause = none → l.digest = none →
      exec .digestComputed s = .next { s with lamp := { l with digest := some (sha256 s.serial) } })

/-- Key slots: 99 bytes enrol a key in an empty slot 1 to 7, on a device without keys with any authority and role 4, else with Engineer authority of a
session whose key holds role 4; a revocation needs that authority and leaves another key with role 4. What is refused changes nothing. -/
def Sys2Proof.Claims.KeySlots : Prop :=
  ∀ (s : State) (k : Fin 8) (q : RingAsker) (cls : Nat), let l := s.lamp; let key := l.keys[k]
    let may := 2 ≤ cls ∧ ∃ x ∈ l.sessions, x.num = q.session ∧ x.node = q.src ∧ x.root = true
    let no := fun (st : Nat) => Host.Outcome.next { s with lamp := { l with status := st } }
    l.life = .up → l.pause = none → l.authority (some q.src) q.session = .ok cls →
    (∀ b : List Byte, let roles : BitVec 16 := BitVec.ofNat 16 (beNat (b.take 2)); let open' := l.provisioned = false ∧ k ≠ 0
      let fits := k ≠ 0 ∧ b.length = 99 ∧ key.state = 0 ∧ (l.provisioned = true ∨ roles.getLsbD 4 = true)
      (open' ∨ may → fits → exec (.enrol k q b) s = .next { s with lamp := { l with keys := l.keys.set k ⟨1, roles, b.drop 2⟩, provisioned := true, status := 0 } }) ∧
      (open' ∨ may → ¬ fits → exec (.enrol k q b) s = no 8) ∧ (¬ open' → ¬ may → exec (.enrol k q b) s = no 5)) ∧
    (∀ val : W32, let fits := k ≠ 0 ∧ val = 0x7265766B#32 ∧ key.state = 1 ∧ ∃ j, j ≠ k ∧ (l.keys[j]).state = 1 ∧ (l.keys[j]).roles.getLsbD 4 = true
      (may → fits → exec (.revoke k q val) s = .next { s with lamp := { l with keys := l.keys.set k { key with state := 2 }, status := 0 } }) ∧
      (may → ¬ fits → exec (.revoke k q val) s = no 8) ∧ (¬ may → exec (.revoke k q val) s = no 5))

/-- The parameter store, the digest and the key slots. -/
def Obligations.StoredConfiguration : Prop := Claims.ParameterStore ∧ Claims.KeySlots

/-- The update of an item by a session with Engineer authority of its own node; while another item is activated every command answers 0x0A.
PREPARE (states 0 and 2) erases the inactive slot and empties the staged bytes; the erase ends in state 2, or in state 0 with 0x2A; data at the
staged length are appended and leave the buffer as they are programmed; ACTIVATE begins their verification (state 3), which ends in state 2 with
the failure in subindex 06 (0x2B for a channel that is not ready), or in state 4 with the slots switched and the boot record being written; ABORT
goes back to state 0; FALL BACK (state 0) switches to a valid other slot; COMMIT raises the OTP minimum. What the state does not allow answers
0x23. How long a verification takes, and the order of two, is the model's choice (log 64). -/
def Obligations.UpdateCommands : Prop :=
  ∀ (s : State) (i : Item) (q : RingAsker) (cls : Nat), let l := s.lamp; let it := l.item i
    let set := fun (x : ItemSt) (st : Nat) => Host.Outcome.next { s with lamp := { l.setItem i x with status := st } }
    let switch := fun (x : ItemSt) => { x with active := 1 - it.active, staged := [], buffer := [], state := 4, result := 0 }
    l.life = .up →
    (∀ ok, it.state = 1 → exec (.eraseDone i ok) s = .next { s with lamp := l.setItem i (if ok then { it with state := 2 } else { it with state := 0, result := 0x2A }) }) ∧
    (∀ ok n rest, it.state = 2 → it.buffer = n :: rest → 
      let done := if ok then { it with buffer := rest } else { it with staged := [], buffer := [], state := 0, result := 0x2A }
      exec (.flashProgramDone i ok) s = .next { s with lamp := l.setItem i done }) ∧
    (let code := if s.updateCode i it.staged = 0 ∧ s.blocked i = true then 0x2B else s.updateCode i it.staged
     (code ≠ 0 → s.verified i = { s with lamp := l.setItem i { it with state := 2, result := code } }) ∧
     (code = 0 → s.verified i = { s with lamp := { l.setItem i (switch (it.setSlot (1 - it.active) it.staged)) with booting := some (i, false) } })) ∧
    (l.pause = none → l.booting = none → it.state = 3 → (∀ j, j ≠ i → (l.item j).state ≠ 3) →
      let later : State := { s with lamp := { l with free := l.free + 1 } }
      s.updateTick = later ∨ s.updateTick = later.verified i) ∧
    (l.pause = none → l.authority (some q.src) q.session = .ok cls → 2 ≤ cls → (∃ j, j ≠ i ∧ (l.item j).state = 4) →
      exec (.prepare i q) s = set it 0xA ∧ exec (.activate i q) s = set it 0xA ∧ exec (.abort i q) s = set it 0xA ∧ exec (.fallBack i q) s = set it 0xA ∧
      exec (.commit i q) s = set it 0xA) ∧
    (l.pause = none → l.authority (some q.src) q.session = .ok cls → 2 ≤ cls → (∀ j, j ≠ i → (l.item j).state ≠ 4) →
      exec (.prepare i q) s = (if it.state = 0 ∨ it.state = 2 then set { it.setSlot (1 - it.active) [] with staged := [], buffer := [], state := 1 } 0 else set it 0x23) ∧
      exec (.abort i q) s = (if it.state = 1 ∨ it.state = 2 then set { it with staged := [], buffer := [], state := 0 } 0 else set it 0x23) ∧
      exec (.activate i q) s = (if it.state = 2 ∧ it.staged ≠ [] then set { it with state := 3 } 0 else set it 0x23) ∧
      (let sec := itemSec i (it.slot it.active)
       exec (.commit i q) s = if 32 < sec then set it 8 else set { it with minimum := max it.minimum sec } 0) ∧
      (it.state ≠ 0 → exec (.fallBack i q) s = set it 0x23) ∧
      (it.state = 0 → l.fallback i = 0 → exec (.fallBack i q) s = set it 0x2C) ∧
      (it.state = 0 → l.fallback i ≠ 0 → itemSec i (it.slot (1 - it.active)) < it.minimum → exec (.fallBack i q) s = set it 0x28) ∧
      (it.state = 0 → l.fallback i ≠ 0 → it.minimum ≤ itemSec i (it.slot (1 - it.active)) →
        (s.blocked i = true → exec (.fallBack i q) s = set { it with result := 0x2B } 0) ∧
        (s.blocked i = false → exec (.fallBack i q) s = .next { s with lamp := { l.setItem i (switch it) with booting := some (i, false), status := 0 } })) ∧
      ∀ (off : Nat) (b : List Byte), (it.state ≠ 2 → exec (.stagedData i q off b) s = set it 0x23) ∧ (it.state = 2 →
        (it.staged.length < off → exec (.stagedData i q off b) s = set it 0x20) ∧
        (off < it.staged.length → exec (.stagedData i q off b) s = set it (if (it.staged.drop off).take b.length = b then 0 else 0x21)) ∧
        (off = it.staged.length → off + b.length ≤ itemSize i → it.buffer.sum + b.length ≤ 65536 →
          exec (.stagedData i q off b) s = set { it with staged := it.staged ++ b, buffer := it.buffer ++ [b.length] } 0) ∧
        (off = it.staged.length → itemSize i < off + b.length → exec (.stagedData i q off b) s = set it 0x22) ∧
        (off = it.staged.length → off + b.length ≤ itemSize i → 65536 < it.buffer.sum + b.length → exec (.stagedData i q off b) s = set it 0xA)))

/-- Activation, once the boot record has been written, which then names the new slots. Firmware: the dictionary pauses, sessions, challenges and
debug authorisations end and the new slot runs; when it does not serve in time the previous slot is restored, and subindex 06 reads 0x2E once
service is back. The image of a running channel resets it with cause 0x05, and leaves it in FROST if its start mode is 0x7; a channel in FROST
keeps its state. A patch is done. How long the write takes is free (DESIGN CHOICE, log 64). -/
def Obligations.Activations : Prop :=
  ∀ (s : State), let l := s.lamp; let it := l.item .firmware
    let later : State := { s with lamp := { l with free := l.free + 1 } }
    (∀ x, l.booting = some x → l.life = .up → s.updateTick = later ∨ s.updateTick = later.bootWritten) ∧
    (l.booting = none → s.bootWritten = s) ∧
    (∀ i, l.booting = some (i, false) → let t := s.bootWritten
      t.lamp.booting = none ∧ t.lamp.bootSlots = l.items.toList.map (fun x => x.active) ∧ t.ring = s.ring ∧ t.pending = s.pending ∧
      (∀ j, (t.lamp.item j).active = (l.item j).active ∧ (t.lamp.item j).slotA = (l.item j).slotA ∧ (t.lamp.item j).slotB = (l.item j).slotB ∧
        (t.lamp.item j).minimum = (l.item j).minimum ∧ (j ≠ i → t.lamp.item j = l.item j)) ∧
      (i = .firmware → t.lamp.pause = some false ∧ t.lamp.sessions = [] ∧ t.lamp.challenges = [] ∧ t.lamp.running = it.active ∧
        (t.lamp.item i).state = 4 ∧ ∀ c : Fin 4, (t.ch c).llDown = true ∧ (t.ch c).fld 0x300000 0 2 = 0 ∧ (t.ch c).wire.nonce = none) ∧
      (i = .patch → (t.lamp.item i).state = 0 ∧ t.chans = s.chans ∧ t.lamp.pause = l.pause) ∧
      (∀ c, i = .image c → t.lamp.pause = l.pause ∧ (∀ d, d ≠ c → t.ch d = s.ch d ∧ t.mtl d = s.mtl d) ∧
        ((s.ch c).life = .up → ((t.ch c).life = .starting ∨ (t.ch c).life = .frost) ∧ ((s.ch c).startMode = 7 → (t.ch c).life = .frost ∧ (t.lamp.item i).state = 0) ∧
          (t.ch c).objN ((t.ch c).idx 0x3000) 3 0 = 5 ∧ t.mtl c = MantleTable.reset) ∧
        ((s.ch c).life ≠ .up → (s.ch c).life ≠ .starting → t.ch c = s.ch c ∧ t.mtl c = s.mtl c ∧ (t.lamp.item i).state = 0))) ∧
    (l.pause = some false → l.booting = none →
      exec .firmwareActivationTimeout s = .next { s with lamp := { l.setItem .firmware { it with active := 1 - it.active } with booting := some (.firmware, true) } }) ∧
    (l.booting = some (.firmware, true) → s.bootWritten.lamp.pause = some true ∧ s.bootWritten.lamp.running = it.active ∧ s.bootWritten.chans = s.chans ∧
      s.bootWritten.lamp.bootSlots = l.items.toList.map (fun x => x.active)) ∧
    (∀ restored, l.pause = some restored → s.ring.inbox = [] → ∃ t : State, exec .activationPauseEnd s = .next t ∧ t.lamp.pause = none ∧
      (t.lamp.item .firmware).state = 0 ∧ (t.lamp.item .firmware).result = (if restored then 0x2E else 0) ∧ t.ring = s.ring ∧
      ∀ c : Fin 4, t.ch c = { s.ch c with llDown := false })

/-- Retraining of a CXL link and the withdrawal of a debug grant, by Engineer authority of the session's own node: in THAW at once, the epoch
kept and the tag store cleared when its first line is invalid; in a run mode through a stop that shows BUSY; other values, DEW, FROST and reset,
a transition, a halted core and SNUFFED refuse, each with its code. -/
def Obligations.LinkAndGrant : Prop :=
  ∀ (s : State) (c : Fin 4) (q : RingAsker) (cls : Nat), let l := s.lamp; let ch := s.ch c
    let no := fun (st : Nat) => Host.Outcome.next { s with lamp := { l with status := st } }
    l.life = .up → l.pause = none →
    (∀ e, l.authority (some q.src) q.session = .error e → (∀ x val, exec (.retrain c x val q) s = no e) ∧ ∀ val, exec (.withdraw c q val) s = no e) ∧
    (l.authority (some q.src) q.session = .ok cls →
    (∀ (x : ExpanderFacts) (val : BitVec 8),
      (cls < 2 → exec (.retrain c x val q) s = no 5) ∧
      (2 ≤ cls → (val ≠ 1#8 ∨ ch.life ≠ .up ∨ ch.mode = 6) → exec (.retrain c x val q) s = no 8) ∧
      (2 ≤ cls → val = 1#8 → ch.life = .up → ch.mode ≠ 6 → (ch.trans ≠ none → exec (.retrain c x val q) s = no 0x11) ∧
        (ch.trans = none → ch.anyHalted = true → exec (.retrain c x val q) s = no 0x13) ∧
        (ch.trans = none → ch.anyHalted = false → ch.snuff ≠ none → exec (.retrain c x val q) s = no 0x15)) ∧
      (2 ≤ cls → val = 1#8 → ch.life = .up → ch.trans = none → ch.anyHalted = false → ch.snuff = none →
        (runMode ch.mode = true → ∃ t : Chan, exec (.retrain c x val q) s = .next { (s.onChan c fun _ => t) with lamp := { l with status := 0 } } ∧
          (∃ tr, t.trans = some tr ∧ tr.tgt = ch.mode ∧ tr.back = true) ∧ t.bit 0x14 8 = true ∧ t.bit 0x14 9 = true ∧ t.mode = ch.mode ∧ t.calm = ch.calm) ∧
        (ch.mode = 8 → ∃ t : Chan, exec (.retrain c x val q) s = .next { (s.onChan c fun _ => t) with lamp := { l with status := 0 } } ∧
          t.trans = none ∧ t.calm = ch.calm ∧ t.linkUp = (ch.train x).linkUp ∧ t.epoch = ch.epoch ∧ t.cxl = ch.cxl ∧
          t.cxlTag = if t.linkUp = true ∧ x.firstTagLineValid = false then [] else ch.cxlTag))) ∧
    (∀ val : W32,
      (cls < 2 → exec (.withdraw c q val) s = no 5) ∧ (2 ≤ cls → val ≠ 0x64726F70#32 → exec (.withdraw c q val) s = no 8) ∧
      (2 ≤ cls → val = 0x64726F70#32 → ∃ t : Chan, exec (.withdraw c q val) s = .next { (s.onChan c fun _ => t) with lamp := { l with status := 0 } } ∧
        t.fld 0x300000 0 2 = 0 ∧ t.mode = ch.mode ∧ t.calm = ch.calm)))

/-! ## The debug wire -/

/-- A wake pattern of 2 to 20 µs wakes the wire unless its mode is 0x03; it sleeps again. INFO answers the identity, STATUS the authorisation and the cores,
an unlisted CODE 0x02, a payload of another length 0x03. CHALLENGE answers a new nonce. TOKEN starts a check (0x01), or answers 0x09 during one, 0x03 at another length,
0x08 without a challenge; the challenge is spent. The check grants LEVEL and SCOPE for the token's lifetime, or refuses with result 7; both are counted. DROP
and the expiry end the authorisation: halted cores resume. A refused frame is counted. -/
def Obligations.WireSessions : Prop :=
  ∀ (s : State) (c : Fin 4) (tag : BitVec 8) (b : List Byte), let ch := s.ch c; let i := ch.idx 0x3090
    let ended := fun (t : Chan) => t.fld 0x300000 0 2 = 0 ∧ (ch.fld 0x300000 0 2 ≠ 0 → t.bit 0x300004 1 = true ∧ ∀ w : Fin 8,
      (ch.fld (dbgStat w) 0 2 < 3 → t.fld (dbgStat w) 0 2 = 0) ∧ (t.core w).pc = (ch.core w).pc ∧ (t.core w).g = (ch.core w).g)
    (∀ ns, 2000 ≤ ns → ns ≤ 20000 → s.lamp.life = .up → ch.objN i 1 0 ≠ 3 →
      Leaves (.wakePattern c ns) s c fun t => t = { ch with wire := { ch.wire with awake := true } }) ∧
    (∀ ns, (ns < 2000 ∨ 20000 < ns ∨ ch.objN i 1 0 = 3) → exec (.wakePattern c ns) s = .next s) ∧
    Leaves (.wireSleep c) s c (fun t => t = { ch with wire := { ch.wire with awake := false } }) ∧
    Leaves (.authorisationExpiry c) s c ended ∧
    Leaves (.debugChallengeExpiry c) s c (fun t => t = { ch with wire := { ch.wire with nonce := none } }) ∧
    (Claims.WireUp s c →
      let tells := fun (st : Nat) (p : List Byte) (t : Chan) => t = { ch with free := ch.free + 1, wire := { ch.wire with answer := some (st, tag, p) } }
      (b = [] → Leaves (.info c tag b) s c (tells 0 (leBytes 0x4548 4 ++ leBytes 0x04032000 4 ++ leBytes 0x21 1 ++ leBytes c.val 1 ++ leBytes (ch.objN i 1 0) 1 ++ [0#8]
          ++ leBytes Config.serial.toNat 8)) ∧
        Leaves (.status c tag b) s c (fun t => ∃ p, tells 0 p t ∧ p.length = 16 ∧ leNat (p.take 4) = (ch.peekCtrl 0x300000).toNat ∧ leNat ((p.drop 4).take 4) = ch.wire.result % 2 ^ 32) ∧
        Leaves (.debugChallenge c tag b) s c (fun t => ∃ n, t.wire.nonce = some n ∧ t.wire.answer = some (0, tag, nonceBytes n) ∧ t.wire.check = ch.wire.check) ∧
        Leaves (.drop c tag b) s c fun t => ended t ∧ t.wire.answer = some (0, tag, [])) ∧
      (b ≠ [] → Leaves (.info c tag b) s c (tells 3 []) ∧ Leaves (.status c tag b) s c (tells 3 []) ∧ Leaves (.debugChallenge c tag b) s c (tells 3 []) ∧
        Leaves (.drop c tag b) s c (tells 3 [])) ∧
      (∀ code : BitVec 8, ¬ (1 ≤ code.toNat ∧ code.toNat ≤ 5) → code ≠ 0x10#8 → code ≠ 0x11#8 → Leaves (.unknownCommand c code tag b) s c (tells 2 [])) ∧
      Leaves (.debugToken c tag b) s c (fun t => t.wire.nonce = none ∧
        (ch.wire.check ≠ none → t.wire.answer = some (9, tag, []) ∧ t.wire.check = ch.wire.check) ∧
        (ch.wire.check = none → b.length ≠ 148 → t.wire.answer = some (3, tag, []) ∧ t.wire.check = none ∧ t.wire.result = 3) ∧
        (ch.wire.check = none → b.length = 148 → ch.wire.nonce = none → t.wire.answer = some (8, tag, []) ∧ t.wire.check = none ∧ t.wire.result = 8) ∧
        (∀ n, ch.wire.check = none → b.length = 148 → ch.wire.nonce = some n → t.wire.answer = some (1, tag, []) ∧ t.wire.check = some (b, n) ∧ t.wire.result = 1)) ∧
      Leaves (.refusedFrame c) s c (fun t => t.objN i 2 0 = min 0xFFFF (ch.objN i 2 0 + 1) ∧ (ch.life = .up → t.bit 0x300004 3 = true))) ∧
    ∀ n, ch.wire.check = some (b, n) → s.lamp.life = .up → s.lamp.pause = none →
      let f := fieldAt b
      let good := ch.life = .up ∧ f 0 1 = 1 ∧ (f 1 1 = 1 ∨ f 1 1 = 2) ∧ 1 ≤ f 2 1 ∧ f 2 1 ≤ 7 ∧ f 3 1 = c.val ∧ f 4 8 = Config.serial.toNat ∧ 1 ≤ f 12 4 ∧ f 12 4 ≤ 86400 ∧
        (b.drop 16).take 32 = nonceBytes n ∧ f 49 3 = 0 ∧ signedBy (s.lamp.key (f 48 1) 1) (b.take 52) (b.drop 52) = true ∧ ch.objN i 1 0 ≤ 1
      ∃ (t : Chan) (l : Lamp), exec (.tokenCheck c) s = .next { (s.onChan c fun _ => t) with lamp := l } ∧ t.wire.check = none ∧
        (good → t.wire.result = 0 ∧ t.fld 0x300000 0 2 = f 1 1 ∧ t.fld 0x300000 2 3 = f 2 1 ∧ t.fld 0x300000 8 3 = f 48 1 ∧ t.bit 0x300004 0 = true ∧
          t.wire.life = s.lamp.time + 3000000000 * f 12 4 ∧ Claims.counted s.lamp l (0x2060 + c.val) 6) ∧
        (¬ good → t.wire.result = 7 ∧ t.regs = ch.regs ∧ Claims.counted s.lamp l (0x2060 + c.val) 7)

/-- READ and WRITE of the wire. Without an authorisation they answer 0x04, at another length 0x03. At LEVEL View or Full with a plain SCOPE a READ of the Calm store
gives its bytes; at Full a WRITE puts them there, clears the tags of their granules and changes no other byte. A register of a halted core whose class is in SCOPE
reads as it is and takes what is written; of a core that is not stopped it answers 0x06. -/
def Obligations.WireAccesses : Prop :=
  ∀ (s : State) (c : Fin 4) (tag : BitVec 8) (a n : Nat) (ws : List W32), let ch := s.ch c
    let req := fun (space core : Nat) => leBytes space 1 ++ leBytes core 1 ++ leBytes n 2 ++ leBytes a 8
    let put := ws.flatMap fun x => leBytes x.toNat 4
    let level := ch.fld 0x300000 0 2
    let tells := fun (st : Nat) (p : List Byte) (t : Chan) => t.wire.answer = some (st, tag, p)
    Claims.WireUp s c → ch.life = .up → ch.mode ≠ 8 → 1 ≤ n → n ≤ 64 → ws.length = n → a < 2 ^ 64 →
    (∀ b : List Byte, b.length ≠ 12 → Leaves (.debugRead c tag b) s c (tells 3 [])) ∧ (∀ b : List Byte, b.length < 12 → Leaves (.debugWrite c tag b) s c (tells 3 [])) ∧
    (level = 0 → Leaves (.debugRead c tag (req 0 0)) s c (tells 4 []) ∧ Leaves (.debugWrite c tag (req 0 0 ++ put)) s c (tells 4 [])) ∧
    (level ≠ 0 → a % 4 = 0 → a + 4 * n ≤ saveBase → (ch.bit 0x300000 2 = true ∨ ch.bit 0x300000 3 = true) → ch.sealed[1] = 0 → ch.calmPois = [] →
      (∀ (w : Fin 8) (i : Fin 32), ((ch.core w).loq[i]).st = .free) →
      Leaves (.debugRead c tag (req 0 0)) s c (fun t => tells 0 (readBytes ch.calm a (4 * n)) t ∧ t.calm = ch.calm ∧ t.calmTag = ch.calmTag ∧ t.cores = ch.cores) ∧
      (level = 2 → Leaves (.debugWrite c tag (req 0 0 ++ put)) s c fun t => tells 0 [] t ∧ readBytes t.calm a (4 * n) = put ∧
        (∀ x, x < a ∨ a + 4 * n ≤ x → spGet 0#8 t.calm x = spGet 0#8 ch.calm x) ∧ (∀ w : Fin 8, (t.core w).g = (ch.core w).g ∧ (t.core w).resv = (ch.core w).resv) ∧
        ∀ x, a ≤ x → x < a + 4 * n → setHas t.calmTag (x / 16) = false) ∧
      (level ≠ 2 → Leaves (.debugWrite c tag (req 0 0 ++ put)) s c (tells 4 []))) ∧
    ∀ w : Fin 8, level ≠ 0 → ch.bit 0x300000 (2 + clsOf (s.mtl c) (ch.core w).pcc.mantle) = true →
      (ch.halted w = false → ch.snuff = none → Leaves (.debugRead c tag (req 1 w.val)) s c (tells 6 [])) ∧
      (ch.halted w = true → level = 2 → ∀ r : Fin 32, a = 2 * r.val → n = 2 →
        Leaves (.debugRead c tag (req 1 w.val)) s c (tells 0 (leBytes ((ch.core w).g[r]).toNat 8)) ∧
        ∀ v : W64, put = leBytes v.toNat 8 → Leaves (.debugWrite c tag (req 1 w.val ++ put)) s c fun t => tells 0 [] t ∧ t.calm = ch.calm ∧
          (t.core w).g[r] = (if r = 0 then (ch.core w).g[r] else v) ∧ ∀ q : Fin 32, q ≠ r → (t.core w).g[q] = (ch.core w).g[q])

/-- Halting from the wire, at Full with a plain SCOPE: a request is shown as pending; it takes effect at an issue boundary that splits no pair, outside a window, within SCOPE, with
its cause; a resume discards what was fetched and the reservation; a step lets a halted core run one instruction; a patch unit takes its ACT and the matched line leaves
every L1I. Below Full nothing happens, and in THAW, where the wire writes memory alone (R319), nothing either. -/
def Obligations.WireControl : Prop :=
  ∀ (s : State) (c : Fin 4) (val : W32), let ch := s.ch c; let m := s.mtl c
    (Claims.WireUp s c → ch.life = .up → ch.mode = 8 → let idle := fun (t : Chan) => t = { ch with free := ch.free + 1 }
      Leaves (.dbgHaltreq c val) s c idle ∧ Leaves (.dbgResume c val) s c idle ∧ Leaves (.dbgStep c val) s c idle) ∧
    (Claims.WireUp s c → ch.life = .up → ch.mode ≠ 6 → ch.mode ≠ 8 →
      let base := { ch with free := ch.free + 1 }
      (ch.fld 0x300000 0 2 ≠ 2 → Leaves (.dbgHaltreq c val) s c (fun t => t = base) ∧ Leaves (.dbgResume c val) s c (fun t => t = base) ∧
        Leaves (.dbgStep c val) s c (fun t => t = base)) ∧
      (ch.fld 0x300000 0 2 = 2 → (ch.bit 0x300000 2 = true ∨ ch.bit 0x300000 3 = true) →
        Leaves (.dbgHaltreq c val) s c (fun t => ∀ w : Fin 8, if val.getLsbD w.val = true ∧ ch.fld (dbgStat w) 0 2 < 2
          then t.fld (dbgStat w) 0 2 = 1 ∧ t.core w = { ch.core w with haltReq := (ch.core w).haltReq ||| 1#8 }
          else t.fld (dbgStat w) 0 2 = ch.fld (dbgStat w) 0 2 ∧ t.core w = ch.core w) ∧
        Leaves (.dbgResume c val) s c (fun t => ∀ w : Fin 8, if val.getLsbD w.val = true ∧ ch.halted w = true
          then t.fld (dbgStat w) 0 2 = 0 ∧ (t.core w).resv = none ∧ (t.core w).pc = (ch.core w).pc ∧ (t.core w).g = (ch.core w).g
          else t.fld (dbgStat w) 0 2 = ch.fld (dbgStat w) 0 2 ∧ t.core w = ch.core w) ∧
        Leaves (.dbgStep c val) s c (fun t => t.regs = ch.regs ∧ ∀ w : Fin 8, if w.val = val.toNat % 8 ∧ ch.halted w = true
          then t.core w = { ch.core w with stepping := true, skip := true } else t.core w = ch.core w) ∧
        ∀ (k : CoreId) (insn : W32) (u : Fin 32), k.ch = c → (u.val < 24 ∨ val.getLsbD 2 = false) →
          Leaves (.patchCtlWrite k insn u true val) s c fun t => t.fld (pu u + 8) 0 2 = val.toNat % 4 ∧
            ∀ w : Fin 8, setHas (t.core w).l1i (ch.puAddr u / 64) = false)) ∧
    ∀ (k : CoreId) (cause : Fin 7), k.ch = c → cause ≠ 1 → ch.life = .up → runMode ch.mode = true → ch.trans = none → ch.snuff = none → ch.halted k.w = false →
      (ch.core k.w).haltReq = BitVec.ofNat 8 (2 ^ cause.val) → (ch.core k.w).wact = false → (ch.core k.w).slotA = none → (∀ i : Fin 32, ((ch.core k.w).loq[i]).st = .free) → (ch.core k.w).sb = [] →
      (ch.fld 0x300000 0 2 = 2 → ch.bit 0x300000 (2 + clsOf m (ch.core k.w).pcc.mantle) = true → Leaves (.halt k) s c fun t => t.halted k.w = true ∧
        t.fld (dbgStat k.w) 4 3 = cause.val ∧ (t.core k.w).pc = (ch.core k.w).pc ∧ (t.core k.w).g = (ch.core k.w).g ∧ (t.core k.w).haltReq = 0#8 ∧ (t.core k.w).resv = none) ∧
      (ch.fld 0x300000 0 2 ≠ 2 → Leaves (.halt k) s c fun t => t = { ch with free := ch.free + 1 })

/-! ## The device -/

/-- PORESET_N low for 1 µs or more, the Lamplighter's watchdog and a thermal trip reset the device: every channel is without power, the relay is
released, flash, OTP and, where nothing is in flight, the expander's memory remain; the active slots are those of the boot record, which a write
of it that is cut off leaves as it was or done; below 100 ns nothing happens. The start runs the active firmware slot if it passes, else the
other, loads the newer parameter copy, or the defaults when there is none or they are to be restored, which it then writes to the older copy (log
59), and commands every channel whose start mode is not 0x7 to start; without valid firmware nothing more happens. The watchdog counts its
expiries, anew when another slot runs (log 48); the third in a row within 60 s of a start makes the other slot due. A thermal trip holds the
device. -/
def Obligations.DeviceResets : Prop :=
  ∀ (s : State), let l := s.lamp
    let gone := fun (t : State) => (∀ c : Fin 4, (t.ch c).life = .frost ∧ (t.ch c).calm = [] ∧ (t.ch c).cores = Vector.replicate 8 Core.reset ∧ (t.ch c).regs = [] ∧
        ((s.ch c).life = .frost ∨ Claims.AtRest (s.ch c) → (t.ch c).cxl = (s.ch c).cxl) ∧ (t.ch c).objs = []) ∧ t.mantles = Vector.replicate 4 MantleTable.reset ∧ t.ring = { Ring.reset with free := s.ring.free + 1 } ∧
        t.pending = s.pending ∧ t.lamp.keys = l.keys ∧ t.lamp.provisioned = l.provisioned ∧ t.lamp.sessions = [] ∧ t.lamp.apps = [] ∧ t.lamp.objs = [] ∧
        (l.dirty = false → t.lamp.copies = l.copies) ∧
        (t.lamp.boot = l.boot ∨ (l.booting ≠ none ∧ t.lamp.boot = l.writeBoot.boot)) ∧ t.lamp.booting = none ∧
        ∀ i, t.lamp.item i = { l.item i with active := nth 0 t.lamp.bootSlots (itemNum i), staged := [], buffer := [], state := 0, result := 0 }
    (∀ ns, 1000 ≤ ns → ∃ t, exec (.poresetN ns) s = .next t ∧ gone t ∧ t.lamp.life = .held) ∧
    (∀ ns, ns < 100 → exec (.poresetN ns) s = .next s) ∧
    (∀ ns, ∃ t, exec (.poresetN ns) s = .next t ∧ ((gone t ∧ t.lamp.life = .held) ∨ ∃ k, t = { s with lamp := { l with free := k } })) ∧
    (∃ t, exec .thermalTrip s = .next t ∧ gone t ∧ t.lamp.life = .tripped) ∧
    (l.life = .up → ∀ secs, ∃ t, exec (.lamplighterWatchdogExpiry secs) s = .next t ∧ gone t ∧ t.lamp.life = .held ∧ t.lamp.expiries = min 0xFFFF (l.expiries + 1) ∧
      (60 < secs → t.lamp.attempts = 0 ∧ t.lamp.other = false) ∧
      (secs ≤ 60 → if l.attempts = 2 then t.lamp.attempts = 0 ∧ t.lamp.other = true else t.lamp.attempts = l.attempts + 1 ∧ t.lamp.other = false)) ∧
    (l.life = .held →
      let it := l.item .firmware; let due := if l.other then 1 - l.running else it.active
      let passes := fun (k : Nat) => vendorCode it.minimum (it.slot k) = 0
      (¬ passes due → ¬ passes (1 - due) → exec .deviceStart s = .next { s with lamp := { l with life := .dead } }) ∧
      (passes due ∨ passes (1 - due) → l.copies = Vector.replicate 2 none → l.restore = false → ∃ t, exec .deviceStart s = .next t ∧ t.lamp.life = .up ∧
        t.lamp.attempts = (if l.running = t.lamp.running then l.attempts else 0) ∧
        (passes due → t.lamp.running = due) ∧ (¬ passes due → t.lamp.running = 1 - due) ∧ t.lamp.store = 2 ∧ t.lamp.storeGen = 0 ∧ (s.ring.bypHold = false → t.ring.bypWait = !t.ring.bypHold) ∧
        ∀ c : Fin 4, if (s.ch c).startMode = 7 then (t.ch c).life = .frost else (t.ch c).life = .starting ∧ (t.ch c).goal = some (s.ch c).startMode) ∧
      (∀ p : ParamCopy, passes due → l.newerCopy = some p → l.restore = false → ∃ t, exec .deviceStart s = .next t ∧ t.lamp.life = .up ∧ t.lamp.storeGen = p.gen ∧
        t.lamp.store = (if l.copies.all fun x => x.isSome then 0 else 1)) ∧
      (passes due → l.restore = true → ∃ t, exec .deviceStart s = .next t ∧ t.lamp.life = .up ∧ t.lamp.restore = false ∧ t.lamp.store = 2 ∧ t.lamp.objs = l.objs ∧
        ∃ g, t.lamp.newerCopy = some ⟨g, []⟩ ∧ t.lamp.storeGen = g))
end

