-- ==== Sys2Proof/Laws/Sparse.lean ====
section
/-! SUPPORT. Sparse tables: read after write at the same key and at another, and that every operation keeps the canonical form. -/

namespace Sys2Proof.Laws

open Sys2Proof.Machine

variable {α : Type}

theorem spGet_del_self (d : α) (m : List (Nat × α)) (a : Nat) : spGet d (spDel m a) a = d := by
  induction m with
  | nil => rfl
  | cons x t ih =>
    obtain ⟨k, v⟩ := x
    by_cases h : a = k <;> simp [spDel, spGet, h] <;> simpa [h] using ih

theorem spGet_del_other (d : α) (m : List (Nat × α)) {a b : Nat} (hb : b ≠ a) : spGet d (spDel m a) b = spGet d m b := by
  induction m with
  | nil => rfl
  | cons x t ih =>
    obtain ⟨k, v⟩ := x
    by_cases h : a = k
    · subst h; simp [spDel, spGet, hb, ih]
    · simp [spDel, spGet, h, ih]

theorem spGet_put_self (d : α) (m : List (Nat × α)) (a : Nat) (v : α) : spGet d (spPut m a v) a = v := by
  induction m with
  | nil => simp [spPut, spGet]
  | cons x t ih =>
    obtain ⟨k, w⟩ := x
    simp only [spPut]
    split
    · simp [spGet]
    · split
      · simp [spGet]
      · simp [spGet, *]

theorem spGet_put_other (d : α) (m : List (Nat × α)) {a b : Nat} (v : α) (hb : b ≠ a) : spGet d (spPut m a v) b = spGet d m b := by
  induction m with
  | nil => simp [spPut, spGet, hb]
  | cons x t ih =>
    obtain ⟨k, w⟩ := x
    simp only [spPut]
    split
    · subst_vars; simp [spGet, hb]
    · split
      · simp [spGet, hb]
      · simp [spGet, ih]

/-- What a written key reads as. -/
@[simp] theorem spGet_set_self [DecidableEq α] (d : α) (m : List (Nat × α)) (a : Nat) (v : α) : spGet d (spSet d m a v) a = v := by
  unfold spSet
  split
  · rw [spGet_del_self]; exact Eq.symm ‹v = d›
  · exact spGet_put_self d m a v

/-- A write leaves every other key alone. -/
theorem spGet_set_other [DecidableEq α] (d d' : α) (m : List (Nat × α)) {a b : Nat} (v : α) (hb : b ≠ a) :
    spGet d' (spSet d m a v) b = spGet d' m b := by
  unfold spSet
  split
  · exact spGet_del_other d' m hb
  · exact spGet_put_other d' m v hb

/-! The canonical form. -/

variable [DecidableEq α]

/-- A table whose keys are above `hi` is one above any lower bound. -/
theorem wfFrom_weaken {d : α} {lo : Option Nat} {l : Nat} {m : List (Nat × α)} (h : spWfFrom d (some l) m = true)
    (hl : ∀ x, lo = some x → x ≤ l) : spWfFrom d lo m = true := by
  cases m with
  | nil => rfl
  | cons x t =>
    obtain ⟨k, v⟩ := x
    simp only [spWfFrom, Bool.and_eq_true, decide_eq_true_eq] at h ⊢
    refine ⟨⟨?_, h.1.2⟩, h.2⟩
    cases lo with
    | none => rfl
    | some x => simpa using lt_of_le_of_lt (hl x rfl) h.1.1

theorem wfFrom_del {d : α} (m : List (Nat × α)) : ∀ (lo : Option Nat) (a : Nat), spWfFrom d lo m = true → spWfFrom d lo (spDel m a) = true := by
  induction m with
  | nil => intro lo a h; rfl
  | cons x t ih =>
    obtain ⟨k, v⟩ := x
    intro lo a h
    simp only [spWfFrom, Bool.and_eq_true] at h
    simp only [spDel]
    split
    · refine wfFrom_weaken (ih (some k) a h.2) ?_
      rintro x rfl
      exact le_of_lt (by simpa using h.1.1)
    · simp only [spWfFrom, Bool.and_eq_true]
      exact ⟨h.1, ih (some k) a h.2⟩

theorem wfFrom_put {d : α} (m : List (Nat × α)) (a : Nat) (v : α) (hv : v ≠ d) :
    ∀ lo : Option Nat, (∀ x, lo = some x → x < a) → spWfFrom d lo m = true → spWfFrom d lo (spPut m a v) = true := by
  induction m with
  | nil =>
    intro lo hlo _
    cases lo with
    | none => simp [spPut, spWfFrom, hv]
    | some x => simp [spPut, spWfFrom, hv, hlo x rfl]
  | cons x t ih =>
    obtain ⟨k, w⟩ := x
    intro lo hlo h
    simp only [spWfFrom, Bool.and_eq_true, decide_eq_true_eq] at h
    simp only [spPut]
    split
    · subst_vars
      simp only [spWfFrom, Bool.and_eq_true, decide_eq_true_eq]
      exact ⟨⟨h.1.1, hv⟩, h.2⟩
    · split
      · simp only [spWfFrom, Bool.and_eq_true, decide_eq_true_eq]
        refine ⟨⟨?_, hv⟩, ⟨by assumption, h.1.2⟩, h.2⟩
        cases lo with
        | none => rfl
        | some x => simpa using hlo x rfl
      · simp only [spWfFrom, Bool.and_eq_true, decide_eq_true_eq]
        exact ⟨⟨h.1.1, h.1.2⟩, ih (some k) (by rintro x hx; cases hx; omega) h.2⟩

/-- Every write keeps the canonical form. -/
theorem spWf_set {d : α} {m : List (Nat × α)} (a : Nat) (v : α) (h : spWf d m = true) : spWf d (spSet d m a v) = true := by
  unfold spSet
  split
  · exact wfFrom_del m none a h
  · exact wfFrom_put m a v ‹_› none (by simp) h

end Sys2Proof.Laws
end

