-- ==== Sys2Proof/Laws/State.lean ====
section
/-! SUPPORT. One lemma per field per update of State: what an update of a channel, a core or a control register leaves, so that no
later proof unfolds a record update. -/

namespace Sys2Proof.Laws

open Sys2Proof.Machine

/-! A channel with one core replaced. -/

@[simp] theorem core_setCore (ch : Chan) (w : Fin 8) (c : Core) : (ch.setCore w c).core w = c := by simp [Chan.core, Chan.setCore]
theorem core_setCore_of_ne (ch : Chan) {w v : Fin 8} (c : Core) (h : v ≠ w) : (ch.setCore w c).core v = ch.core v := by
  simp only [Chan.core, Chan.setCore]
  exact Vector.getElem_set_ne _ _ (fun e => h (Fin.ext e.symm))
@[simp] theorem core_onCore (ch : Chan) (w : Fin 8) (f : Core → Core) : (ch.onCore w f).core w = f (ch.core w) := core_setCore ..
theorem core_onCore_of_ne (ch : Chan) {w v : Fin 8} (f : Core → Core) (h : v ≠ w) : (ch.onCore w f).core v = ch.core v := core_setCore_of_ne _ _ h
@[simp] theorem setCore_setCore (ch : Chan) (w : Fin 8) (c c' : Core) : (ch.setCore w c).setCore w c' = ch.setCore w c' := by
  simp [Chan.setCore]
@[simp] theorem reg_setCore (ch : Chan) (w : Fin 8) (c : Core) (off : Nat) : (ch.setCore w c).reg off = ch.reg off := rfl
@[simp] theorem reg_onCore (ch : Chan) (w : Fin 8) (f : Core → Core) (off : Nat) : (ch.onCore w f).reg off = ch.reg off := rfl
@[simp] theorem fld_setCore (ch : Chan) (w : Fin 8) (c : Core) (off lo n : Nat) : (ch.setCore w c).fld off lo n = ch.fld off lo n := rfl
@[simp] theorem fld_onCore (ch : Chan) (w : Fin 8) (f : Core → Core) (off lo n : Nat) : (ch.onCore w f).fld off lo n = ch.fld off lo n := rfl
@[simp] theorem bit_setCore (ch : Chan) (w : Fin 8) (c : Core) (off b : Nat) : (ch.setCore w c).bit off b = ch.bit off b := rfl
@[simp] theorem bit_onCore (ch : Chan) (w : Fin 8) (f : Core → Core) (off b : Nat) : (ch.onCore w f).bit off b = ch.bit off b := rfl
@[simp] theorem mode_setCore (ch : Chan) (w : Fin 8) (c : Core) : (ch.setCore w c).mode = ch.mode := rfl
@[simp] theorem mode_onCore (ch : Chan) (w : Fin 8) (f : Core → Core) : (ch.onCore w f).mode = ch.mode := rfl
@[simp] theorem fixedCore_setCore (ch : Chan) (w v : Fin 8) (c : Core) : (ch.setCore w c).fixedCore v = ch.fixedCore v := rfl
@[simp] theorem fixedCore_onCore (ch : Chan) (w v : Fin 8) (f : Core → Core) : (ch.onCore w f).fixedCore v = ch.fixedCore v := rfl

@[simp] theorem setCore_num (ch : Chan) (w : Fin 8) (c : Core) : (ch.setCore w c).num = ch.num := rfl
@[simp] theorem onCore_num (ch : Chan) (w : Fin 8) (f : Core → Core) : (ch.onCore w f).num = ch.num := rfl
@[simp] theorem setCore_regs (ch : Chan) (w : Fin 8) (c : Core) : (ch.setCore w c).regs = ch.regs := rfl
@[simp] theorem onCore_regs (ch : Chan) (w : Fin 8) (f : Core → Core) : (ch.onCore w f).regs = ch.regs := rfl
@[simp] theorem setCore_life (ch : Chan) (w : Fin 8) (c : Core) : (ch.setCore w c).life = ch.life := rfl
@[simp] theorem onCore_life (ch : Chan) (w : Fin 8) (f : Core → Core) : (ch.onCore w f).life = ch.life := rfl
@[simp] theorem setCore_trans (ch : Chan) (w : Fin 8) (c : Core) : (ch.setCore w c).trans = ch.trans := rfl
@[simp] theorem onCore_trans (ch : Chan) (w : Fin 8) (f : Core → Core) : (ch.onCore w f).trans = ch.trans := rfl
@[simp] theorem setCore_snuff (ch : Chan) (w : Fin 8) (c : Core) : (ch.setCore w c).snuff = ch.snuff := rfl
@[simp] theorem onCore_snuff (ch : Chan) (w : Fin 8) (f : Core → Core) : (ch.onCore w f).snuff = ch.snuff := rfl
@[simp] theorem setCore_wakeHeld (ch : Chan) (w : Fin 8) (c : Core) : (ch.setCore w c).wakeHeld = ch.wakeHeld := rfl
@[simp] theorem onCore_wakeHeld (ch : Chan) (w : Fin 8) (f : Core → Core) : (ch.onCore w f).wakeHeld = ch.wakeHeld := rfl
@[simp] theorem setCore_llDown (ch : Chan) (w : Fin 8) (c : Core) : (ch.setCore w c).llDown = ch.llDown := rfl
@[simp] theorem onCore_llDown (ch : Chan) (w : Fin 8) (f : Core → Core) : (ch.onCore w f).llDown = ch.llDown := rfl
@[simp] theorem setCore_calm (ch : Chan) (w : Fin 8) (c : Core) : (ch.setCore w c).calm = ch.calm := rfl
@[simp] theorem onCore_calm (ch : Chan) (w : Fin 8) (f : Core → Core) : (ch.onCore w f).calm = ch.calm := rfl
@[simp] theorem setCore_calmTag (ch : Chan) (w : Fin 8) (c : Core) : (ch.setCore w c).calmTag = ch.calmTag := rfl
@[simp] theorem onCore_calmTag (ch : Chan) (w : Fin 8) (f : Core → Core) : (ch.onCore w f).calmTag = ch.calmTag := rfl
@[simp] theorem setCore_calmPois (ch : Chan) (w : Fin 8) (c : Core) : (ch.setCore w c).calmPois = ch.calmPois := rfl
@[simp] theorem onCore_calmPois (ch : Chan) (w : Fin 8) (f : Core → Core) : (ch.onCore w f).calmPois = ch.calmPois := rfl
@[simp] theorem setCore_calmPres (ch : Chan) (w : Fin 8) (c : Core) : (ch.setCore w c).calmPres = ch.calmPres := rfl
@[simp] theorem onCore_calmPres (ch : Chan) (w : Fin 8) (f : Core → Core) : (ch.onCore w f).calmPres = ch.calmPres := rfl
@[simp] theorem setCore_cxl (ch : Chan) (w : Fin 8) (c : Core) : (ch.setCore w c).cxl = ch.cxl := rfl
@[simp] theorem onCore_cxl (ch : Chan) (w : Fin 8) (f : Core → Core) : (ch.onCore w f).cxl = ch.cxl := rfl
@[simp] theorem setCore_cxlTag (ch : Chan) (w : Fin 8) (c : Core) : (ch.setCore w c).cxlTag = ch.cxlTag := rfl
@[simp] theorem onCore_cxlTag (ch : Chan) (w : Fin 8) (f : Core → Core) : (ch.onCore w f).cxlTag = ch.cxlTag := rfl
@[simp] theorem setCore_cxlPois (ch : Chan) (w : Fin 8) (c : Core) : (ch.setCore w c).cxlPois = ch.cxlPois := rfl
@[simp] theorem onCore_cxlPois (ch : Chan) (w : Fin 8) (f : Core → Core) : (ch.onCore w f).cxlPois = ch.cxlPois := rfl
@[simp] theorem setCore_epoch (ch : Chan) (w : Fin 8) (c : Core) : (ch.setCore w c).epoch = ch.epoch := rfl
@[simp] theorem onCore_epoch (ch : Chan) (w : Fin 8) (f : Core → Core) : (ch.onCore w f).epoch = ch.epoch := rfl
@[simp] theorem setCore_cxlReqs (ch : Chan) (w : Fin 8) (c : Core) : (ch.setCore w c).cxlReqs = ch.cxlReqs := rfl
@[simp] theorem onCore_cxlReqs (ch : Chan) (w : Fin 8) (f : Core → Core) : (ch.onCore w f).cxlReqs = ch.cxlReqs := rfl
@[simp] theorem setCore_flitFails (ch : Chan) (w : Fin 8) (c : Core) : (ch.setCore w c).flitFails = ch.flitFails := rfl
@[simp] theorem setCore_evtSec (ch : Chan) (w : Fin 8) (c : Core) : (ch.setCore w c).evtSec = ch.evtSec := rfl
@[simp] theorem setCore_evtN (ch : Chan) (w : Fin 8) (c : Core) : (ch.setCore w c).evtN = ch.evtN := rfl
@[simp] theorem onCore_flitFails (ch : Chan) (w : Fin 8) (f : Core → Core) : (ch.onCore w f).flitFails = ch.flitFails := rfl
@[simp] theorem onCore_evtSec (ch : Chan) (w : Fin 8) (f : Core → Core) : (ch.onCore w f).evtSec = ch.evtSec := rfl
@[simp] theorem onCore_evtN (ch : Chan) (w : Fin 8) (f : Core → Core) : (ch.onCore w f).evtN = ch.evtN := rfl
@[simp] theorem setCore_l3 (ch : Chan) (w : Fin 8) (c : Core) : (ch.setCore w c).l3 = ch.l3 := rfl
@[simp] theorem onCore_l3 (ch : Chan) (w : Fin 8) (f : Core → Core) : (ch.onCore w f).l3 = ch.l3 := rfl
@[simp] theorem setCore_dir (ch : Chan) (w : Fin 8) (c : Core) : (ch.setCore w c).dir = ch.dir := rfl
@[simp] theorem onCore_dir (ch : Chan) (w : Fin 8) (f : Core → Core) : (ch.onCore w f).dir = ch.dir := rfl
@[simp] theorem setCore_homeQ (ch : Chan) (w : Fin 8) (c : Core) : (ch.setCore w c).homeQ = ch.homeQ := rfl
@[simp] theorem onCore_homeQ (ch : Chan) (w : Fin 8) (f : Core → Core) : (ch.onCore w f).homeQ = ch.homeQ := rfl
@[simp] theorem setCore_txs (ch : Chan) (w : Fin 8) (c : Core) : (ch.setCore w c).txs = ch.txs := rfl
@[simp] theorem onCore_txs (ch : Chan) (w : Fin 8) (f : Core → Core) : (ch.onCore w f).txs = ch.txs := rfl
@[simp] theorem setCore_net (ch : Chan) (w : Fin 8) (c : Core) : (ch.setCore w c).net = ch.net := rfl
@[simp] theorem setCore_rebuild (ch : Chan) (w : Fin 8) (c : Core) : (ch.setCore w c).rebuild = ch.rebuild := rfl
@[simp] theorem onCore_net (ch : Chan) (w : Fin 8) (f : Core → Core) : (ch.onCore w f).net = ch.net := rfl
@[simp] theorem onCore_rebuild (ch : Chan) (w : Fin 8) (f : Core → Core) : (ch.onCore w f).rebuild = ch.rebuild := rfl
@[simp] theorem setCore_results (ch : Chan) (w : Fin 8) (c : Core) : (ch.setCore w c).results = ch.results := rfl
@[simp] theorem onCore_results (ch : Chan) (w : Fin 8) (f : Core → Core) : (ch.onCore w f).results = ch.results := rfl
@[simp] theorem setCore_salt (ch : Chan) (w : Fin 8) (c : Core) : (ch.setCore w c).salt = ch.salt := rfl
@[simp] theorem onCore_salt (ch : Chan) (w : Fin 8) (f : Core → Core) : (ch.onCore w f).salt = ch.salt := rfl
@[simp] theorem setCore_plan (ch : Chan) (w : Fin 8) (c : Core) : (ch.setCore w c).plan = ch.plan := rfl
@[simp] theorem onCore_plan (ch : Chan) (w : Fin 8) (f : Core → Core) : (ch.onCore w f).plan = ch.plan := rfl
@[simp] theorem setCore_admitted (ch : Chan) (w : Fin 8) (c : Core) : (ch.setCore w c).admitted = ch.admitted := rfl
@[simp] theorem onCore_admitted (ch : Chan) (w : Fin 8) (f : Core → Core) : (ch.onCore w f).admitted = ch.admitted := rfl
@[simp] theorem setCore_secret (ch : Chan) (w : Fin 8) (c : Core) : (ch.setCore w c).secret = ch.secret := rfl
@[simp] theorem onCore_secret (ch : Chan) (w : Fin 8) (f : Core → Core) : (ch.onCore w f).secret = ch.secret := rfl
@[simp] theorem setCore_pulse (ch : Chan) (w : Fin 8) (c : Core) : (ch.setCore w c).pulse = ch.pulse := rfl
@[simp] theorem onCore_pulse (ch : Chan) (w : Fin 8) (f : Core → Core) : (ch.onCore w f).pulse = ch.pulse := rfl
@[simp] theorem setCore_activ (ch : Chan) (w : Fin 8) (c : Core) : (ch.setCore w c).activ = ch.activ := rfl
@[simp] theorem onCore_activ (ch : Chan) (w : Fin 8) (f : Core → Core) : (ch.onCore w f).activ = ch.activ := rfl
@[simp] theorem setCore_ptb (ch : Chan) (w : Fin 8) (c : Core) : (ch.setCore w c).ptb = ch.ptb := rfl
@[simp] theorem onCore_ptb (ch : Chan) (w : Fin 8) (f : Core → Core) : (ch.onCore w f).ptb = ch.ptb := rfl
@[simp] theorem setCore_subCyc (ch : Chan) (w : Fin 8) (c : Core) : (ch.setCore w c).subCyc = ch.subCyc := rfl
@[simp] theorem onCore_subCyc (ch : Chan) (w : Fin 8) (f : Core → Core) : (ch.onCore w f).subCyc = ch.subCyc := rfl
@[simp] theorem setCore_trk (ch : Chan) (w : Fin 8) (c : Core) : (ch.setCore w c).trk = ch.trk := rfl
@[simp] theorem onCore_trk (ch : Chan) (w : Fin 8) (f : Core → Core) : (ch.onCore w f).trk = ch.trk := rfl
@[simp] theorem setCore_slot (ch : Chan) (w : Fin 8) (c : Core) : (ch.setCore w c).slot = ch.slot := rfl
@[simp] theorem onCore_slot (ch : Chan) (w : Fin 8) (f : Core → Core) : (ch.onCore w f).slot = ch.slot := rfl
@[simp] theorem setCore_stph (ch : Chan) (w : Fin 8) (c : Core) : (ch.setCore w c).stph = ch.stph := rfl
@[simp] theorem onCore_stph (ch : Chan) (w : Fin 8) (f : Core → Core) : (ch.onCore w f).stph = ch.stph := rfl
@[simp] theorem setCore_rel (ch : Chan) (w : Fin 8) (c : Core) : (ch.setCore w c).rel = ch.rel := rfl
@[simp] theorem onCore_rel (ch : Chan) (w : Fin 8) (f : Core → Core) : (ch.onCore w f).rel = ch.rel := rfl
@[simp] theorem setCore_tmr (ch : Chan) (w : Fin 8) (c : Core) : (ch.setCore w c).tmr = ch.tmr := rfl
@[simp] theorem onCore_tmr (ch : Chan) (w : Fin 8) (f : Core → Core) : (ch.onCore w f).tmr = ch.tmr := rfl
@[simp] theorem setCore_svcKey (ch : Chan) (w : Fin 8) (c : Core) : (ch.setCore w c).svcKey = ch.svcKey := rfl
@[simp] theorem onCore_svcKey (ch : Chan) (w : Fin 8) (f : Core → Core) : (ch.onCore w f).svcKey = ch.svcKey := rfl
@[simp] theorem setCore_pinIn (ch : Chan) (w : Fin 8) (c : Core) : (ch.setCore w c).pinIn = ch.pinIn := rfl
@[simp] theorem onCore_pinIn (ch : Chan) (w : Fin 8) (f : Core → Core) : (ch.onCore w f).pinIn = ch.pinIn := rfl
@[simp] theorem setCore_pinExt (ch : Chan) (w : Fin 8) (c : Core) : (ch.setCore w c).pinExt = ch.pinExt := rfl
@[simp] theorem onCore_pinExt (ch : Chan) (w : Fin 8) (f : Core → Core) : (ch.onCore w f).pinExt = ch.pinExt := rfl
@[simp] theorem setCore_io (ch : Chan) (w : Fin 8) (c : Core) : (ch.setCore w c).io = ch.io := rfl
@[simp] theorem onCore_io (ch : Chan) (w : Fin 8) (f : Core → Core) : (ch.onCore w f).io = ch.io := rfl
@[simp] theorem setCore_mbxOut (ch : Chan) (w : Fin 8) (c : Core) : (ch.setCore w c).mbxOut = ch.mbxOut := rfl
@[simp] theorem onCore_mbxOut (ch : Chan) (w : Fin 8) (f : Core → Core) : (ch.onCore w f).mbxOut = ch.mbxOut := rfl
@[simp] theorem setCore_mbxIn (ch : Chan) (w : Fin 8) (c : Core) : (ch.setCore w c).mbxIn = ch.mbxIn := rfl
@[simp] theorem onCore_mbxIn (ch : Chan) (w : Fin 8) (f : Core → Core) : (ch.onCore w f).mbxIn = ch.mbxIn := rfl
@[simp] theorem setCore_ucode (ch : Chan) (w : Fin 8) (c : Core) : (ch.setCore w c).ucode = ch.ucode := rfl
@[simp] theorem setCore_badWords (ch : Chan) (w : Fin 8) (c : Core) : (ch.setCore w c).badWords = ch.badWords := rfl
@[simp] theorem onCore_ucode (ch : Chan) (w : Fin 8) (f : Core → Core) : (ch.onCore w f).ucode = ch.ucode := rfl
@[simp] theorem onCore_badWords (ch : Chan) (w : Fin 8) (f : Core → Core) : (ch.onCore w f).badWords = ch.badWords := rfl
@[simp] theorem setCore_wire (ch : Chan) (w : Fin 8) (c : Core) : (ch.setCore w c).wire = ch.wire := rfl
@[simp] theorem onCore_wire (ch : Chan) (w : Fin 8) (f : Core → Core) : (ch.onCore w f).wire = ch.wire := rfl
@[simp] theorem setCore_trcBuf (ch : Chan) (w : Fin 8) (c : Core) : (ch.setCore w c).trcBuf = ch.trcBuf := rfl
@[simp] theorem onCore_trcBuf (ch : Chan) (w : Fin 8) (f : Core → Core) : (ch.onCore w f).trcBuf = ch.trcBuf := rfl
@[simp] theorem setCore_trcHead (ch : Chan) (w : Fin 8) (c : Core) : (ch.setCore w c).trcHead = ch.trcHead := rfl
@[simp] theorem onCore_trcHead (ch : Chan) (w : Fin 8) (f : Core → Core) : (ch.onCore w f).trcHead = ch.trcHead := rfl
@[simp] theorem setCore_trcDrops (ch : Chan) (w : Fin 8) (c : Core) : (ch.setCore w c).trcDrops = ch.trcDrops := rfl
@[simp] theorem onCore_trcDrops (ch : Chan) (w : Fin 8) (f : Core → Core) : (ch.onCore w f).trcDrops = ch.trcDrops := rfl
@[simp] theorem setCore_postLeft (ch : Chan) (w : Fin 8) (c : Core) : (ch.setCore w c).postLeft = ch.postLeft := rfl
@[simp] theorem onCore_postLeft (ch : Chan) (w : Fin 8) (f : Core → Core) : (ch.onCore w f).postLeft = ch.postLeft := rfl
@[simp] theorem setCore_stall (ch : Chan) (w : Fin 8) (c : Core) : (ch.setCore w c).stall = ch.stall := rfl
@[simp] theorem onCore_stall (ch : Chan) (w : Fin 8) (f : Core → Core) : (ch.onCore w f).stall = ch.stall := rfl
@[simp] theorem setCore_objs (ch : Chan) (w : Fin 8) (c : Core) : (ch.setCore w c).objs = ch.objs := rfl
@[simp] theorem onCore_objs (ch : Chan) (w : Fin 8) (f : Core → Core) : (ch.onCore w f).objs = ch.objs := rfl
@[simp] theorem setCore_goal (ch : Chan) (w : Fin 8) (c : Core) : (ch.setCore w c).goal = ch.goal := rfl
@[simp] theorem onCore_goal (ch : Chan) (w : Fin 8) (f : Core → Core) : (ch.onCore w f).goal = ch.goal := rfl
@[simp] theorem setCore_loaded (ch : Chan) (w : Fin 8) (c : Core) : (ch.setCore w c).loaded = ch.loaded := rfl
@[simp] theorem setCore_bulk (ch : Chan) (w : Fin 8) (c : Core) : (ch.setCore w c).bulk = ch.bulk := rfl
@[simp] theorem setCore_bulkAt (ch : Chan) (w : Fin 8) (c : Core) : (ch.setCore w c).bulkAt = ch.bulkAt := rfl
@[simp] theorem onCore_loaded (ch : Chan) (w : Fin 8) (f : Core → Core) : (ch.onCore w f).loaded = ch.loaded := rfl
@[simp] theorem onCore_bulk (ch : Chan) (w : Fin 8) (f : Core → Core) : (ch.onCore w f).bulk = ch.bulk := rfl
@[simp] theorem onCore_bulkAt (ch : Chan) (w : Fin 8) (f : Core → Core) : (ch.onCore w f).bulkAt = ch.bulkAt := rfl
@[simp] theorem setCore_kept (ch : Chan) (w : Fin 8) (c : Core) : (ch.setCore w c).kept = ch.kept := rfl
@[simp] theorem onCore_kept (ch : Chan) (w : Fin 8) (f : Core → Core) : (ch.onCore w f).kept = ch.kept := rfl
@[simp] theorem setCore_expander (ch : Chan) (w : Fin 8) (c : Core) : (ch.setCore w c).expander = ch.expander := rfl
@[simp] theorem onCore_expander (ch : Chan) (w : Fin 8) (f : Core → Core) : (ch.onCore w f).expander = ch.expander := rfl
@[simp] theorem setCore_zeroed (ch : Chan) (w : Fin 8) (c : Core) : (ch.setCore w c).zeroed = ch.zeroed := rfl
@[simp] theorem onCore_zeroed (ch : Chan) (w : Fin 8) (f : Core → Core) : (ch.onCore w f).zeroed = ch.zeroed := rfl
@[simp] theorem setCore_sealed (ch : Chan) (w : Fin 8) (c : Core) : (ch.setCore w c).sealed = ch.sealed := rfl
@[simp] theorem onCore_sealed (ch : Chan) (w : Fin 8) (f : Core → Core) : (ch.onCore w f).sealed = ch.sealed := rfl
@[simp] theorem setCore_planBad (ch : Chan) (w : Fin 8) (c : Core) : (ch.setCore w c).planBad = ch.planBad := rfl
@[simp] theorem onCore_planBad (ch : Chan) (w : Fin 8) (f : Core → Core) : (ch.onCore w f).planBad = ch.planBad := rfl
@[simp] theorem setCore_lateSeen (ch : Chan) (w : Fin 8) (c : Core) : (ch.setCore w c).lateSeen = ch.lateSeen := rfl
@[simp] theorem onCore_lateSeen (ch : Chan) (w : Fin 8) (f : Core → Core) : (ch.onCore w f).lateSeen = ch.lateSeen := rfl
@[simp] theorem setCore_free (ch : Chan) (w : Fin 8) (c : Core) : (ch.setCore w c).free = ch.free := rfl
@[simp] theorem onCore_free (ch : Chan) (w : Fin 8) (f : Core → Core) : (ch.onCore w f).free = ch.free := rfl
@[simp] theorem setCore_edges (ch : Chan) (w : Fin 8) (c : Core) : (ch.setCore w c).edges = ch.edges := rfl
@[simp] theorem onCore_edges (ch : Chan) (w : Fin 8) (f : Core → Core) : (ch.onCore w f).edges = ch.edges := rfl
@[simp] theorem setCore_fired (ch : Chan) (w : Fin 8) (c : Core) : (ch.setCore w c).fired = ch.fired := rfl
@[simp] theorem onCore_fired (ch : Chan) (w : Fin 8) (f : Core → Core) : (ch.onCore w f).fired = ch.fired := rfl
@[simp] theorem setCore_samples (ch : Chan) (w : Fin 8) (c : Core) : (ch.setCore w c).samples = ch.samples := rfl
@[simp] theorem onCore_samples (ch : Chan) (w : Fin 8) (f : Core → Core) : (ch.onCore w f).samples = ch.samples := rfl
@[simp] theorem setCore_pinSync (ch : Chan) (w : Fin 8) (c : Core) : (ch.setCore w c).pinSync = ch.pinSync := rfl
@[simp] theorem onCore_pinSync (ch : Chan) (w : Fin 8) (f : Core → Core) : (ch.onCore w f).pinSync = ch.pinSync := rfl

/-! A channel with one control register replaced. -/

@[simp] theorem reg_setReg (ch : Chan) (off : Nat) (v : W32) : (ch.setReg off v).reg off = v := spGet_set_self ..
theorem reg_setReg_of_ne (ch : Chan) {off o : Nat} (v : W32) (h : o ≠ off) : (ch.setReg off v).reg o = ch.reg o := spGet_set_other _ _ _ _ h
@[simp] theorem core_setReg (ch : Chan) (off : Nat) (v : W32) (w : Fin 8) : (ch.setReg off v).core w = ch.core w := rfl
theorem reg_putF_of_ne (ch : Chan) {off o : Nat} (lo n v : Nat) (h : o ≠ off) : (ch.putF off lo n v).reg o = ch.reg o := reg_setReg_of_ne _ _ h
@[simp] theorem core_putF (ch : Chan) (off lo n v : Nat) (w : Fin 8) : (ch.putF off lo n v).core w = ch.core w := rfl
theorem reg_setBit_of_ne (ch : Chan) {off o : Nat} (b : Nat) (h : o ≠ off) : (ch.setBit off b).reg o = ch.reg o := reg_putF_of_ne _ _ _ _ h
@[simp] theorem core_setBit (ch : Chan) (off b : Nat) (w : Fin 8) : (ch.setBit off b).core w = ch.core w := rfl

@[simp] theorem setReg_num (ch : Chan) (off : Nat) (v : W32) : (ch.setReg off v).num = ch.num := rfl
@[simp] theorem putF_num (ch : Chan) (off lo n v : Nat) : (ch.putF off lo n v).num = ch.num := rfl
@[simp] theorem setBit_num (ch : Chan) (off b : Nat) : (ch.setBit off b).num = ch.num := rfl
@[simp] theorem setReg_cores (ch : Chan) (off : Nat) (v : W32) : (ch.setReg off v).cores = ch.cores := rfl
@[simp] theorem putF_cores (ch : Chan) (off lo n v : Nat) : (ch.putF off lo n v).cores = ch.cores := rfl
@[simp] theorem setBit_cores (ch : Chan) (off b : Nat) : (ch.setBit off b).cores = ch.cores := rfl
@[simp] theorem setReg_life (ch : Chan) (off : Nat) (v : W32) : (ch.setReg off v).life = ch.life := rfl
@[simp] theorem putF_life (ch : Chan) (off lo n v : Nat) : (ch.putF off lo n v).life = ch.life := rfl
@[simp] theorem setBit_life (ch : Chan) (off b : Nat) : (ch.setBit off b).life = ch.life := rfl
@[simp] theorem setReg_trans (ch : Chan) (off : Nat) (v : W32) : (ch.setReg off v).trans = ch.trans := rfl
@[simp] theorem putF_trans (ch : Chan) (off lo n v : Nat) : (ch.putF off lo n v).trans = ch.trans := rfl
@[simp] theorem setBit_trans (ch : Chan) (off b : Nat) : (ch.setBit off b).trans = ch.trans := rfl
@[simp] theorem setReg_snuff (ch : Chan) (off : Nat) (v : W32) : (ch.setReg off v).snuff = ch.snuff := rfl
@[simp] theorem putF_snuff (ch : Chan) (off lo n v : Nat) : (ch.putF off lo n v).snuff = ch.snuff := rfl
@[simp] theorem setBit_snuff (ch : Chan) (off b : Nat) : (ch.setBit off b).snuff = ch.snuff := rfl
@[simp] theorem setReg_wakeHeld (ch : Chan) (off : Nat) (v : W32) : (ch.setReg off v).wakeHeld = ch.wakeHeld := rfl
@[simp] theorem putF_wakeHeld (ch : Chan) (off lo n v : Nat) : (ch.putF off lo n v).wakeHeld = ch.wakeHeld := rfl
@[simp] theorem setBit_wakeHeld (ch : Chan) (off b : Nat) : (ch.setBit off b).wakeHeld = ch.wakeHeld := rfl
@[simp] theorem setReg_llDown (ch : Chan) (off : Nat) (v : W32) : (ch.setReg off v).llDown = ch.llDown := rfl
@[simp] theorem putF_llDown (ch : Chan) (off lo n v : Nat) : (ch.putF off lo n v).llDown = ch.llDown := rfl
@[simp] theorem setBit_llDown (ch : Chan) (off b : Nat) : (ch.setBit off b).llDown = ch.llDown := rfl
@[simp] theorem setReg_calm (ch : Chan) (off : Nat) (v : W32) : (ch.setReg off v).calm = ch.calm := rfl
@[simp] theorem putF_calm (ch : Chan) (off lo n v : Nat) : (ch.putF off lo n v).calm = ch.calm := rfl
@[simp] theorem setBit_calm (ch : Chan) (off b : Nat) : (ch.setBit off b).calm = ch.calm := rfl
@[simp] theorem setReg_calmTag (ch : Chan) (off : Nat) (v : W32) : (ch.setReg off v).calmTag = ch.calmTag := rfl
@[simp] theorem putF_calmTag (ch : Chan) (off lo n v : Nat) : (ch.putF off lo n v).calmTag = ch.calmTag := rfl
@[simp] theorem setBit_calmTag (ch : Chan) (off b : Nat) : (ch.setBit off b).calmTag = ch.calmTag := rfl
@[simp] theorem setReg_calmPois (ch : Chan) (off : Nat) (v : W32) : (ch.setReg off v).calmPois = ch.calmPois := rfl
@[simp] theorem putF_calmPois (ch : Chan) (off lo n v : Nat) : (ch.putF off lo n v).calmPois = ch.calmPois := rfl
@[simp] theorem setBit_calmPois (ch : Chan) (off b : Nat) : (ch.setBit off b).calmPois = ch.calmPois := rfl
@[simp] theorem setReg_calmPres (ch : Chan) (off : Nat) (v : W32) : (ch.setReg off v).calmPres = ch.calmPres := rfl
@[simp] theorem putF_calmPres (ch : Chan) (off lo n v : Nat) : (ch.putF off lo n v).calmPres = ch.calmPres := rfl
@[simp] theorem setBit_calmPres (ch : Chan) (off b : Nat) : (ch.setBit off b).calmPres = ch.calmPres := rfl
@[simp] theorem setReg_cxl (ch : Chan) (off : Nat) (v : W32) : (ch.setReg off v).cxl = ch.cxl := rfl
@[simp] theorem putF_cxl (ch : Chan) (off lo n v : Nat) : (ch.putF off lo n v).cxl = ch.cxl := rfl
@[simp] theorem setBit_cxl (ch : Chan) (off b : Nat) : (ch.setBit off b).cxl = ch.cxl := rfl
@[simp] theorem setReg_cxlTag (ch : Chan) (off : Nat) (v : W32) : (ch.setReg off v).cxlTag = ch.cxlTag := rfl
@[simp] theorem putF_cxlTag (ch : Chan) (off lo n v : Nat) : (ch.putF off lo n v).cxlTag = ch.cxlTag := rfl
@[simp] theorem setBit_cxlTag (ch : Chan) (off b : Nat) : (ch.setBit off b).cxlTag = ch.cxlTag := rfl
@[simp] theorem setReg_cxlPois (ch : Chan) (off : Nat) (v : W32) : (ch.setReg off v).cxlPois = ch.cxlPois := rfl
@[simp] theorem putF_cxlPois (ch : Chan) (off lo n v : Nat) : (ch.putF off lo n v).cxlPois = ch.cxlPois := rfl
@[simp] theorem setBit_cxlPois (ch : Chan) (off b : Nat) : (ch.setBit off b).cxlPois = ch.cxlPois := rfl
@[simp] theorem setReg_epoch (ch : Chan) (off : Nat) (v : W32) : (ch.setReg off v).epoch = ch.epoch := rfl
@[simp] theorem putF_epoch (ch : Chan) (off lo n v : Nat) : (ch.putF off lo n v).epoch = ch.epoch := rfl
@[simp] theorem setBit_epoch (ch : Chan) (off b : Nat) : (ch.setBit off b).epoch = ch.epoch := rfl
@[simp] theorem setReg_cxlReqs (ch : Chan) (off : Nat) (v : W32) : (ch.setReg off v).cxlReqs = ch.cxlReqs := rfl
@[simp] theorem putF_cxlReqs (ch : Chan) (off lo n v : Nat) : (ch.putF off lo n v).cxlReqs = ch.cxlReqs := rfl
@[simp] theorem setBit_cxlReqs (ch : Chan) (off b : Nat) : (ch.setBit off b).cxlReqs = ch.cxlReqs := rfl
@[simp] theorem setReg_flitFails (ch : Chan) (off : Nat) (v : W32) : (ch.setReg off v).flitFails = ch.flitFails := rfl
@[simp] theorem setReg_evtSec (ch : Chan) (off : Nat) (v : W32) : (ch.setReg off v).evtSec = ch.evtSec := rfl
@[simp] theorem setReg_evtN (ch : Chan) (off : Nat) (v : W32) : (ch.setReg off v).evtN = ch.evtN := rfl
@[simp] theorem putF_flitFails (ch : Chan) (off lo n v : Nat) : (ch.putF off lo n v).flitFails = ch.flitFails := rfl
@[simp] theorem putF_evtSec (ch : Chan) (off lo n v : Nat) : (ch.putF off lo n v).evtSec = ch.evtSec := rfl
@[simp] theorem putF_evtN (ch : Chan) (off lo n v : Nat) : (ch.putF off lo n v).evtN = ch.evtN := rfl
@[simp] theorem setBit_flitFails (ch : Chan) (off b : Nat) : (ch.setBit off b).flitFails = ch.flitFails := rfl
@[simp] theorem setBit_evtSec (ch : Chan) (off b : Nat) : (ch.setBit off b).evtSec = ch.evtSec := rfl
@[simp] theorem setBit_evtN (ch : Chan) (off b : Nat) : (ch.setBit off b).evtN = ch.evtN := rfl
@[simp] theorem setReg_l3 (ch : Chan) (off : Nat) (v : W32) : (ch.setReg off v).l3 = ch.l3 := rfl
@[simp] theorem putF_l3 (ch : Chan) (off lo n v : Nat) : (ch.putF off lo n v).l3 = ch.l3 := rfl
@[simp] theorem setBit_l3 (ch : Chan) (off b : Nat) : (ch.setBit off b).l3 = ch.l3 := rfl
@[simp] theorem setReg_dir (ch : Chan) (off : Nat) (v : W32) : (ch.setReg off v).dir = ch.dir := rfl
@[simp] theorem putF_dir (ch : Chan) (off lo n v : Nat) : (ch.putF off lo n v).dir = ch.dir := rfl
@[simp] theorem setBit_dir (ch : Chan) (off b : Nat) : (ch.setBit off b).dir = ch.dir := rfl
@[simp] theorem setReg_homeQ (ch : Chan) (off : Nat) (v : W32) : (ch.setReg off v).homeQ = ch.homeQ := rfl
@[simp] theorem putF_homeQ (ch : Chan) (off lo n v : Nat) : (ch.putF off lo n v).homeQ = ch.homeQ := rfl
@[simp] theorem setBit_homeQ (ch : Chan) (off b : Nat) : (ch.setBit off b).homeQ = ch.homeQ := rfl
@[simp] theorem setReg_txs (ch : Chan) (off : Nat) (v : W32) : (ch.setReg off v).txs = ch.txs := rfl
@[simp] theorem putF_txs (ch : Chan) (off lo n v : Nat) : (ch.putF off lo n v).txs = ch.txs := rfl
@[simp] theorem setBit_txs (ch : Chan) (off b : Nat) : (ch.setBit off b).txs = ch.txs := rfl
@[simp] theorem setReg_net (ch : Chan) (off : Nat) (v : W32) : (ch.setReg off v).net = ch.net := rfl
@[simp] theorem setReg_rebuild (ch : Chan) (off : Nat) (v : W32) : (ch.setReg off v).rebuild = ch.rebuild := rfl
@[simp] theorem putF_net (ch : Chan) (off lo n v : Nat) : (ch.putF off lo n v).net = ch.net := rfl
@[simp] theorem putF_rebuild (ch : Chan) (off lo n v : Nat) : (ch.putF off lo n v).rebuild = ch.rebuild := rfl
@[simp] theorem setBit_net (ch : Chan) (off b : Nat) : (ch.setBit off b).net = ch.net := rfl
@[simp] theorem setBit_rebuild (ch : Chan) (off b : Nat) : (ch.setBit off b).rebuild = ch.rebuild := rfl
@[simp] theorem setReg_results (ch : Chan) (off : Nat) (v : W32) : (ch.setReg off v).results = ch.results := rfl
@[simp] theorem putF_results (ch : Chan) (off lo n v : Nat) : (ch.putF off lo n v).results = ch.results := rfl
@[simp] theorem setBit_results (ch : Chan) (off b : Nat) : (ch.setBit off b).results = ch.results := rfl
@[simp] theorem setReg_salt (ch : Chan) (off : Nat) (v : W32) : (ch.setReg off v).salt = ch.salt := rfl
@[simp] theorem putF_salt (ch : Chan) (off lo n v : Nat) : (ch.putF off lo n v).salt = ch.salt := rfl
@[simp] theorem setBit_salt (ch : Chan) (off b : Nat) : (ch.setBit off b).salt = ch.salt := rfl
@[simp] theorem setReg_plan (ch : Chan) (off : Nat) (v : W32) : (ch.setReg off v).plan = ch.plan := rfl
@[simp] theorem putF_plan (ch : Chan) (off lo n v : Nat) : (ch.putF off lo n v).plan = ch.plan := rfl
@[simp] theorem setBit_plan (ch : Chan) (off b : Nat) : (ch.setBit off b).plan = ch.plan := rfl
@[simp] theorem setReg_admitted (ch : Chan) (off : Nat) (v : W32) : (ch.setReg off v).admitted = ch.admitted := rfl
@[simp] theorem putF_admitted (ch : Chan) (off lo n v : Nat) : (ch.putF off lo n v).admitted = ch.admitted := rfl
@[simp] theorem setBit_admitted (ch : Chan) (off b : Nat) : (ch.setBit off b).admitted = ch.admitted := rfl
@[simp] theorem setReg_secret (ch : Chan) (off : Nat) (v : W32) : (ch.setReg off v).secret = ch.secret := rfl
@[simp] theorem putF_secret (ch : Chan) (off lo n v : Nat) : (ch.putF off lo n v).secret = ch.secret := rfl
@[simp] theorem setBit_secret (ch : Chan) (off b : Nat) : (ch.setBit off b).secret = ch.secret := rfl
@[simp] theorem setReg_pulse (ch : Chan) (off : Nat) (v : W32) : (ch.setReg off v).pulse = ch.pulse := rfl
@[simp] theorem putF_pulse (ch : Chan) (off lo n v : Nat) : (ch.putF off lo n v).pulse = ch.pulse := rfl
@[simp] theorem setBit_pulse (ch : Chan) (off b : Nat) : (ch.setBit off b).pulse = ch.pulse := rfl
@[simp] theorem setReg_activ (ch : Chan) (off : Nat) (v : W32) : (ch.setReg off v).activ = ch.activ := rfl
@[simp] theorem putF_activ (ch : Chan) (off lo n v : Nat) : (ch.putF off lo n v).activ = ch.activ := rfl
@[simp] theorem setBit_activ (ch : Chan) (off b : Nat) : (ch.setBit off b).activ = ch.activ := rfl
@[simp] theorem setReg_ptb (ch : Chan) (off : Nat) (v : W32) : (ch.setReg off v).ptb = ch.ptb := rfl
@[simp] theorem putF_ptb (ch : Chan) (off lo n v : Nat) : (ch.putF off lo n v).ptb = ch.ptb := rfl
@[simp] theorem setBit_ptb (ch : Chan) (off b : Nat) : (ch.setBit off b).ptb = ch.ptb := rfl
@[simp] theorem setReg_subCyc (ch : Chan) (off : Nat) (v : W32) : (ch.setReg off v).subCyc = ch.subCyc := rfl
@[simp] theorem putF_subCyc (ch : Chan) (off lo n v : Nat) : (ch.putF off lo n v).subCyc = ch.subCyc := rfl
@[simp] theorem setBit_subCyc (ch : Chan) (off b : Nat) : (ch.setBit off b).subCyc = ch.subCyc := rfl
@[simp] theorem setReg_trk (ch : Chan) (off : Nat) (v : W32) : (ch.setReg off v).trk = ch.trk := rfl
@[simp] theorem putF_trk (ch : Chan) (off lo n v : Nat) : (ch.putF off lo n v).trk = ch.trk := rfl
@[simp] theorem setBit_trk (ch : Chan) (off b : Nat) : (ch.setBit off b).trk = ch.trk := rfl
@[simp] theorem setReg_slot (ch : Chan) (off : Nat) (v : W32) : (ch.setReg off v).slot = ch.slot := rfl
@[simp] theorem putF_slot (ch : Chan) (off lo n v : Nat) : (ch.putF off lo n v).slot = ch.slot := rfl
@[simp] theorem setBit_slot (ch : Chan) (off b : Nat) : (ch.setBit off b).slot = ch.slot := rfl
@[simp] theorem setReg_stph (ch : Chan) (off : Nat) (v : W32) : (ch.setReg off v).stph = ch.stph := rfl
@[simp] theorem putF_stph (ch : Chan) (off lo n v : Nat) : (ch.putF off lo n v).stph = ch.stph := rfl
@[simp] theorem setBit_stph (ch : Chan) (off b : Nat) : (ch.setBit off b).stph = ch.stph := rfl
@[simp] theorem setReg_rel (ch : Chan) (off : Nat) (v : W32) : (ch.setReg off v).rel = ch.rel := rfl
@[simp] theorem putF_rel (ch : Chan) (off lo n v : Nat) : (ch.putF off lo n v).rel = ch.rel := rfl
@[simp] theorem setBit_rel (ch : Chan) (off b : Nat) : (ch.setBit off b).rel = ch.rel := rfl
@[simp] theorem setReg_tmr (ch : Chan) (off : Nat) (v : W32) : (ch.setReg off v).tmr = ch.tmr := rfl
@[simp] theorem putF_tmr (ch : Chan) (off lo n v : Nat) : (ch.putF off lo n v).tmr = ch.tmr := rfl
@[simp] theorem setBit_tmr (ch : Chan) (off b : Nat) : (ch.setBit off b).tmr = ch.tmr := rfl
@[simp] theorem setReg_svcKey (ch : Chan) (off : Nat) (v : W32) : (ch.setReg off v).svcKey = ch.svcKey := rfl
@[simp] theorem putF_svcKey (ch : Chan) (off lo n v : Nat) : (ch.putF off lo n v).svcKey = ch.svcKey := rfl
@[simp] theorem setBit_svcKey (ch : Chan) (off b : Nat) : (ch.setBit off b).svcKey = ch.svcKey := rfl
@[simp] theorem setReg_pinIn (ch : Chan) (off : Nat) (v : W32) : (ch.setReg off v).pinIn = ch.pinIn := rfl
@[simp] theorem putF_pinIn (ch : Chan) (off lo n v : Nat) : (ch.putF off lo n v).pinIn = ch.pinIn := rfl
@[simp] theorem setBit_pinIn (ch : Chan) (off b : Nat) : (ch.setBit off b).pinIn = ch.pinIn := rfl
@[simp] theorem setReg_pinExt (ch : Chan) (off : Nat) (v : W32) : (ch.setReg off v).pinExt = ch.pinExt := rfl
@[simp] theorem putF_pinExt (ch : Chan) (off lo n v : Nat) : (ch.putF off lo n v).pinExt = ch.pinExt := rfl
@[simp] theorem setBit_pinExt (ch : Chan) (off b : Nat) : (ch.setBit off b).pinExt = ch.pinExt := rfl
@[simp] theorem setReg_io (ch : Chan) (off : Nat) (v : W32) : (ch.setReg off v).io = ch.io := rfl
@[simp] theorem putF_io (ch : Chan) (off lo n v : Nat) : (ch.putF off lo n v).io = ch.io := rfl
@[simp] theorem setBit_io (ch : Chan) (off b : Nat) : (ch.setBit off b).io = ch.io := rfl
@[simp] theorem setReg_mbxOut (ch : Chan) (off : Nat) (v : W32) : (ch.setReg off v).mbxOut = ch.mbxOut := rfl
@[simp] theorem putF_mbxOut (ch : Chan) (off lo n v : Nat) : (ch.putF off lo n v).mbxOut = ch.mbxOut := rfl
@[simp] theorem setBit_mbxOut (ch : Chan) (off b : Nat) : (ch.setBit off b).mbxOut = ch.mbxOut := rfl
@[simp] theorem setReg_mbxIn (ch : Chan) (off : Nat) (v : W32) : (ch.setReg off v).mbxIn = ch.mbxIn := rfl
@[simp] theorem putF_mbxIn (ch : Chan) (off lo n v : Nat) : (ch.putF off lo n v).mbxIn = ch.mbxIn := rfl
@[simp] theorem setBit_mbxIn (ch : Chan) (off b : Nat) : (ch.setBit off b).mbxIn = ch.mbxIn := rfl
@[simp] theorem setReg_ucode (ch : Chan) (off : Nat) (v : W32) : (ch.setReg off v).ucode = ch.ucode := rfl
@[simp] theorem setReg_badWords (ch : Chan) (off : Nat) (v : W32) : (ch.setReg off v).badWords = ch.badWords := rfl
@[simp] theorem putF_ucode (ch : Chan) (off lo n v : Nat) : (ch.putF off lo n v).ucode = ch.ucode := rfl
@[simp] theorem putF_badWords (ch : Chan) (off lo n v : Nat) : (ch.putF off lo n v).badWords = ch.badWords := rfl
@[simp] theorem setBit_ucode (ch : Chan) (off b : Nat) : (ch.setBit off b).ucode = ch.ucode := rfl
@[simp] theorem setBit_badWords (ch : Chan) (off b : Nat) : (ch.setBit off b).badWords = ch.badWords := rfl
@[simp] theorem setReg_wire (ch : Chan) (off : Nat) (v : W32) : (ch.setReg off v).wire = ch.wire := rfl
@[simp] theorem putF_wire (ch : Chan) (off lo n v : Nat) : (ch.putF off lo n v).wire = ch.wire := rfl
@[simp] theorem setBit_wire (ch : Chan) (off b : Nat) : (ch.setBit off b).wire = ch.wire := rfl
@[simp] theorem setReg_trcBuf (ch : Chan) (off : Nat) (v : W32) : (ch.setReg off v).trcBuf = ch.trcBuf := rfl
@[simp] theorem putF_trcBuf (ch : Chan) (off lo n v : Nat) : (ch.putF off lo n v).trcBuf = ch.trcBuf := rfl
@[simp] theorem setBit_trcBuf (ch : Chan) (off b : Nat) : (ch.setBit off b).trcBuf = ch.trcBuf := rfl
@[simp] theorem setReg_trcHead (ch : Chan) (off : Nat) (v : W32) : (ch.setReg off v).trcHead = ch.trcHead := rfl
@[simp] theorem putF_trcHead (ch : Chan) (off lo n v : Nat) : (ch.putF off lo n v).trcHead = ch.trcHead := rfl
@[simp] theorem setBit_trcHead (ch : Chan) (off b : Nat) : (ch.setBit off b).trcHead = ch.trcHead := rfl
@[simp] theorem setReg_trcDrops (ch : Chan) (off : Nat) (v : W32) : (ch.setReg off v).trcDrops = ch.trcDrops := rfl
@[simp] theorem putF_trcDrops (ch : Chan) (off lo n v : Nat) : (ch.putF off lo n v).trcDrops = ch.trcDrops := rfl
@[simp] theorem setBit_trcDrops (ch : Chan) (off b : Nat) : (ch.setBit off b).trcDrops = ch.trcDrops := rfl
@[simp] theorem setReg_postLeft (ch : Chan) (off : Nat) (v : W32) : (ch.setReg off v).postLeft = ch.postLeft := rfl
@[simp] theorem putF_postLeft (ch : Chan) (off lo n v : Nat) : (ch.putF off lo n v).postLeft = ch.postLeft := rfl
@[simp] theorem setBit_postLeft (ch : Chan) (off b : Nat) : (ch.setBit off b).postLeft = ch.postLeft := rfl
@[simp] theorem setReg_stall (ch : Chan) (off : Nat) (v : W32) : (ch.setReg off v).stall = ch.stall := rfl
@[simp] theorem putF_stall (ch : Chan) (off lo n v : Nat) : (ch.putF off lo n v).stall = ch.stall := rfl
@[simp] theorem setBit_stall (ch : Chan) (off b : Nat) : (ch.setBit off b).stall = ch.stall := rfl
@[simp] theorem setReg_objs (ch : Chan) (off : Nat) (v : W32) : (ch.setReg off v).objs = ch.objs := rfl
@[simp] theorem putF_objs (ch : Chan) (off lo n v : Nat) : (ch.putF off lo n v).objs = ch.objs := rfl
@[simp] theorem setBit_objs (ch : Chan) (off b : Nat) : (ch.setBit off b).objs = ch.objs := rfl
@[simp] theorem setReg_goal (ch : Chan) (off : Nat) (v : W32) : (ch.setReg off v).goal = ch.goal := rfl
@[simp] theorem putF_goal (ch : Chan) (off lo n v : Nat) : (ch.putF off lo n v).goal = ch.goal := rfl
@[simp] theorem setBit_goal (ch : Chan) (off b : Nat) : (ch.setBit off b).goal = ch.goal := rfl
@[simp] theorem setReg_loaded (ch : Chan) (off : Nat) (v : W32) : (ch.setReg off v).loaded = ch.loaded := rfl
@[simp] theorem setReg_bulk (ch : Chan) (off : Nat) (v : W32) : (ch.setReg off v).bulk = ch.bulk := rfl
@[simp] theorem setReg_bulkAt (ch : Chan) (off : Nat) (v : W32) : (ch.setReg off v).bulkAt = ch.bulkAt := rfl
@[simp] theorem putF_loaded (ch : Chan) (off lo n v : Nat) : (ch.putF off lo n v).loaded = ch.loaded := rfl
@[simp] theorem putF_bulk (ch : Chan) (off lo n v : Nat) : (ch.putF off lo n v).bulk = ch.bulk := rfl
@[simp] theorem putF_bulkAt (ch : Chan) (off lo n v : Nat) : (ch.putF off lo n v).bulkAt = ch.bulkAt := rfl
@[simp] theorem setBit_loaded (ch : Chan) (off b : Nat) : (ch.setBit off b).loaded = ch.loaded := rfl
@[simp] theorem setBit_bulk (ch : Chan) (off b : Nat) : (ch.setBit off b).bulk = ch.bulk := rfl
@[simp] theorem setBit_bulkAt (ch : Chan) (off b : Nat) : (ch.setBit off b).bulkAt = ch.bulkAt := rfl
@[simp] theorem setReg_kept (ch : Chan) (off : Nat) (v : W32) : (ch.setReg off v).kept = ch.kept := rfl
@[simp] theorem putF_kept (ch : Chan) (off lo n v : Nat) : (ch.putF off lo n v).kept = ch.kept := rfl
@[simp] theorem setBit_kept (ch : Chan) (off b : Nat) : (ch.setBit off b).kept = ch.kept := rfl
@[simp] theorem setReg_expander (ch : Chan) (off : Nat) (v : W32) : (ch.setReg off v).expander = ch.expander := rfl
@[simp] theorem putF_expander (ch : Chan) (off lo n v : Nat) : (ch.putF off lo n v).expander = ch.expander := rfl
@[simp] theorem setBit_expander (ch : Chan) (off b : Nat) : (ch.setBit off b).expander = ch.expander := rfl
@[simp] theorem setReg_zeroed (ch : Chan) (off : Nat) (v : W32) : (ch.setReg off v).zeroed = ch.zeroed := rfl
@[simp] theorem putF_zeroed (ch : Chan) (off lo n v : Nat) : (ch.putF off lo n v).zeroed = ch.zeroed := rfl
@[simp] theorem setBit_zeroed (ch : Chan) (off b : Nat) : (ch.setBit off b).zeroed = ch.zeroed := rfl
@[simp] theorem setReg_sealed (ch : Chan) (off : Nat) (v : W32) : (ch.setReg off v).sealed = ch.sealed := rfl
@[simp] theorem putF_sealed (ch : Chan) (off lo n v : Nat) : (ch.putF off lo n v).sealed = ch.sealed := rfl
@[simp] theorem setBit_sealed (ch : Chan) (off b : Nat) : (ch.setBit off b).sealed = ch.sealed := rfl
@[simp] theorem setReg_planBad (ch : Chan) (off : Nat) (v : W32) : (ch.setReg off v).planBad = ch.planBad := rfl
@[simp] theorem putF_planBad (ch : Chan) (off lo n v : Nat) : (ch.putF off lo n v).planBad = ch.planBad := rfl
@[simp] theorem setBit_planBad (ch : Chan) (off b : Nat) : (ch.setBit off b).planBad = ch.planBad := rfl
@[simp] theorem setReg_lateSeen (ch : Chan) (off : Nat) (v : W32) : (ch.setReg off v).lateSeen = ch.lateSeen := rfl
@[simp] theorem putF_lateSeen (ch : Chan) (off lo n v : Nat) : (ch.putF off lo n v).lateSeen = ch.lateSeen := rfl
@[simp] theorem setBit_lateSeen (ch : Chan) (off b : Nat) : (ch.setBit off b).lateSeen = ch.lateSeen := rfl
@[simp] theorem setReg_free (ch : Chan) (off : Nat) (v : W32) : (ch.setReg off v).free = ch.free := rfl
@[simp] theorem putF_free (ch : Chan) (off lo n v : Nat) : (ch.putF off lo n v).free = ch.free := rfl
@[simp] theorem setBit_free (ch : Chan) (off b : Nat) : (ch.setBit off b).free = ch.free := rfl
@[simp] theorem setReg_edges (ch : Chan) (off : Nat) (v : W32) : (ch.setReg off v).edges = ch.edges := rfl
@[simp] theorem putF_edges (ch : Chan) (off lo n v : Nat) : (ch.putF off lo n v).edges = ch.edges := rfl
@[simp] theorem setBit_edges (ch : Chan) (off b : Nat) : (ch.setBit off b).edges = ch.edges := rfl
@[simp] theorem setReg_fired (ch : Chan) (off : Nat) (v : W32) : (ch.setReg off v).fired = ch.fired := rfl
@[simp] theorem putF_fired (ch : Chan) (off lo n v : Nat) : (ch.putF off lo n v).fired = ch.fired := rfl
@[simp] theorem setBit_fired (ch : Chan) (off b : Nat) : (ch.setBit off b).fired = ch.fired := rfl
@[simp] theorem setReg_samples (ch : Chan) (off : Nat) (v : W32) : (ch.setReg off v).samples = ch.samples := rfl
@[simp] theorem putF_samples (ch : Chan) (off lo n v : Nat) : (ch.putF off lo n v).samples = ch.samples := rfl
@[simp] theorem setBit_samples (ch : Chan) (off b : Nat) : (ch.setBit off b).samples = ch.samples := rfl
@[simp] theorem setReg_pinSync (ch : Chan) (off : Nat) (v : W32) : (ch.setReg off v).pinSync = ch.pinSync := rfl
@[simp] theorem putF_pinSync (ch : Chan) (off lo n v : Nat) : (ch.putF off lo n v).pinSync = ch.pinSync := rfl
@[simp] theorem setBit_pinSync (ch : Chan) (off b : Nat) : (ch.setBit off b).pinSync = ch.pinSync := rfl

/-! The device with one channel replaced. -/

@[simp] theorem ch_onChan (s : State) (c : Fin 4) (f : Chan → Chan) : (s.onChan c f).ch c = f (s.ch c) := by simp [State.ch, State.onChan]
theorem ch_onChan_of_ne (s : State) {c d : Fin 4} (f : Chan → Chan) (h : d ≠ c) : (s.onChan c f).ch d = s.ch d := by
  simp only [State.ch, State.onChan]
  exact Vector.getElem_set_ne _ _ (fun e => h (Fin.ext e.symm))
@[simp] theorem onChan_mantles (s : State) (c : Fin 4) (f : Chan → Chan) : (s.onChan c f).mantles = s.mantles := rfl
@[simp] theorem onChan_lamp (s : State) (c : Fin 4) (f : Chan → Chan) : (s.onChan c f).lamp = s.lamp := rfl
@[simp] theorem onChan_ring (s : State) (c : Fin 4) (f : Chan → Chan) : (s.onChan c f).ring = s.ring := rfl
@[simp] theorem onChan_pending (s : State) (c : Fin 4) (f : Chan → Chan) : (s.onChan c f).pending = s.pending := rfl
@[simp] theorem mtl_onChan (s : State) (c d : Fin 4) (f : Chan → Chan) : (s.onChan c f).mtl d = s.mtl d := rfl

/-! Writing and reading a register. -/

@[simp] theorem raw_setRaw_g (c : Core) {r : Fin 32} (x : BitVec 129) (h : r ≠ 0) : (c.setRaw (.g r) x).g[r] = x.truncate 64 := by
  simp [Core.setRaw, h]
/-- g0 discards what is written to it (R53). -/
@[simp] theorem put_g0 (c : Core) (d : Nat) (x : BitVec 129) : c.put (.g 0) d x = c := by simp [Core.put]
/-- g0 reads 0 (R53). -/
@[simp] theorem rg_zero (ch : Chan) (w : Fin 8) : ch.rg w 0 = 0#64 := by simp [Chan.rg, Chan.read]

end Sys2Proof.Laws
end

