-- ==== Sys2Proof/Laws/Commit.lean ====
section
/-! SUPPORT. What the commit of a Wick instruction can do: nothing beyond `Chan.Passed`; and how an instruction that issues runs. -/

namespace Sys2Proof.Laws

open Sys2Proof.Machine

variable {w : Fin 8} {a b c : Chan} {m : MantleTable}

theorem counted_refl (w : Fin 8) (a : Chan) : a.Counted w a := ⟨rfl, fun _ _ => rfl, rfl, fun _ _ => rfl⟩

theorem counted_trans (h : a.Counted w b) (k : b.Counted w c) : a.Counted w c := by
  refine ⟨?_, fun v hv => (k.others v hv).trans (h.others v hv), ?_, fun o ho => (k.regs o ho).trans (h.regs o ho)⟩
  · rw [k.rest, h.rest]
  · rw [k.own, h.own]

/-- An update of the core's own bookkeeping. -/
theorem counted_setCore {c : Core} (h : c = { a.core w with
    wact := c.wact, wrem := c.wrem, wovr := c.wovr,
    pmuCond := c.pmuCond, trcLast := c.trcLast, trcBrAt := c.trcBrAt, trcOn := c.trcOn, trcBr := c.trcBr, trcSync := c.trcSync,
    trcSince := c.trcSince, skid := c.skid, trcAddr := c.trcAddr, trcDrop := c.trcDrop, trcMtl := c.trcMtl }) : a.Counted w (a.setCore w c) := by
  refine ⟨rfl, fun v hv => core_setCore_of_ne a c hv, ?_, fun _ _ => rfl⟩
  simp only [core_setCore]; exact h

theorem counted_onCore {f : Core → Core} (h : f (a.core w) = { a.core w with
    wact := (f (a.core w)).wact, wrem := (f (a.core w)).wrem, wovr := (f (a.core w)).wovr,
    pmuCond := (f (a.core w)).pmuCond, trcLast := (f (a.core w)).trcLast, trcBrAt := (f (a.core w)).trcBrAt,
    trcOn := (f (a.core w)).trcOn, trcBr := (f (a.core w)).trcBr, trcSync := (f (a.core w)).trcSync, trcSince := (f (a.core w)).trcSince, skid := (f (a.core w)).skid,
    trcAddr := (f (a.core w)).trcAddr, trcDrop := (f (a.core w)).trcDrop, trcMtl := (f (a.core w)).trcMtl }) : a.Counted w (a.onCore w f) :=
  counted_setCore h

theorem counted_setReg {off : Nat} (v : W32) (h : bookReg w off) : a.Counted w (a.setReg off v) :=
  ⟨rfl, fun _ _ => rfl, rfl, fun _ ho => reg_setReg_of_ne a v fun e => ho (e ▸ h)⟩

theorem counted_putF {off : Nat} (lo n v : Nat) (h : bookReg w off) : a.Counted w (a.putF off lo n v) := counted_setReg _ h
theorem counted_setBit {off : Nat} (n : Nat) (h : bookReg w off) : a.Counted w (a.setBit off n) := counted_setReg _ h

theorem counted_foldl {α : Type} (f : Chan → α → Chan) (hf : ∀ (ch : Chan) (x : α), ch.Counted w (f ch x)) (l : List α) : ∀ ch : Chan, ch.Counted w (l.foldl f ch) := by
  induction l with
  | nil => exact counted_refl w
  | cons x t ih => exact fun ch => counted_trans (hf ch x) (ih _)

theorem book_counter {o : Nat} (w : Fin 8) (h : 0x1000 ≤ o) (h' : o < 0x1200) : bookReg w (pcr w o) := by
  left; simp only [pcr]; omega

/-! Trace. -/

theorem book_trcStat (w : Fin 8) : bookReg w 0x200004 := .inr (.inr (.inl rfl))
theorem book_trcDrop (w : Fin 8) : bookReg w 0x200018 := .inr (.inr (.inr (.inl rfl)))
theorem book_coreStat (w : Fin 8) : bookReg w (pcr w 0x2004) := .inr (.inl rfl)
theorem book_window (w : Fin 8) : bookReg w (0x41004 + w.val * 0x40) := .inr (.inr (.inr (.inr rfl)))

theorem ne_of_book {o off : Nat} (ho : ¬ bookReg w o) (h : bookReg w off) : o ≠ off := fun e => ho (e ▸ h)

/-- The drop of a packet, but for its source. -/
theorem counted_drop (v : W32) (n : Nat) :
    a.Counted w { (a.setReg 0x200018 v).setBit 0x200004 4 with trcDrops := n } :=
  ⟨rfl, fun _ _ => rfl, rfl, fun _ ho =>
    (reg_setBit_of_ne _ 4 (ne_of_book ho (book_trcStat w))).trans (reg_setReg_of_ne a v (ne_of_book ho (book_trcDrop w)))⟩

/-- A packet appended, but for its source. -/
theorem counted_append (x : List Pkt) (y : Nat) : a.Counted w { a with trcBuf := x, trcHead := y } := ⟨rfl, fun _ _ => rfl, rfl, fun _ _ => rfl⟩

theorem counted_postLeft (o : Option Nat) : a.Counted w { a with postLeft := o } := ⟨rfl, fun _ _ => rfl, rfl, fun _ _ => rfl⟩

theorem counted_emit_none (l : List Byte) : a.Counted w (a.emit none l).1 := by
  unfold Chan.emit
  dsimp only
  split
  · exact counted_drop _ _
  · exact counted_append _ _

theorem counted_emit (l : List Byte) : a.Counted w (a.emit (some w) l).1 := by
  unfold Chan.emit
  dsimp only
  split
  · refine counted_trans (b := Chan.onCore _ w fun c => { c with trcDrop := true, trcSync := true }) ?_ (counted_setBit 1 (book_coreStat w))
    exact counted_trans (counted_drop _ _) (counted_onCore rfl)
  · exact counted_trans (b := { a with trcBuf := trimBuf 65536 (a.trcBuf ++ [⟨l⟩]), trcHead := a.trcHead + l.length }) (counted_append _ _)
      (counted_onCore (f := fun c => { c with trcSince := c.trcSince + l.length }) rfl)

theorem counted_pktCore (typ t : Nat) (l : List Byte) : a.Counted w (a.pktCore w typ t l) := by
  unfold Chan.pktCore
  dsimp only
  repeat' split
  all_goals first | exact counted_trans (counted_emit _) (counted_onCore rfl) | exact counted_emit _

theorem counted_flushBr : a.Counted w (a.flushBr w) := by
  unfold Chan.flushBr
  dsimp only
  split
  · exact counted_refl w a
  · have h : a.Counted w (a.setCore w { a.core w with trcBr := [] }) := counted_setCore rfl
    split <;> exact counted_trans h (counted_pktCore _ _ _)

theorem counted_traceStep (pc : W64) (mt : BitVec 12) (t : Nat) : a.Counted w (a.traceStep m w pc mt t) := by
  unfold Chan.traceStep
  dsimp only
  split
  · split
    · exact counted_onCore rfl
    · split
      · exact counted_trans (counted_trans (counted_trans counted_flushBr (counted_pktCore _ _ _)) (counted_onCore rfl)) (counted_putF _ _ _ (book_coreStat w))
      · exact counted_refl w a
  · split
    · exact counted_trans (counted_trans (counted_trans counted_flushBr (counted_pktCore _ _ _)) (counted_putF _ _ _ (book_coreStat w))) (counted_onCore rfl)
    · exact counted_refl w a

theorem counted_flushIf (p : Prop) [Decidable p] (b : Chan) : b.Counted w (if p then b.flushBr w else b) := by
  split
  · exact counted_flushBr
  · exact counted_refl w b

theorem counted_noteBranch (t : Nat) (taken : Bool) : a.Counted w (a.noteBranch w t taken) := by
  have h (b : Chan) : b.Counted w (b.onCore w fun c => { c with trcBr := c.trcBr ++ [taken], trcBrAt := t }) := counted_onCore rfl
  unfold Chan.noteBranch
  dsimp only
  split
  · exact counted_refl w a
  · exact counted_trans (counted_trans (counted_flushIf _ a) (h _)) (counted_flushIf _ _)

theorem counted_traceInd (t : Nat) (target : W64) : a.Counted w (a.traceInd w t target) := by
  unfold Chan.traceInd
  dsimp only
  split
  · exact counted_refl w a
  · exact counted_trans (counted_trans counted_flushBr (counted_pktCore _ _ _)) (counted_onCore rfl)

theorem counted_trigger (src arg : Nat) : a.Counted w (a.trigger src arg) := by
  unfold Chan.trigger
  dsimp only
  have h : ∀ b : Chan, a.Counted w b → ∀ o, a.Counted w ((({ b with postLeft := o } : Chan).setBit 0x200004 2).putF 0x200004 0 2 2) :=
    fun b hb o => counted_trans hb (counted_trans (counted_postLeft o) (counted_trans (counted_setBit 2 (book_trcStat w)) (counted_putF _ _ _ (book_trcStat w))))
  repeat' split
  all_goals first | exact counted_refl w a | exact h _ (counted_emit_none _) _

/-! The counters. -/

theorem counted_overflow (n : Nat) : a.Counted w (a.overflow w n) := by
  unfold Chan.overflow
  dsimp only
  refine counted_trans (counted_setBit n (book_counter (o := 0x1004) w (by decide) (by decide))) ?_
  split
  · exact counted_trans (counted_putF _ _ _ (book_counter (o := 0x1000) w (by decide) (by decide))) (counted_trigger _ _)
  · exact counted_trigger _ _

theorem counted_bump {n k : Nat} (hn : n < 14) : a.Counted w (a.bump w n k) := by
  have h1 : bookReg w (pcr w (0x1100 + n * 8)) := book_counter w (by omega) (by omega)
  have h2 : bookReg w (pcr w (0x1104 + n * 8)) := book_counter w (by omega) (by omega)
  unfold Chan.bump
  dsimp only
  split
  · exact counted_refl w a
  · split
    · exact counted_trans (counted_trans (counted_setReg _ h1) (counted_setReg _ h2)) (counted_overflow n)
    · exact counted_trans (counted_setReg _ h1) (counted_setReg _ h2)

theorem counted_bumpFix {e n k : Nat} (hn : n < 14) : a.Counted w (a.bumpFix m w e n k) := by
  unfold Chan.bumpFix
  dsimp only
  split
  · exact counted_bump hn
  · exact counted_refl w a

theorem counted_foldl_range (k : Nat) (f : Chan → Nat → Chan) (hf : ∀ (ch : Chan) (x : Nat), x < k → ch.Counted w (f ch x)) (ch : Chan) :
    ch.Counted w ((List.range k).foldl f ch) := by
  induction k with
  | zero => exact counted_refl w ch
  | succ k ih =>
    rw [List.range_succ, List.foldl_append]
    exact counted_trans (ih fun ch x hx => hf ch x (by omega)) (hf _ k (by omega))

theorem counted_events (e n : Nat) : a.Counted w (a.events m w e n) := by
  refine counted_foldl_range 8 _ (fun ch i hi => ?_) a
  split
  · exact counted_bump (by omega)
  · exact counted_refl w ch

theorem counted_event (e : Nat) : a.Counted w (a.event m w e) := counted_events e 1

theorem counted_pmuTick (n : Nat) : a.Counted w (a.pmuTick m w n) := by
  unfold Chan.pmuTick
  dsimp only
  refine counted_trans (counted_trans (b := a.bumpFix m w 0 8 n) (counted_bumpFix (by omega)) (counted_events (m := m) 1 n)) ?_
  refine counted_foldl_range 8 _ (fun ch i hi => ?_) _
  split
  · exact counted_refl w ch
  · refine counted_trans ?_ (counted_onCore rfl)
    split
    · exact counted_bump (by omega)
    · exact counted_refl w ch

theorem counted_pmuSlots (p q r t : Nat) : a.Counted w (a.pmuSlots m w p q r t) :=
  counted_trans (counted_trans (counted_trans (counted_bumpFix (by omega)) (counted_bumpFix (by omega))) (counted_bumpFix (by omega)))
    (counted_bumpFix (by omega))

theorem counted_windowLimit : a.Counted w (a.windowLimit w) := by
  have hb : bookReg w (0x41004 + w.val * 0x40) := by simp [bookReg]
  unfold Chan.windowLimit
  dsimp only
  split
  · exact counted_refl w a
  · refine counted_trans (counted_onCore (f := fun c => { c with wact := false, wrem := 0, wovr := true }) rfl) ?_
    simp only [Chan.count16]
    split
    · exact counted_trans (counted_putF _ _ _ hb) (counted_setBit _ hb)
    · exact counted_putF _ _ _ hb

theorem counted_windowTick (n : Nat) : a.Counted w (a.windowTick w n) := by
  unfold Chan.windowTick
  dsimp only
  split
  · exact counted_refl w a
  · split
    · exact counted_setCore rfl
    · exact counted_windowLimit

theorem holdStep_eq (word : W32) (n : Nat) (x : Core) : ∃ h r, x.holdStep word n = { x with hold := h, resv := r } := by
  unfold Core.holdStep
  repeat' split
  all_goals exact ⟨_, _, rfl⟩

theorem counted_ite {p : Prop} [Decidable p] {x y : Chan} (hx : a.Counted w x) (hy : a.Counted w y) : a.Counted w (if p then x else y) := by
  split
  · exact hx
  · exact hy

theorem counted_commitCount (old : Core) (word : W32) (n : Nat) (mis redirect : Bool) :
    a.Counted w (a.commitCount m w old word n mis redirect) := by
  have hs : a.Counted w (a.onCore w fun c => { c with skid := if a.skids w then c.skid + 1 else 0 }) := counted_onCore rfl
  have h := counted_trans hs (counted_trans (counted_trans (counted_pmuTick (m := m) n) (counted_bumpFix (m := m) (e := 1) (n := 9) (k := 1) (by omega))) (counted_events (m := m) 2 1))
  exact counted_trans (counted_ite (counted_trans h (counted_event 3)) (counted_ite (counted_trans h (counted_event 4)) h)) (counted_pmuSlots _ _ _ _)

/-! Passed: what a commit may change besides. -/

theorem passed_of_counted (h : a.Counted w b) : a.Passed w b := by
  refine ⟨h.rest, h.others, ?_, h.regs⟩
  rw [h.own]

theorem passed_refl (w : Fin 8) (a : Chan) : a.Passed w a := passed_of_counted (counted_refl w a)

theorem passed_trans (h : a.Passed w b) (k : b.Passed w c) : a.Passed w c := by
  refine ⟨?_, fun v hv => (k.others v hv).trans (h.others v hv), ?_, fun o ho => (k.regs o ho).trans (h.regs o ho)⟩
  · rw [k.rest, h.rest]
  · rw [k.own, h.own]

/-- PC, CYC, the pairing slot, the predictor and the hold of a core replaced. -/
theorem passed_onCore {f : Core → Core} (h : f (a.core w) = { a.core w with
    pc := (f (a.core w)).pc, cyc := (f (a.core w)).cyc, slotA := (f (a.core w)).slotA, flight := (f (a.core w)).flight, skip := (f (a.core w)).skip,
    woken := (f (a.core w)).woken, shadow := (f (a.core w)).shadow, hold := (f (a.core w)).hold,
    resv := (f (a.core w)).resv, pred := (f (a.core w)).pred }) : a.Passed w (a.onCore w f) := by
  refine ⟨rfl, fun v hv => core_onCore_of_ne a f hv, ?_, fun _ _ => rfl⟩
  simp only [core_onCore]
  rw [h]

theorem counted_pc (h : a.Counted w b) : (b.core w).pc = (a.core w).pc := by rw [h.own]
theorem counted_cyc (h : a.Counted w b) : (b.core w).cyc = (a.core w).cyc := by rw [h.own]

/-- What a commit leaves (R93, R216, R432 to R436, R446): PC is the next, `cost` issue cycles have passed, and nothing else but what
counts and traces commits has changed. -/
theorem commit_passed (old : Core) (word : W32) (npc : W64) (cost : Nat) (mis redirect : Bool) :
    a.Passed w (a.commit m w old word npc cost mis redirect) ∧ ((a.commit m w old word npc cost mis redirect).core w).pc = npc ∧
      ((a.commit m w old word npc cost mis redirect).core w).cyc = (a.core w).cyc + cost := by
  unfold Chan.commit
  generalize (if old.inPair word then cost - 1 else cost) = n
  generalize (if a.leavesSlot w old word redirect then some (⟨old.pc, word⟩ : SlotA) else none) = slot
  have h1 : a.Counted w (a.commitCount m w old word n mis redirect) := counted_commitCount old word n mis redirect
  dsimp only
  generalize a.commitCount m w old word n mis redirect = x at h1
  obtain ⟨hd, rv, e⟩ := holdStep_eq word n { x.core w with pc := npc, cyc := (x.core w).cyc + cost, slotA := slot, skip := false, woken := false, flight := ((x.core w).flight.filter fun f => decide ((x.core w).cyc + cost < f.at' + 7)) ++ [⟨old.pc, word, (x.core w).cyc, old.inPair word⟩] }
  have h3 := counted_trans (counted_windowTick (w := w) (a := x.onCore w fun c => ({ c with pc := npc, cyc := c.cyc + cost, slotA := slot, skip := false, woken := false, flight := (c.flight.filter fun f => decide (c.cyc + cost < f.at' + 7)) ++ [⟨old.pc, word, c.cyc, old.inPair word⟩] } : Core).holdStep word n) n)
    (counted_traceStep (m := m) old.pc old.pcc.mantle (old.cyc - b2n (old.inPair word)))
  refine ⟨passed_trans (passed_trans (passed_of_counted h1) (passed_onCore ?_)) (passed_of_counted h3), ?_, ?_⟩
  · rw [e]
  · rw [counted_pc h3, core_onCore, e]
  · rw [counted_cyc h3, core_onCore, e, ← counted_cyc h1]

/-! How a command of a Wick core runs. -/

variable {s : State} {k : CoreId} {word : W32} {body : MantleTable → Fin 8 → Chan → Res} {ch e : Chan}

theorem setCore_core (ch : Chan) (w : Fin 8) : ch.setCore w (ch.core w) = ch := by
  have h : ch.cores.set w (ch.core w) = ch.cores := Vector.set_getElem_self w.isLt
  simp only [Chan.setCore, h]

theorem holdIssue_eq (word : W32) (c : Core) : ∃ h, c.holdIssue word = { c with hold := h } := by
  unfold Core.holdIssue
  split
  · exact ⟨c.hold, rfl⟩
  · exact ⟨none, rfl⟩

/-- The issue of an instruction changes nothing of its core but the cycle it issues in, the hold of a line, and that a handler's window is not new
any more. -/
theorem pairCycle_eq (ch : Chan) (w : Fin 8) (word : W32) :
    ∃ n h, (ch.pairCycle w word).core w = { ch.core w with cyc := n, hold := h, wnew := false } := by
  unfold Chan.pairCycle
  split <;> simp only [core_onCore]
  · obtain ⟨h, e⟩ := holdIssue_eq word { ch.core w with cyc := (ch.core w).cyc - 1 }
    exact ⟨_, h, by rw [e]⟩
  · obtain ⟨h, e⟩ := holdIssue_eq word (ch.core w)
    exact ⟨(ch.core w).cyc, h, by rw [e]⟩

/-- An instruction that issues and completes commits: PC advances by 4 (R93). -/
theorem wick_next (hi : s.issued k word = some ch) {cost : Nat} (hb : body (s.mtl k.ch) k.w ch = .next e cost) :
    ∃ b : Chan, s.wick k word body = .next (s.onChan k.ch fun _ => b.endStep (s.mtl k.ch) k.w) ∧ e.Passed k.w b ∧ (b.core k.w).pc = ch.pcOf k + 4#64 ∧
      (b.core k.w).cyc = (e.core k.w).cyc + cost := by
  unfold State.issued at hi
  split at hi
  case h_2 => cases hi
  case h_1 c0 h0 =>
    cases hi
    obtain ⟨h1, h2, h3⟩ := commit_passed (w := k.w) (a := e) (m := s.mtl k.ch) (c0.core k.w) word ((c0.core k.w).pc + 4#64) cost false false
    refine ⟨_, ?_, h1, ?_, h3⟩
    · unfold State.wick State.act
      unfold State.ch at h0
      simp only [State.onChan, Chan.insn, h0, hb, Chan.retire]
    · obtain ⟨n, h, e⟩ := pairCycle_eq c0 k.w word
      rw [h2, Chan.pcOf, e]

end Sys2Proof.Laws
end

