-- ==== Sys2Proof/Laws/Dispatch.lean ====
section
/-! SUPPORT. The dispatch, one lemma per command: which meaning `exec` calls; and the step. -/

namespace Sys2Proof.Laws

open Sys2Proof.Machine

variable (s : State)

@[simp] theorem step_front (c : Instr) (rest : List Instr) : step { s with pending := c :: rest } = exec c { s with pending := rest } := rfl
theorem step_idle (h : s.pending = []) : step s = .next s.tick := by simp only [step, h]

@[simp] theorem exec_registerWrite {k insn off size cap val} : exec (.registerWrite k insn off size cap val) s = execRegisterWrite k insn off size cap val s := rfl
@[simp] theorem exec_mbxTxgo {k insn val} : exec (.mbxTxgo k insn val) s = execMbxTxgo k insn val s := rfl
@[simp] theorem exec_mbxRxpop {k insn val} : exec (.mbxRxpop k insn val) s = execMbxRxpop k insn val s := rfl
@[simp] theorem exec_hostPortSlot {c} : exec (.hostPortSlot c) s = execHostPortSlot c s := rfl
@[simp] theorem exec_modeRequestGale {c src tag} : exec (.modeRequestGale c src tag) s = execModeRequestGale c src tag s := rfl
@[simp] theorem exec_modeRequestBreeze {c src tag} : exec (.modeRequestBreeze c src tag) s = execModeRequestBreeze c src tag s := rfl
@[simp] theorem exec_modeRequestDrizzle {c src tag} : exec (.modeRequestDrizzle c src tag) s = execModeRequestDrizzle c src tag s := rfl
@[simp] theorem exec_modeRequestCalm {c src tag} : exec (.modeRequestCalm c src tag) s = execModeRequestCalm c src tag s := rfl
@[simp] theorem exec_modeRequestHaze {c src tag} : exec (.modeRequestHaze c src tag) s = execModeRequestHaze c src tag s := rfl
@[simp] theorem exec_modeRequestDew {c src tag} : exec (.modeRequestDew c src tag) s = execModeRequestDew c src tag s := rfl
@[simp] theorem exec_modeRequestFrost {c src tag} : exec (.modeRequestFrost c src tag) s = execModeRequestFrost c src tag s := rfl
@[simp] theorem exec_modeRequestThaw {c src tag} : exec (.modeRequestThaw c src tag) s = execModeRequestThaw c src tag s := rfl
@[simp] theorem exec_modeTransitionDone {c us rail} : exec (.modeTransitionDone c us rail) s = execModeTransitionDone c us rail s := rfl
@[simp] theorem exec_dewWake {c ev} : exec (.dewWake c ev) s = execDewWake c ev s := rfl
@[simp] theorem exec_coldChannelStart {c x memFail rail} : exec (.coldChannelStart c x memFail rail) s = execColdChannelStart c x memFail rail s := rfl
@[simp] theorem exec_coreRelease {c} : exec (.coreRelease c) s = execCoreRelease c s := rfl
@[simp] theorem exec_channelReset {c ns} : exec (.channelReset c ns) s = execChannelReset c ns s := rfl
@[simp] theorem exec_add {k p rd rs1 rs2} : exec (.add k p rd rs1 rs2) s = execAdd k p rd rs1 rs2 s := rfl
@[simp] theorem exec_sub {k p rd rs1 rs2} : exec (.sub k p rd rs1 rs2) s = execSub k p rd rs1 rs2 s := rfl
@[simp] theorem exec_and {k p rd rs1 rs2} : exec (.and k p rd rs1 rs2) s = execAnd k p rd rs1 rs2 s := rfl
@[simp] theorem exec_or {k p rd rs1 rs2} : exec (.or k p rd rs1 rs2) s = execOr k p rd rs1 rs2 s := rfl
@[simp] theorem exec_xor {k p rd rs1 rs2} : exec (.xor k p rd rs1 rs2) s = execXor k p rd rs1 rs2 s := rfl
@[simp] theorem exec_shl {k p rd rs1 rs2} : exec (.shl k p rd rs1 rs2) s = execShl k p rd rs1 rs2 s := rfl
@[simp] theorem exec_shr {k p rd rs1 rs2} : exec (.shr k p rd rs1 rs2) s = execShr k p rd rs1 rs2 s := rfl
@[simp] theorem exec_sar {k p rd rs1 rs2} : exec (.sar k p rd rs1 rs2) s = execSar k p rd rs1 rs2 s := rfl
@[simp] theorem exec_lts {k p rd rs1 rs2} : exec (.lts k p rd rs1 rs2) s = execLts k p rd rs1 rs2 s := rfl
@[simp] theorem exec_ltu {k p rd rs1 rs2} : exec (.ltu k p rd rs1 rs2) s = execLtu k p rd rs1 rs2 s := rfl
@[simp] theorem exec_min {k p rd rs1 rs2} : exec (.min k p rd rs1 rs2) s = execMin k p rd rs1 rs2 s := rfl
@[simp] theorem exec_max {k p rd rs1 rs2} : exec (.max k p rd rs1 rs2) s = execMax k p rd rs1 rs2 s := rfl
@[simp] theorem exec_minu {k p rd rs1 rs2} : exec (.minu k p rd rs1 rs2) s = execMinu k p rd rs1 rs2 s := rfl
@[simp] theorem exec_maxu {k p rd rs1 rs2} : exec (.maxu k p rd rs1 rs2) s = execMaxu k p rd rs1 rs2 s := rfl
@[simp] theorem exec_rol {k p rd rs1 rs2} : exec (.rol k p rd rs1 rs2) s = execRol k p rd rs1 rs2 s := rfl
@[simp] theorem exec_ror {k p rd rs1 rs2} : exec (.ror k p rd rs1 rs2) s = execRor k p rd rs1 rs2 s := rfl
@[simp] theorem exec_clz {k p rd rs1} : exec (.clz k p rd rs1) s = execClz k p rd rs1 s := rfl
@[simp] theorem exec_ctz {k p rd rs1} : exec (.ctz k p rd rs1) s = execCtz k p rd rs1 s := rfl
@[simp] theorem exec_popc {k p rd rs1} : exec (.popc k p rd rs1) s = execPopc k p rd rs1 s := rfl
@[simp] theorem exec_par {k p rd rs1} : exec (.par k p rd rs1) s = execPar k p rd rs1 s := rfl
@[simp] theorem exec_brev {k p rd rs1} : exec (.brev k p rd rs1) s = execBrev k p rd rs1 s := rfl
@[simp] theorem exec_brevb {k p rd rs1} : exec (.brevb k p rd rs1) s = execBrevb k p rd rs1 s := rfl
@[simp] theorem exec_bswap {k p rd rs1} : exec (.bswap k p rd rs1) s = execBswap k p rd rs1 s := rfl
@[simp] theorem exec_andn {k p rd rs1 rs2} : exec (.andn k p rd rs1 rs2) s = execAndn k p rd rs1 rs2 s := rfl
@[simp] theorem exec_add32 {k p rd rs1 rs2} : exec (.add32 k p rd rs1 rs2) s = execAdd32 k p rd rs1 rs2 s := rfl
@[simp] theorem exec_sub32 {k p rd rs1 rs2} : exec (.sub32 k p rd rs1 rs2) s = execSub32 k p rd rs1 rs2 s := rfl
@[simp] theorem exec_and32 {k p rd rs1 rs2} : exec (.and32 k p rd rs1 rs2) s = execAnd32 k p rd rs1 rs2 s := rfl
@[simp] theorem exec_or32 {k p rd rs1 rs2} : exec (.or32 k p rd rs1 rs2) s = execOr32 k p rd rs1 rs2 s := rfl
@[simp] theorem exec_xor32 {k p rd rs1 rs2} : exec (.xor32 k p rd rs1 rs2) s = execXor32 k p rd rs1 rs2 s := rfl
@[simp] theorem exec_shl32 {k p rd rs1 rs2} : exec (.shl32 k p rd rs1 rs2) s = execShl32 k p rd rs1 rs2 s := rfl
@[simp] theorem exec_shr32 {k p rd rs1 rs2} : exec (.shr32 k p rd rs1 rs2) s = execShr32 k p rd rs1 rs2 s := rfl
@[simp] theorem exec_sar32 {k p rd rs1 rs2} : exec (.sar32 k p rd rs1 rs2) s = execSar32 k p rd rs1 rs2 s := rfl
@[simp] theorem exec_lts32 {k p rd rs1 rs2} : exec (.lts32 k p rd rs1 rs2) s = execLts32 k p rd rs1 rs2 s := rfl
@[simp] theorem exec_ltu32 {k p rd rs1 rs2} : exec (.ltu32 k p rd rs1 rs2) s = execLtu32 k p rd rs1 rs2 s := rfl
@[simp] theorem exec_addi {k p rd rs1 imm} : exec (.addi k p rd rs1 imm) s = execAddi k p rd rs1 imm s := rfl
@[simp] theorem exec_andi {k p rd rs1 imm} : exec (.andi k p rd rs1 imm) s = execAndi k p rd rs1 imm s := rfl
@[simp] theorem exec_ori {k p rd rs1 imm} : exec (.ori k p rd rs1 imm) s = execOri k p rd rs1 imm s := rfl
@[simp] theorem exec_xori {k p rd rs1 imm} : exec (.xori k p rd rs1 imm) s = execXori k p rd rs1 imm s := rfl
@[simp] theorem exec_shli {k p rd rs1 sh} : exec (.shli k p rd rs1 sh) s = execShli k p rd rs1 sh s := rfl
@[simp] theorem exec_shri {k p rd rs1 sh} : exec (.shri k p rd rs1 sh) s = execShri k p rd rs1 sh s := rfl
@[simp] theorem exec_sari {k p rd rs1 sh} : exec (.sari k p rd rs1 sh) s = execSari k p rd rs1 sh s := rfl
@[simp] theorem exec_rori {k p rd rs1 sh} : exec (.rori k p rd rs1 sh) s = execRori k p rd rs1 sh s := rfl
@[simp] theorem exec_ltsi {k p rd rs1 imm} : exec (.ltsi k p rd rs1 imm) s = execLtsi k p rd rs1 imm s := rfl
@[simp] theorem exec_ltui {k p rd rs1 imm} : exec (.ltui k p rd rs1 imm) s = execLtui k p rd rs1 imm s := rfl
@[simp] theorem exec_klo {k p rd imm} : exec (.klo k p rd imm) s = execKlo k p rd imm s := rfl
@[simp] theorem exec_kpc {k p rd imm} : exec (.kpc k p rd imm) s = execKpc k p rd imm s := rfl
@[simp] theorem exec_lsi {k p rd imm} : exec (.lsi k p rd imm) s = execLsi k p rd imm s := rfl
@[simp] theorem exec_mul {k p rd rs1 rs2} : exec (.mul k p rd rs1 rs2) s = execMul k p rd rs1 rs2 s := rfl
@[simp] theorem exec_mulhiSs {k p rd rs1 rs2} : exec (.mulhiSs k p rd rs1 rs2) s = execMulhiSs k p rd rs1 rs2 s := rfl
@[simp] theorem exec_mulhiUu {k p rd rs1 rs2} : exec (.mulhiUu k p rd rs1 rs2) s = execMulhiUu k p rd rs1 rs2 s := rfl
@[simp] theorem exec_mulhiSu {k p rd rs1 rs2} : exec (.mulhiSu k p rd rs1 rs2) s = execMulhiSu k p rd rs1 rs2 s := rfl
@[simp] theorem exec_mulW {k p rd rs1 rs2} : exec (.mulW k p rd rs1 rs2) s = execMulW k p rd rs1 rs2 s := rfl
@[simp] theorem exec_muladd {k p rd rs1 rs2 rs3} : exec (.muladd k p rd rs1 rs2 rs3) s = execMuladd k p rd rs1 rs2 rs3 s := rfl
@[simp] theorem exec_divs {k p rd rs1 rs2} : exec (.divs k p rd rs1 rs2) s = execDivs k p rd rs1 rs2 s := rfl
@[simp] theorem exec_divu {k p rd rs1 rs2} : exec (.divu k p rd rs1 rs2) s = execDivu k p rd rs1 rs2 s := rfl
@[simp] theorem exec_mods {k p rd rs1 rs2} : exec (.mods k p rd rs1 rs2) s = execMods k p rd rs1 rs2 s := rfl
@[simp] theorem exec_modu {k p rd rs1 rs2} : exec (.modu k p rd rs1 rs2) s = execModu k p rd rs1 rs2 s := rfl
@[simp] theorem exec_divsW {k p rd rs1 rs2} : exec (.divsW k p rd rs1 rs2) s = execDivsW k p rd rs1 rs2 s := rfl
@[simp] theorem exec_divuW {k p rd rs1 rs2} : exec (.divuW k p rd rs1 rs2) s = execDivuW k p rd rs1 rs2 s := rfl
@[simp] theorem exec_modsW {k p rd rs1 rs2} : exec (.modsW k p rd rs1 rs2) s = execModsW k p rd rs1 rs2 s := rfl
@[simp] theorem exec_moduW {k p rd rs1 rs2} : exec (.moduW k p rd rs1 rs2) s = execModuW k p rd rs1 rs2 s := rfl
@[simp] theorem exec_longOperationComplete {k e} : exec (.longOperationComplete k e) s = execLongOperationComplete k e s := rfl
@[simp] theorem exec_longOperationFault {k} : exec (.longOperationFault k) s = execLongOperationFault k s := rfl
@[simp] theorem exec_lbs {k p rd rs1 imm} : exec (.lbs k p rd rs1 imm) s = execLbs k p rd rs1 imm s := rfl
@[simp] theorem exec_lbz {k p rd rs1 imm} : exec (.lbz k p rd rs1 imm) s = execLbz k p rd rs1 imm s := rfl
@[simp] theorem exec_lhs {k p rd rs1 imm} : exec (.lhs k p rd rs1 imm) s = execLhs k p rd rs1 imm s := rfl
@[simp] theorem exec_lhz {k p rd rs1 imm} : exec (.lhz k p rd rs1 imm) s = execLhz k p rd rs1 imm s := rfl
@[simp] theorem exec_lws {k p rd rs1 imm} : exec (.lws k p rd rs1 imm) s = execLws k p rd rs1 imm s := rfl
@[simp] theorem exec_lwz {k p rd rs1 imm} : exec (.lwz k p rd rs1 imm) s = execLwz k p rd rs1 imm s := rfl
@[simp] theorem exec_ld {k p rd rs1 imm} : exec (.ld k p rd rs1 imm) s = execLd k p rd rs1 imm s := rfl
@[simp] theorem exec_lv {k p rd rs1 imm} : exec (.lv k p rd rs1 imm) s = execLv k p rd rs1 imm s := rfl
@[simp] theorem exec_sb {k p rs2 rs1 imm} : exec (.sb k p rs2 rs1 imm) s = execSb k p rs2 rs1 imm s := rfl
@[simp] theorem exec_sh {k p rs2 rs1 imm} : exec (.sh k p rs2 rs1 imm) s = execSh k p rs2 rs1 imm s := rfl
@[simp] theorem exec_sw {k p rs2 rs1 imm} : exec (.sw k p rs2 rs1 imm) s = execSw k p rs2 rs1 imm s := rfl
@[simp] theorem exec_sd {k p rs2 rs1 imm} : exec (.sd k p rs2 rs1 imm) s = execSd k p rs2 rs1 imm s := rfl
@[simp] theorem exec_sv {k p rs2 rs1 imm} : exec (.sv k p rs2 rs1 imm) s = execSv k p rs2 rs1 imm s := rfl
@[simp] theorem exec_storeBufferDrain {k} : exec (.storeBufferDrain k) s = execStoreBufferDrain k s := rfl
@[simp] theorem exec_ldf {k p sz rd rs1 off} : exec (.ldf k p sz rd rs1 off) s = execLdf k p sz rd rs1 off s := rfl
@[simp] theorem exec_stf {k p sz rs2 rs1 off} : exec (.stf k p sz rs2 rs1 off) s = execStf k p sz rs2 rs1 off s := rfl
@[simp] theorem exec_farTimeout {k e} : exec (.farTimeout k e) s = execFarTimeout k e s := rfl
@[simp] theorem exec_ll {k p d rd rs1} : exec (.ll k p d rd rs1) s = execLl k p d rd rs1 s := rfl
@[simp] theorem exec_sc {k p d rd rs1 rs2} : exec (.sc k p d rd rs1 rs2) s = execSc k p d rd rs1 rs2 s := rfl
@[simp] theorem exec_llHoldLimit {k} : exec (.llHoldLimit k) s = execLlHoldLimit k s := rfl
@[simp] theorem exec_atswp {k p d rd rs1 rs2} : exec (.atswp k p d rd rs1 rs2) s = execAtswp k p d rd rs1 rs2 s := rfl
@[simp] theorem exec_atadd {k p d rd rs1 rs2} : exec (.atadd k p d rd rs1 rs2) s = execAtadd k p d rd rs1 rs2 s := rfl
@[simp] theorem exec_atand {k p d rd rs1 rs2} : exec (.atand k p d rd rs1 rs2) s = execAtand k p d rd rs1 rs2 s := rfl
@[simp] theorem exec_ator {k p d rd rs1 rs2} : exec (.ator k p d rd rs1 rs2) s = execAtor k p d rd rs1 rs2 s := rfl
@[simp] theorem exec_atmin {k p d rd rs1 rs2} : exec (.atmin k p d rd rs1 rs2) s = execAtmin k p d rd rs1 rs2 s := rfl
@[simp] theorem exec_atmax {k p d rd rs1 rs2} : exec (.atmax k p d rd rs1 rs2) s = execAtmax k p d rd rs1 rs2 s := rfl
@[simp] theorem exec_atcas {k p d rd rs1 rs2 rs3} : exec (.atcas k p d rd rs1 rs2 rs3) s = execAtcas k p d rd rs1 rs2 rs3 s := rfl
@[simp] theorem exec_fence {k p} : exec (.fence k p) s = execFence k p s := rfl
@[simp] theorem exec_fenceSl {k p} : exec (.fenceSl k p) s = execFenceSl k p s := rfl
@[simp] theorem exec_fenceSs {k p} : exec (.fenceSs k p) s = execFenceSs k p s := rfl
@[simp] theorem exec_fenceLl {k p} : exec (.fenceLl k p) s = execFenceLl k p s := rfl
@[simp] theorem exec_ifence {k p} : exec (.ifence k p) s = execIfence k p s := rfl
@[simp] theorem exec_icinv {k p rs1} : exec (.icinv k p rs1) s = execIcinv k p rs1 s := rfl
@[simp] theorem exec_lbar {k p} : exec (.lbar k p) s = execLbar k p s := rfl
@[simp] theorem exec_waitlG {k p rs1} : exec (.waitlG k p rs1) s = execWaitlG k p rs1 s := rfl
@[simp] theorem exec_waitlV {k p rs1} : exec (.waitlV k p rs1) s = execWaitlV k p rs1 s := rfl
@[simp] theorem exec_beq {k p rs1 rs2 off} : exec (.beq k p rs1 rs2 off) s = execBeq k p rs1 rs2 off s := rfl
@[simp] theorem exec_bne {k p rs1 rs2 off} : exec (.bne k p rs1 rs2 off) s = execBne k p rs1 rs2 off s := rfl
@[simp] theorem exec_blt {k p rs1 rs2 off} : exec (.blt k p rs1 rs2 off) s = execBlt k p rs1 rs2 off s := rfl
@[simp] theorem exec_bge {k p rs1 rs2 off} : exec (.bge k p rs1 rs2 off) s = execBge k p rs1 rs2 off s := rfl
@[simp] theorem exec_blo {k p rs1 rs2 off} : exec (.blo k p rs1 rs2 off) s = execBlo k p rs1 rs2 off s := rfl
@[simp] theorem exec_bhs {k p rs1 rs2 off} : exec (.bhs k p rs1 rs2 off) s = execBhs k p rs1 rs2 off s := rfl
@[simp] theorem exec_jl {k p rd off} : exec (.jl k p rd off) s = execJl k p rd off s := rfl
@[simp] theorem exec_jlr {k p rd rs1 imm} : exec (.jlr k p rd rs1 imm) s = execJlr k p rd rs1 imm s := rfl
@[simp] theorem exec_fadd {k p d rd rs1 rs2} : exec (.fadd k p d rd rs1 rs2) s = execFadd k p d rd rs1 rs2 s := rfl
@[simp] theorem exec_fsub {k p d rd rs1 rs2} : exec (.fsub k p d rd rs1 rs2) s = execFsub k p d rd rs1 rs2 s := rfl
@[simp] theorem exec_fmul {k p d rd rs1 rs2} : exec (.fmul k p d rd rs1 rs2) s = execFmul k p d rd rs1 rs2 s := rfl
@[simp] theorem exec_fdiv {k p d rd rs1 rs2} : exec (.fdiv k p d rd rs1 rs2) s = execFdiv k p d rd rs1 rs2 s := rfl
@[simp] theorem exec_fsqrt {k p d rd rs1} : exec (.fsqrt k p d rd rs1) s = execFsqrt k p d rd rs1 s := rfl
@[simp] theorem exec_fmin {k p d rd rs1 rs2} : exec (.fmin k p d rd rs1 rs2) s = execFmin k p d rd rs1 rs2 s := rfl
@[simp] theorem exec_fmax {k p d rd rs1 rs2} : exec (.fmax k p d rd rs1 rs2) s = execFmax k p d rd rs1 rs2 s := rfl
@[simp] theorem exec_fcps {k p d rd rs1 rs2} : exec (.fcps k p d rd rs1 rs2) s = execFcps k p d rd rs1 rs2 s := rfl
@[simp] theorem exec_fcvtp {k p d rd rs1} : exec (.fcvtp k p d rd rs1) s = execFcvtp k p d rd rs1 s := rfl
@[simp] theorem exec_ftoi {k p d rd rs1} : exec (.ftoi k p d rd rs1) s = execFtoi k p d rd rs1 s := rfl
@[simp] theorem exec_ffromi {k p d rd rs1} : exec (.ffromi k p d rd rs1) s = execFfromi k p d rd rs1 s := rfl
@[simp] theorem exec_fbitsG {k p d rd rs1} : exec (.fbitsG k p d rd rs1) s = execFbitsG k p d rd rs1 s := rfl
@[simp] theorem exec_fbitsV {k p d rd rs1} : exec (.fbitsV k p d rd rs1) s = execFbitsV k p d rd rs1 s := rfl
@[simp] theorem exec_fceq {k p d rd rs1 rs2} : exec (.fceq k p d rd rs1 rs2) s = execFceq k p d rd rs1 rs2 s := rfl
@[simp] theorem exec_fclt {k p d rd rs1 rs2} : exec (.fclt k p d rd rs1 rs2) s = execFclt k p d rd rs1 rs2 s := rfl
@[simp] theorem exec_fcle {k p d rd rs1 rs2} : exec (.fcle k p d rd rs1 rs2) s = execFcle k p d rd rs1 rs2 s := rfl
@[simp] theorem exec_fmac {k p d rd rs1 rs2 rs3} : exec (.fmac k p d rd rs1 rs2 rs3) s = execFmac k p d rd rs1 rs2 rs3 s := rfl
@[simp] theorem exec_fmsc {k p d rd rs1 rs2 rs3} : exec (.fmsc k p d rd rs1 rs2 rs3) s = execFmsc k p d rd rs1 rs2 rs3 s := rfl
@[simp] theorem exec_fnmac {k p d rd rs1 rs2 rs3} : exec (.fnmac k p d rd rs1 rs2 rs3) s = execFnmac k p d rd rs1 rs2 rs3 s := rfl
@[simp] theorem exec_fnmsc {k p d rd rs1 rs2 rs3} : exec (.fnmsc k p d rd rs1 rs2 rs3) s = execFnmsc k p d rd rs1 rs2 rs3 s := rfl
@[simp] theorem exec_vectorAdd {k p lane rd rs1 rs2} : exec (.vectorAdd k p lane rd rs1 rs2) s = execVectorAdd k p lane rd rs1 rs2 s := rfl
@[simp] theorem exec_vectorSub {k p lane rd rs1 rs2} : exec (.vectorSub k p lane rd rs1 rs2) s = execVectorSub k p lane rd rs1 rs2 s := rfl
@[simp] theorem exec_vectorMul {k p lane rd rs1 rs2} : exec (.vectorMul k p lane rd rs1 rs2) s = execVectorMul k p lane rd rs1 rs2 s := rfl
@[simp] theorem exec_vectorMin {k p lane rd rs1 rs2} : exec (.vectorMin k p lane rd rs1 rs2) s = execVectorMin k p lane rd rs1 rs2 s := rfl
@[simp] theorem exec_vectorMax {k p lane rd rs1 rs2} : exec (.vectorMax k p lane rd rs1 rs2) s = execVectorMax k p lane rd rs1 rs2 s := rfl
@[simp] theorem exec_vectorAnd {k p lane rd rs1 rs2} : exec (.vectorAnd k p lane rd rs1 rs2) s = execVectorAnd k p lane rd rs1 rs2 s := rfl
@[simp] theorem exec_vectorOr {k p lane rd rs1 rs2} : exec (.vectorOr k p lane rd rs1 rs2) s = execVectorOr k p lane rd rs1 rs2 s := rfl
@[simp] theorem exec_vectorXor {k p lane rd rs1 rs2} : exec (.vectorXor k p lane rd rs1 rs2) s = execVectorXor k p lane rd rs1 rs2 s := rfl
@[simp] theorem exec_vfmaS4 {k p rd rs1 rs2 rs3} : exec (.vfmaS4 k p rd rs1 rs2 rs3) s = execVfmaS4 k p rd rs1 rs2 rs3 s := rfl
@[simp] theorem exec_vfnmaS4 {k p rd rs1 rs2 rs3} : exec (.vfnmaS4 k p rd rs1 rs2 rs3) s = execVfnmaS4 k p rd rs1 rs2 rs3 s := rfl
@[simp] theorem exec_vshuf {k p rd rs1 rs2} : exec (.vshuf k p rd rs1 rs2) s = execVshuf k p rd rs1 rs2 s := rfl
@[simp] theorem exec_vsplatW {k p rd rs1} : exec (.vsplatW k p rd rs1) s = execVsplatW k p rd rs1 s := rfl
@[simp] theorem exec_vextW {k p rd rs1 lane} : exec (.vextW k p rd rs1 lane) s = execVextW k p rd rs1 lane s := rfl
@[simp] theorem exec_tmov {k p cd cs} : exec (.tmov k p cd cs) s = execTmov k p cd cs s := rfl
@[simp] theorem exec_tbase {k p rd cs} : exec (.tbase k p rd cs) s = execTbase k p rd cs s := rfl
@[simp] theorem exec_tlen {k p rd cs} : exec (.tlen k p rd cs) s = execTlen k p rd cs s := rfl
@[simp] theorem exec_tperm {k p rd cs} : exec (.tperm k p rd cs) s = execTperm k p rd cs s := rfl
@[simp] theorem exec_ttag {k p rd cs} : exec (.ttag k p rd cs) s = execTtag k p rd cs s := rfl
@[simp] theorem exec_towner {k p rd cs} : exec (.towner k p rd cs) s = execTowner k p rd cs s := rfl
@[simp] theorem exec_tnarrow {k p cd cs rs2 rs3} : exec (.tnarrow k p cd cs rs2 rs3) s = execTnarrow k p cd cs rs2 rs3 s := rfl
@[simp] theorem exec_ttrim {k p cd cs rs2} : exec (.ttrim k p cd cs rs2) s = execTtrim k p cd cs rs2 s := rfl
@[simp] theorem exec_tshut {k p cd cs rs2} : exec (.tshut k p cd cs rs2) s = execTshut k p cd cs rs2 s := rfl
@[simp] theorem exec_topen {k p cd cs rs2} : exec (.topen k p cd cs rs2) s = execTopen k p cd cs rs2 s := rfl
@[simp] theorem exec_tvoid {k p cd cs} : exec (.tvoid k p cd cs) s = execTvoid k p cd cs s := rfl
@[simp] theorem exec_tjump {k p cd cs rs2} : exec (.tjump k p cd cs rs2) s = execTjump k p cd cs rs2 s := rfl
@[simp] theorem exec_tpcc {k p cd} : exec (.tpcc k p cd) s = execTpcc k p cd s := rfl
@[simp] theorem exec_twithin {k p rd cs1 cs2} : exec (.twithin k p rd cs1 cs2) s = execTwithin k p rd cs1 cs2 s := rfl
@[simp] theorem exec_tld {k p cd rs1 imm} : exec (.tld k p cd rs1 imm) s = execTld k p cd rs1 imm s := rfl
@[simp] theorem exec_tst {k p cs2 rs1 imm} : exec (.tst k p cs2 rs1 imm) s = execTst k p cs2 rs1 imm s := rfl
@[simp] theorem exec_syscall {k p} : exec (.syscall k p) s = execSyscall k p s := rfl
@[simp] theorem exec_brk {k p} : exec (.brk k p) s = execBrk k p s := rfl
@[simp] theorem exec_snuffResponse {c} : exec (.snuffResponse c) s = execSnuffResponse c s := rfl
@[simp] theorem exec_retx {k p} : exec (.retx k p) s = execRetx k p s := rfl
@[simp] theorem exec_srr {k p rd n} : exec (.srr k p rd n) s = execSrr k p rd n s := rfl
@[simp] theorem exec_srw {k p n rs1} : exec (.srw k p n rs1) s = execSrw k p n rs1 s := rfl
@[simp] theorem exec_create {k p cd cs rs2 rs3} : exec (.create k p cd cs rs2 rs3) s = execCreate k p cd cs rs2 rs3 s := rfl
@[simp] theorem exec_brand {k p cd cs rs2 rs3} : exec (.brand k p cd cs rs2 rs3) s = execBrand k p cd cs rs2 rs3 s := rfl
@[simp] theorem exec_tlbinv {k p rs1 rs2} : exec (.tlbinv k p rs1 rs2) s = execTlbinv k p rs1 rs2 s := rfl
@[simp] theorem exec_tlbinvall {k p} : exec (.tlbinvall k p) s = execTlbinvall k p s := rfl
@[simp] theorem exec_crcs8 {k p rd rs1 rs2} : exec (.crcs8 k p rd rs1 rs2) s = execCrcs8 k p rd rs1 rs2 s := rfl
@[simp] theorem exec_crcs16 {k p rd rs1 rs2} : exec (.crcs16 k p rd rs1 rs2) s = execCrcs16 k p rd rs1 rs2 s := rfl
@[simp] theorem exec_crcs32 {k p rd rs1 rs2} : exec (.crcs32 k p rd rs1 rs2) s = execCrcs32 k p rd rs1 rs2 s := rfl
@[simp] theorem exec_crcs64 {k p rd rs1 rs2} : exec (.crcs64 k p rd rs1 rs2) s = execCrcs64 k p rd rs1 rs2 s := rfl
@[simp] theorem exec_movb {k p rd rs1 rs2} : exec (.movb k p rd rs1 rs2) s = execMovb k p rd rs1 rs2 s := rfl
@[simp] theorem exec_fillb {k p rd rs1 rs2} : exec (.fillb k p rd rs1 rs2) s = execFillb k p rd rs1 rs2 s := rfl
@[simp] theorem exec_cmpb {k p rd rs1 rs2} : exec (.cmpb k p rd rs1 rs2) s = execCmpb k p rd rs1 rs2 s := rfl
@[simp] theorem exec_scanb {k p rd rs1 rs2} : exec (.scanb k p rd rs1 rs2) s = execScanb k p rd rs1 rs2 s := rfl
@[simp] theorem exec_crcb {k p rd rs1 rs2 rs3} : exec (.crcb k p rd rs1 rs2 rs3) s = execCrcb k p rd rs1 rs2 rs3 s := rfl
@[simp] theorem exec_waitph {k p rd rs1 slot} : exec (.waitph k p rd rs1 slot) s = execWaitph k p rd rs1 slot s := rfl
@[simp] theorem exec_waitphTimeout {k} : exec (.waitphTimeout k) s = execWaitphTimeout k s := rfl
@[simp] theorem exec_stph {k p rd rs1 rs2 slot} : exec (.stph k p rd rs1 rs2 slot) s = execStph k p rd rs1 rs2 slot s := rfl
@[simp] theorem exec_customerRoutine {k p xop rd rs1 rs2 imm4} : exec (.customerRoutine k p xop rd rs1 rs2 imm4) s = execCustomerRoutine k p xop rd rs1 rs2 imm4 s := rfl
@[simp] theorem exec_undefinedInstruction {k insn} : exec (.undefinedInstruction k insn) s = execUndefinedInstruction k insn s := rfl
@[simp] theorem exec_interruptEntry {k} : exec (.interruptEntry k) s = execInterruptEntry k s := rfl
@[simp] theorem exec_windowLimit {k} : exec (.windowLimit k) s = execWindowLimit k s := rfl
@[simp] theorem exec_flrSwset {k insn val} : exec (.flrSwset k insn val) s = execFlrSwset k insn val s := rfl
@[simp] theorem exec_flrPend {k insn ix val} : exec (.flrPend k insn ix val) s = execFlrPend k insn ix val s := rfl
@[simp] theorem exec_flrActv {k insn ix val} : exec (.flrActv k insn ix val) s = execFlrActv k insn ix val s := rfl
@[simp] theorem exec_flrCorewWovrcnt {k insn rd w} : exec (.flrCorewWovrcnt k insn rd w) s = execFlrCorewWovrcnt k insn rd w s := rfl
@[simp] theorem exec_pcrLoqFault {k insn w val} : exec (.pcrLoqFault k insn w val) s = execPcrLoqFault k insn w val s := rfl
@[simp] theorem exec_flush {k insn w val} : exec (.flush k insn w val) s = execFlush k insn w val s := rfl
@[simp] theorem exec_rds {c w line} : exec (.rds c w line) s = execRds c w line s := rfl
@[simp] theorem exec_rdo {c w line} : exec (.rdo c w line) s = execRdo c w line s := rfl
@[simp] theorem exec_upg {c w line} : exec (.upg c w line) s = execUpg c w line s := rfl
@[simp] theorem exec_evd {c w line} : exec (.evd c w line) s = execEvd c w line s := rfl
@[simp] theorem exec_evn {c w line} : exec (.evn c w line) s = execEvn c w line s := rfl
@[simp] theorem exec_amo {c w op d pa src cmp} : exec (.amo c w op d pa src cmp) s = execAmo c w op d pa src cmp s := rfl
@[simp] theorem exec_ucr {c w pa n} : exec (.ucr c w pa n) s = execUcr c w pa n s := rfl
@[simp] theorem exec_ucw {c w pa n data} : exec (.ucw c w pa n data) s = execUcw c w pa n data s := rfl
@[simp] theorem exec_sns {c w line} : exec (.sns c w line) s = execSns c w line s := rfl
@[simp] theorem exec_sni {c w line} : exec (.sni c w line) s = execSni c w line s := rfl
@[simp] theorem exec_snq {c w slice set} : exec (.snq c w slice set) s = execSnq c w slice set s := rfl
@[simp] theorem exec_rspD {c w line} : exec (.rspD c w line) s = execRspD c w line s := rfl
@[simp] theorem exec_rspN {c w line} : exec (.rspN c w line) s = execRspN c w line s := rfl
@[simp] theorem exec_rspX {c w line} : exec (.rspX c w line) s = execRspX c w line s := rfl
@[simp] theorem exec_dat {c w line} : exec (.dat c w line) s = execDat c w line s := rfl
@[simp] theorem exec_ack {c w line} : exec (.ack c w line) s = execAck c w line s := rfl
@[simp] theorem exec_mrd {c line} : exec (.mrd c line) s = execMrd c line s := rfl
@[simp] theorem exec_mwr {c line} : exec (.mwr c line) s = execMwr c line s := rfl
@[simp] theorem exec_cxlReadResponse {c line held late} : exec (.cxlReadResponse c line held late) s = execCxlReadResponse c line held late s := rfl
@[simp] theorem exec_homeTimeout {c line} : exec (.homeTimeout c line) s = execHomeTimeout c line s := rfl
@[simp] theorem exec_imbalanceWindow {c} : exec (.imbalanceWindow c) s = execImbalanceWindow c s := rfl
@[simp] theorem exec_l3dErrcnt0 {k insn rd} : exec (.l3dErrcnt0 k insn rd) s = execL3dErrcnt0 k insn rd s := rfl
@[simp] theorem exec_l3dErrcnt1 {k insn rd} : exec (.l3dErrcnt1 k insn rd) s = execL3dErrcnt1 k insn rd s := rfl
@[simp] theorem exec_l3dErrcnt2 {k insn rd} : exec (.l3dErrcnt2 k insn rd) s = execL3dErrcnt2 k insn rd s := rfl
@[simp] theorem exec_l3dErrsat {k insn rd} : exec (.l3dErrsat k insn rd) s = execL3dErrsat k insn rd s := rfl
@[simp] theorem exec_flitCrcFailure {c} : exec (.flitCrcFailure c) s = execFlitCrcFailure c s := rfl
@[simp] theorem exec_linkDown {c} : exec (.linkDown c) s = execLinkDown c s := rfl
@[simp] theorem exec_getEventRecords {c recs} : exec (.getEventRecords c recs) s = execGetEventRecords c recs s := rfl
@[simp] theorem exec_mcxErrcnt0 {k insn rd} : exec (.mcxErrcnt0 k insn rd) s = execMcxErrcnt0 k insn rd s := rfl
@[simp] theorem exec_mcxErrcnt1 {k insn rd} : exec (.mcxErrcnt1 k insn rd) s = execMcxErrcnt1 k insn rd s := rfl
@[simp] theorem exec_mcxErrcnt2 {k insn rd} : exec (.mcxErrcnt2 k insn rd) s = execMcxErrcnt2 k insn rd s := rfl
@[simp] theorem exec_mcxErrcnt3 {k insn rd} : exec (.mcxErrcnt3 k insn rd) s = execMcxErrcnt3 k insn rd s := rfl
@[simp] theorem exec_mcxErrsat {k insn rd} : exec (.mcxErrsat k insn rd) s = execMcxErrsat k insn rd s := rfl
@[simp] theorem exec_mcxEvt {k insn rd} : exec (.mcxEvt k insn rd) s = execMcxEvt k insn rd s := rfl
@[simp] theorem exec_mcxHwmclr {k insn val} : exec (.mcxHwmclr k insn val) s = execMcxHwmclr k insn val s := rfl
@[simp] theorem exec_retrain {c x val session} : exec (.retrain c x val session) s = execRetrain c x val session s := rfl
@[simp] theorem exec_encoderCount {c t move e} : exec (.encoderCount c t move e) s = execEncoderCount c t move e s := rfl
@[simp] theorem exec_indexEdge {c t e} : exec (.indexEdge c t e) s = execIndexEdge c t e s := rfl
@[simp] theorem exec_pulseEdge {c t e} : exec (.pulseEdge c t e) s = execPulseEdge c t e s := rfl
@[simp] theorem exec_zeroCrossing {c t e} : exec (.zeroCrossing c t e) s = execZeroCrossing c t e s := rfl
@[simp] theorem exec_ringPhaseSample {c t angle turn newMaster e} : exec (.ringPhaseSample c t angle turn newMaster e) s = execRingPhaseSample c t angle turn newMaster e s := rfl
@[simp] theorem exec_swEdge {k insn t val} : exec (.swEdge k insn t val) s = execSwEdge k insn t val s := rfl
@[simp] theorem exec_swSet {k insn t val} : exec (.swSet k insn t val) s = execSwSet k insn t val s := rfl
@[simp] theorem exec_missingEdge {c t} : exec (.missingEdge c t) s = execMissingEdge c t s := rfl
@[simp] theorem exec_holdoverExpiry {c t} : exec (.holdoverExpiry c t) s = execHoldoverExpiry c t s := rfl
@[simp] theorem exec_trackerRestart {k insn t val} : exec (.trackerRestart k insn t val) s = execTrackerRestart k insn t val s := rfl
@[simp] theorem exec_arm {k insn n val} : exec (.arm k insn n val) s = execArm k insn n val s := rfl
@[simp] theorem exec_softwareCancel {k insn n val} : exec (.softwareCancel k insn n val) s = execSoftwareCancel k insn n val s := rfl
@[simp] theorem exec_slotFiring {c n bwd} : exec (.slotFiring c n bwd) s = execSlotFiring c n bwd s := rfl
@[simp] theorem exec_deadline {c n} : exec (.deadline c n) s = execDeadline c n s := rfl
@[simp] theorem exec_ptbHwmclr {k insn val} : exec (.ptbHwmclr k insn val) s = execPtbHwmclr k insn val s := rfl
@[simp] theorem exec_ptbStphDisc {k insn rd} : exec (.ptbStphDisc k insn rd) s = execPtbStphDisc k insn rd s := rfl
@[simp] theorem exec_run {k insn n val} : exec (.run k insn n val) s = execRun k insn n val s := rfl
@[simp] theorem exec_timerZero {c n} : exec (.timerZero c n) s = execTimerZero c n s := rfl
@[simp] theorem exec_timerPeak {c n} : exec (.timerPeak c n) s = execTimerPeak c n s := rfl
@[simp] theorem exec_compareMatch {c n b} : exec (.compareMatch c n b) s = execCompareMatch c n b s := rfl
@[simp] theorem exec_countWrite {k insn n val} : exec (.countWrite k insn n val) s = execCountWrite k insn n val s := rfl
@[simp] theorem exec_liveCompareWrite {k insn n b val} : exec (.liveCompareWrite k insn n b val) s = execLiveCompareWrite k insn n b val s := rfl
@[simp] theorem exec_syncStart {k insn val} : exec (.syncStart k insn val) s = execSyncStart k insn val s := rfl
@[simp] theorem exec_syncStop {k insn val} : exec (.syncStop k insn val) s = execSyncStop k insn val s := rfl
@[simp] theorem exec_capture {c n m e} : exec (.capture c n m e) s = execCapture c n m e s := rfl
@[simp] theorem exec_capRead {k insn rd n m coincident} : exec (.capRead k insn rd n m coincident) s = execCapRead k insn rd n m coincident s := rfl
@[simp] theorem exec_wdtCtlWrite {k insn val} : exec (.wdtCtlWrite k insn val) s = execWdtCtlWrite k insn val s := rfl
@[simp] theorem exec_service {k insn val} : exec (.service k insn val) s = execService k insn val s := rfl
@[simp] theorem exec_watchdogWarning {c} : exec (.watchdogWarning c) s = execWatchdogWarning c s := rfl
@[simp] theorem exec_watchdogExpiry {c} : exec (.watchdogExpiry c) s = execWatchdogExpiry c s := rfl
@[simp] theorem exec_pioSet {k insn hi val} : exec (.pioSet k insn hi val) s = execPioSet k insn hi val s := rfl
@[simp] theorem exec_pioClr {k insn hi val} : exec (.pioClr k insn hi val) s = execPioClr k insn hi val s := rfl
@[simp] theorem exec_pioTgl {k insn hi val} : exec (.pioTgl k insn hi val) s = execPioTgl k insn hi val s := rfl
@[simp] theorem exec_pinEdge {c pin level} : exec (.pinEdge c pin level) s = execPinEdge c pin level s := rfl
@[simp] theorem exec_pinFunctionChange {k insn pin val} : exec (.pinFunctionChange k insn pin val) s = execPinFunctionChange k insn pin val s := rfl
@[simp] theorem exec_uartTransmit {k insn u val} : exec (.uartTransmit k insn u val) s = execUartTransmit k insn u val s := rfl
@[simp] theorem exec_uartReceivePop {k insn rd u} : exec (.uartReceivePop k insn rd u) s = execUartReceivePop k insn rd u s := rfl
@[simp] theorem exec_characterReceived {c u ch parErr frmErr brk} : exec (.characterReceived c u ch parErr frmErr brk) s = execCharacterReceived c u ch parErr frmErr brk s := rfl
@[simp] theorem exec_characterSent {c u} : exec (.characterSent c u) s = execCharacterSent c u s := rfl
@[simp] theorem exec_rxTimeout {c u} : exec (.rxTimeout c u) s = execRxTimeout c u s := rfl
@[simp] theorem exec_spiTransmit {k insn val} : exec (.spiTransmit k insn val) s = execSpiTransmit k insn val s := rfl
@[simp] theorem exec_spiReceivePop {k insn rd} : exec (.spiReceivePop k insn rd) s = execSpiReceivePop k insn rd s := rfl
@[simp] theorem exec_spiFrameDone {c rx} : exec (.spiFrameDone c rx) s = execSpiFrameDone c rx s := rfl
@[simp] theorem exec_i2cCommand {k insn val} : exec (.i2cCommand k insn val) s = execI2cCommand k insn val s := rfl
@[simp] theorem exec_i2cRxdataPop {k insn rd} : exec (.i2cRxdataPop k insn rd) s = execI2cRxdataPop k insn rd s := rfl
@[simp] theorem exec_i2cByteDone {c rx nack} : exec (.i2cByteDone c rx nack) s = execI2cByteDone c rx nack s := rfl
@[simp] theorem exec_arbitrationLost {c} : exec (.arbitrationLost c) s = execArbitrationLost c s := rfl
@[simp] theorem exec_stretchTimeout {c} : exec (.stretchTimeout c) s = execStretchTimeout c s := rfl
@[simp] theorem exec_ethTxcmd {k insn val} : exec (.ethTxcmd k insn val) s = execEthTxcmd k insn val s := rfl
@[simp] theorem exec_frameSent {c} : exec (.frameSent c) s = execFrameSent c s := rfl
@[simp] theorem exec_frameReceived {c bytes ok} : exec (.frameReceived c bytes ok) s = execFrameReceived c bytes ok s := rfl
@[simp] theorem exec_linkChange {c up speed hdx} : exec (.linkChange c up speed hdx) s = execLinkChange c up speed hdx s := rfl
@[simp] theorem exec_mdioGo {k insn val} : exec (.mdioGo k insn val) s = execMdioGo k insn val s := rfl
@[simp] theorem exec_mdioDone {c data} : exec (.mdioDone c data) s = execMdioDone c data s := rfl
@[simp] theorem exec_ethErrcnt {k insn rd} : exec (.ethErrcnt k insn rd) s = execEthErrcnt k insn rd s := rfl
@[simp] theorem exec_counterOverflow {k b} : exec (.counterOverflow k b) s = execCounterOverflow k b s := rfl
@[simp] theorem exec_traceRun {k insn val} : exec (.traceRun k insn val) s = execTraceRun k insn val s := rfl
@[simp] theorem exec_traceStop {k insn val} : exec (.traceStop k insn val) s = execTraceStop k insn val s := rfl
@[simp] theorem exec_trigger {c ev} : exec (.trigger c ev) s = execTrigger c ev s := rfl
@[simp] theorem exec_swtrigGo {k insn val} : exec (.swtrigGo k insn val) s = execSwtrigGo k insn val s := rfl
@[simp] theorem exec_postEnd {c} : exec (.postEnd c) s = execPostEnd c s := rfl
@[simp] theorem exec_traceStall {c} : exec (.traceStall c) s = execTraceStall c s := rfl
@[simp] theorem exec_traceStallEnd {c} : exec (.traceStallEnd c) s = execTraceStallEnd c s := rfl
@[simp] theorem exec_sweep : exec (.sweep) s = execSweep s := rfl
@[simp] theorem exec_forward {port f} : exec (.forward port f) s = execForward port f s := rfl
@[simp] theorem exec_other {f} : exec (.other f) s = execOther f s := rfl
@[simp] theorem exec_headFrame {port h} : exec (.headFrame port h) s = execHeadFrame port h s := rfl
@[simp] theorem exec_dataFrame {port f} : exec (.dataFrame port f) s = execDataFrame port f s := rfl
@[simp] theorem exec_headReturn {port h ns} : exec (.headReturn port h ns) s = execHeadReturn port h ns s := rfl
@[simp] theorem exec_swMiss : exec (.swMiss) s = execSwMiss s := rfl
@[simp] theorem exec_ringRead {f} : exec (.ringRead f) s = execRingRead f s := rfl
@[simp] theorem exec_ringWrite {f} : exec (.ringWrite f) s = execRingWrite f s := rfl
@[simp] theorem exec_groupRead {f} : exec (.groupRead f) s = execGroupRead f s := rfl
@[simp] theorem exec_mailboxReturn {f} : exec (.mailboxReturn f) s = execMailboxReturn f s := rfl
@[simp] theorem exec_mailboxTimeout {tid} : exec (.mailboxTimeout tid) s = execMailboxTimeout tid s := rfl
@[simp] theorem exec_calibrationRequest {port t1 ok marked} : exec (.calibrationRequest port t1 ok marked) s = execCalibrationRequest port t1 ok marked s := rfl
@[simp] theorem exec_calibrationReturn {port t1 t2 t3 f} : exec (.calibrationReturn port t1 t2 t3 f) s = execCalibrationReturn port t1 t2 t3 f s := rfl
@[simp] theorem exec_calibrationTimer {port} : exec (.calibrationTimer port) s = execCalibrationTimer port s := rfl
@[simp] theorem exec_blockLockLoss {port} : exec (.blockLockLoss port) s = execBlockLockLoss port s := rfl
@[simp] theorem exec_bypassRelease {why} : exec (.bypassRelease why) s = execBypassRelease why s := rfl
@[simp] theorem exec_bypassRetry {testsPass} : exec (.bypassRetry testsPass) s = execBypassRetry testsPass s := rfl
@[simp] theorem exec_holdBypassed {session} : exec (.holdBypassed session) s = execHoldBypassed session s := rfl
@[simp] theorem exec_retryNow {session testsPass} : exec (.retryNow session testsPass) s = execRetryNow session testsPass s := rfl
@[simp] theorem exec_dictionaryRead {c} : exec (.dictionaryRead c) s = execDictionaryRead c s := rfl
@[simp] theorem exec_dictionaryWrite {c} : exec (.dictionaryWrite c) s = execDictionaryWrite c s := rfl
@[simp] theorem exec_declare {c} : exec (.declare c) s = execDeclare c s := rfl
@[simp] theorem exec_challenge {src} : exec (.challenge src) s = execChallenge src s := rfl
@[simp] theorem exec_token {src bytes} : exec (.token src bytes) s = execToken src bytes s := rfl
@[simp] theorem exec_close {src num} : exec (.close src num) s = execClose src num s := rfl
@[simp] theorem exec_sessionExpiry {num} : exec (.sessionExpiry num) s = execSessionExpiry num s := rfl
@[simp] theorem exec_parameterStoreWrite {ok} : exec (.parameterStoreWrite ok) s = execParameterStoreWrite ok s := rfl
@[simp] theorem exec_storeRetry {ok} : exec (.storeRetry ok) s = execStoreRetry ok s := rfl
@[simp] theorem exec_restoreDefaults {session val} : exec (.restoreDefaults session val) s = execRestoreDefaults session val s := rfl
@[simp] theorem exec_digestComputed : exec (.digestComputed) s = execDigestComputed s := rfl
@[simp] theorem exec_enrol {st session bytes} : exec (.enrol st session bytes) s = execEnrol st session bytes s := rfl
@[simp] theorem exec_revoke {st session val} : exec (.revoke st session val) s = execRevoke st session val s := rfl
@[simp] theorem exec_stagedData {item session off bytes} : exec (.stagedData item session off bytes) s = execStagedData item session off bytes s := rfl
@[simp] theorem exec_prepare {item session} : exec (.prepare item session) s = execPrepare item session s := rfl
@[simp] theorem exec_eraseDone {item ok} : exec (.eraseDone item ok) s = execEraseDone item ok s := rfl
@[simp] theorem exec_activate {item session} : exec (.activate item session) s = execActivate item session s := rfl
@[simp] theorem exec_abort {item session} : exec (.abort item session) s = execAbort item session s := rfl
@[simp] theorem exec_fallBack {item session} : exec (.fallBack item session) s = execFallBack item session s := rfl
@[simp] theorem exec_commit {item session} : exec (.commit item session) s = execCommit item session s := rfl
@[simp] theorem exec_firmwareActivationTimeout : exec (.firmwareActivationTimeout) s = execFirmwareActivationTimeout s := rfl
@[simp] theorem exec_poresetN {ns} : exec (.poresetN ns) s = execPoresetN ns s := rfl
@[simp] theorem exec_deviceStart : exec (.deviceStart) s = execDeviceStart s := rfl
@[simp] theorem exec_lamplighterWatchdogExpiry {secs} : exec (.lamplighterWatchdogExpiry secs) s = execLamplighterWatchdogExpiry secs s := rfl
@[simp] theorem exec_thermalTrip : exec (.thermalTrip) s = execThermalTrip s := rfl
@[simp] theorem exec_wakePattern {c ns} : exec (.wakePattern c ns) s = execWakePattern c ns s := rfl
@[simp] theorem exec_wireSleep {c} : exec (.wireSleep c) s = execWireSleep c s := rfl
@[simp] theorem exec_info {c tag payload} : exec (.info c tag payload) s = execInfo c tag payload s := rfl
@[simp] theorem exec_debugChallenge {c tag payload} : exec (.debugChallenge c tag payload) s = execDebugChallenge c tag payload s := rfl
@[simp] theorem exec_debugToken {c tag payload} : exec (.debugToken c tag payload) s = execDebugToken c tag payload s := rfl
@[simp] theorem exec_tokenCheck {c} : exec (.tokenCheck c) s = execTokenCheck c s := rfl
@[simp] theorem exec_drop {c tag payload} : exec (.drop c tag payload) s = execDrop c tag payload s := rfl
@[simp] theorem exec_status {c tag payload} : exec (.status c tag payload) s = execStatus c tag payload s := rfl
@[simp] theorem exec_debugRead {c tag payload} : exec (.debugRead c tag payload) s = execDebugRead c tag payload s := rfl
@[simp] theorem exec_debugWrite {c tag payload} : exec (.debugWrite c tag payload) s = execDebugWrite c tag payload s := rfl
@[simp] theorem exec_authorisationExpiry {c} : exec (.authorisationExpiry c) s = execAuthorisationExpiry c s := rfl
@[simp] theorem exec_withdraw {c session val} : exec (.withdraw c session val) s = execWithdraw c session val s := rfl
@[simp] theorem exec_dbgHaltreq {c val} : exec (.dbgHaltreq c val) s = execDbgHaltreq c val s := rfl
@[simp] theorem exec_halt {k} : exec (.halt k) s = execHalt k s := rfl
@[simp] theorem exec_dbgResume {c val} : exec (.dbgResume c val) s = execDbgResume c val s := rfl
@[simp] theorem exec_dbgStep {c val} : exec (.dbgStep c val) s = execDbgStep c val s := rfl
@[simp] theorem exec_patchCtlWrite {k insn u wire val} : exec (.patchCtlWrite k insn u wire val) s = execPatchCtlWrite k insn u wire val s := rfl
@[simp] theorem exec_blockLockGain {port} : exec (.blockLockGain port) s = execBlockLockGain port s := rfl
@[simp] theorem exec_cxlWriteCompletion {c line ok} : exec (.cxlWriteCompletion c line ok) s = execCxlWriteCompletion c line ok s := rfl
@[simp] theorem exec_heldResponseDelivery {c line} : exec (.heldResponseDelivery c line) s = execHeldResponseDelivery c line s := rfl
@[simp] theorem exec_deadTimeEnd {c n b low} : exec (.deadTimeEnd c n b low) s = execDeadTimeEnd c n b low s := rfl
@[simp] theorem exec_serviceGapExpiry {c} : exec (.serviceGapExpiry c) s = execServiceGapExpiry c s := rfl
@[simp] theorem exec_activationPauseEnd : exec (.activationPauseEnd) s = execActivationPauseEnd s := rfl
@[simp] theorem exec_flashProgramDone {item ok} : exec (.flashProgramDone item ok) s = execFlashProgramDone item ok s := rfl
@[simp] theorem exec_challengeExpiry {src} : exec (.challengeExpiry src) s = execChallengeExpiry src s := rfl
@[simp] theorem exec_debugChallengeExpiry {c} : exec (.debugChallengeExpiry c) s = execDebugChallengeExpiry c s := rfl
@[simp] theorem exec_refusedFrame {c} : exec (.refusedFrame c) s = execRefusedFrame c s := rfl
@[simp] theorem exec_unknownCommand {c code tag payload} : exec (.unknownCommand c code tag payload) s = execUnknownCommand c code tag payload s := rfl
@[simp] theorem exec_syncCycleLimit {k} : exec (.syncCycleLimit k) s = execSyncCycleLimit k s := rfl
@[simp] theorem exec_roomReturns {c} : exec (.roomReturns c) s = execRoomReturns c s := rfl

end Sys2Proof.Laws
end

