-- ==== Sys2Proof/Laws/Fetch.lean ====
section
/-! SUPPORT. What fetching ahead does to a core with fixed costs, which never translates: the checks are kept, and nothing else changes. -/

namespace Sys2Proof.Laws

open Sys2Proof.Machine

variable {m : MantleTable} {ch : Chan} {w : Fin 8}

theorem translate_fixed (h : ch.fixedCore w = true) (va : Nat) (wr ifch : Bool) :
    ch.translate m w va wr ifch = (ch, .ok (va % 2 ^ 48, 0, none)) := by
  simp [Chan.translate, Chan.translates, h]

theorem checkPart_fixed (h : ch.fixedCore w = true) (a : Access) (va : W64) (n : Nat) (split : Bool) :
    (ch.checkPart m w a va n split).1 = ch := by
  simp only [Chan.checkPart, translate_fixed h]
  repeat' split
  all_goals rfl

theorem checkFetchAt_fixed (h : ch.fixedCore w = true) (pc : W64) : (ch.checkFetchAt m w pc).1 = ch := by
  have hp := checkPart_fixed (m := m) h accFetch pc 4 false
  simp only [Chan.checkFetchAt]
  generalize ch.checkPart m w accFetch pc 4 false = r at hp ⊢
  obtain ⟨c, e⟩ := r
  cases hp
  cases e <;> (dsimp only; repeat' split) <;> rfl

theorem keep_fetched (ch : Chan) (w : Fin 8) : ch.onCore w (fun c => { c with fetched := (ch.core w).fetched }) = ch := by
  show ch.setCore w (ch.core w) = ch
  simp [Chan.setCore, Chan.core]

theorem fetchOne_fixed (h : ch.fixedCore w = true) (pc : W64) : ∃ l, ch.fetchOne m w pc = ch.onCore w fun c => { c with fetched := l } := by
  unfold Chan.fetchOne
  split
  · exact ⟨_, (keep_fetched ch w).symm⟩
  · have hp := checkFetchAt_fixed (m := m) h pc
    generalize ch.checkFetchAt m w pc = r at hp ⊢
    obtain ⟨c, e⟩ := r
    cases hp
    exact ⟨_, rfl⟩

theorem fetchPath_fixed (n : Nat) : ∀ {ch : Chan} (sure : Bool) (pc : W64), ch.fixedCore w = true →
    ∃ l, ch.fetchPath m w sure pc n = ch.onCore w fun c => { c with fetched := l } := by
  induction n with
  | zero => exact fun {ch} _ _ _ => ⟨_, (keep_fetched ch w).symm⟩
  | succ n ih =>
    intro ch sure pc h
    simp only [Chan.fetchPath]
    split
    · obtain ⟨l, e⟩ := fetchOne_fixed (m := m) h (ch.fetchNext w pc n)
      rw [e]
      obtain ⟨l', e'⟩ := ih (ch := ch.onCore w fun c => { c with fetched := l }) false (ch.fetchNext w pc n) (by simpa using h)
      exact ⟨l', by rw [e']; simp [Chan.onCore]⟩
    · exact ⟨_, (keep_fetched ch w).symm⟩

/-- On a core with fixed costs the words fetched behind an instruction are kept with their checks, and nothing else changes. -/
theorem fetchAhead_fixed (h : ch.fixedCore w = true) (word : W32) :
    ∃ l, ch.fetchAhead m w word = ch.onCore w fun c => { c with fetched := l } := by
  unfold Chan.fetchAhead
  dsimp only
  split
  · exact ⟨_, (keep_fetched ch w).symm⟩
  · exact fetchPath_fixed _ _ _ h

end Sys2Proof.Laws
end

