-- ==== Sys2Proof/Laws/Memory.lean ====
section
/-! SUPPORT. The addressed memories: a read after a write gives what was written, a write leaves every other byte alone, and every
operation on the Calm store and on HDM keeps the canonical form. -/

namespace Sys2Proof.Laws

open Sys2Proof.Machine

/-- A write leaves every byte outside the written ones alone. -/
theorem byte_writeBytes_other (bs : List Byte) : ∀ (m : Memory) (a x : Nat), x < a ∨ a + bs.length ≤ x →
    Memory.byte (writeBytes m a bs) x = Memory.byte m x := by
  induction bs with
  | nil => intro m a x _; rfl
  | cons b bs ih =>
    intro m a x h
    rw [List.length_cons] at h
    have h' : x < a + 1 ∨ a + 1 + bs.length ≤ x := by omega
    have hne : x ≠ a := by omega
    exact (ih _ _ _ h').trans (spGet_set_other 0#8 0#8 m b hne)

/-- Each written byte reads as written. -/
theorem byte_writeBytes_self (bs : List Byte) : ∀ (m : Memory) (a i : Nat) (h : i < bs.length),
    Memory.byte (writeBytes m a bs) (a + i) = bs[i] := by
  induction bs with
  | nil => intro m a i h; simp at h
  | cons b bs ih =>
    intro m a i h
    cases i with
    | zero =>
      refine (byte_writeBytes_other bs _ (a + 1) (a + 0) (.inl (by omega))).trans ?_
      exact spGet_set_self 0#8 m a b
    | succ i =>
      have := ih (spSet 0#8 m a b) (a + 1) i (by simpa using h)
      rw [show a + (i + 1) = a + 1 + i by omega]
      exact this

/-- A read of the bytes just written gives them back. -/
theorem read_writeBytes (bs : List Byte) : ∀ (m : Memory) (a : Nat), readBytes (writeBytes m a bs) a bs.length = bs := by
  have key : ∀ (n : Nat) (l : List Byte) (m : Memory) (a : Nat), (h : l.length = n) →
      (∀ i (hi : i < l.length), spGet 0#8 m (a + i) = l[i]) → readBytes m a n = l := by
    intro n
    induction n with
    | zero => intro l m a h _; simp at h; simp [h, readBytes]
    | succ n ih =>
      intro l m a h hl
      cases l with
      | nil => simp at h
      | cons b l =>
        have h0 := hl 0 (by simp)
        have ht : readBytes m (a + 1) n = l := ih l m (a + 1) (by simpa using h) (by
          intro i hi
          have := hl (i + 1) (by simpa using hi)
          rw [show a + 1 + i = a + (i + 1) by omega]
          simpa using this)
        simp only [readBytes, ht]
        simp at h0
        rw [h0]
  intro m a
  exact key _ bs _ a rfl (fun i hi => byte_writeBytes_self bs m a i hi)

/-- Writing bytes keeps the canonical form. -/
theorem wf_writeBytes (bs : List Byte) : ∀ {m : Memory} (a : Nat), Memory.wf m = true → Memory.wf (writeBytes m a bs) = true := by
  induction bs with
  | nil => intro m a h; exact h
  | cons b bs ih => intro m a h; exact ih (a + 1) (spWf_set a b h)

/-- Dropping entries keeps the canonical form. -/
theorem wf_filter (p : Nat × Byte → Bool) {m : Memory} (h : Memory.wf m = true) : Memory.wf (m.filter p) = true := by
  have key : ∀ (m : List (Nat × Byte)) (lo : Option Nat), spWfFrom 0#8 lo m = true → spWfFrom 0#8 lo (m.filter p) = true := by
    intro m
    induction m with
    | nil => intro lo _; rfl
    | cons x t ih =>
      obtain ⟨k, v⟩ := x
      intro lo h
      simp only [spWfFrom, Bool.and_eq_true] at h
      by_cases hp : p (k, v) = true
      · rw [List.filter_cons_of_pos hp]
        simp only [spWfFrom, Bool.and_eq_true]
        exact ⟨h.1, ih _ h.2⟩
      · rw [List.filter_cons_of_neg hp]
        have ht := ih _ h.2
        cases lo with
        | none =>
          cases hl : t.filter p with
          | nil => rfl
          | cons y r => rw [hl] at ht; simp [spWfFrom] at ht ⊢; exact ⟨ht.1.2, ht.2⟩
        | some l =>
          have hlk : l < k := by simpa using h.1.1
          exact wfFrom_weaken ht (fun x hx => by cases hx; omega)
  exact key m none h

theorem memoriesWf_iff (ch : Chan) : ch.memoriesWf = true ↔ Memory.wf ch.calm = true ∧ Memory.wf ch.cxl = true := by
  simp [Chan.memoriesWf]

/-- After reset no byte is listed, and the memories of every channel are canonical. -/
theorem reset_memories : ∀ c : Fin 4, (State.reset.ch c).memoriesWf = true := by
  intro c; fin_cases c <;> rfl

/-- An error note of MCX is kept in registers only. -/
theorem mcxErr_memories (ch : Chan) (off lo satBit statBit kind line : Nat) :
    (ch.mcxErr off lo satBit statBit kind line).calm = ch.calm ∧ (ch.mcxErr off lo satBit statBit kind line).cxl = ch.cxl := by
  unfold Chan.mcxErr Chan.count16
  dsimp only
  constructor <;> (split <;> split <;> rfl)

theorem wf_mcxErr {ch : Chan} (off lo satBit statBit kind line : Nat) (h : ch.memoriesWf = true) :
    (ch.mcxErr off lo satBit statBit kind line).memoriesWf = true := by
  rw [memoriesWf_iff] at h ⊢
  have e := mcxErr_memories ch off lo satBit statBit kind line
  exact ⟨e.1 ▸ h.1, e.2 ▸ h.2⟩

/-- What a write at the Calm store controller does to the two memories. -/
theorem calmWrite_memories (ch : Chan) (w : Option (Fin 8)) (pa : Nat) (bytes : List Byte) (tag clean : Bool) :
    (ch.calmWrite w pa bytes tag clean).calm = writeBytes ch.calm pa bytes ∧ (ch.calmWrite w pa bytes tag clean).cxl = ch.cxl := by
  cases w <;> (unfold Chan.calmWrite; dsimp only; split <;> exact ⟨rfl, rfl⟩)

theorem wf_calmWrite {ch : Chan} (w : Option (Fin 8)) (pa : Nat) (bytes : List Byte) (tag clean : Bool) (h : ch.memoriesWf = true) :
    (ch.calmWrite w pa bytes tag clean).memoriesWf = true := by
  rw [memoriesWf_iff] at h ⊢
  have e := calmWrite_memories ch w pa bytes tag clean
  exact ⟨e.1 ▸ wf_writeBytes bytes pa h.1, e.2 ▸ h.2⟩

theorem wf_cxlWrite {ch : Chan} (line : Nat) (data : BitVec 512) (tags : BitVec 4) (poison : Bool) (h : ch.memoriesWf = true) :
    (ch.cxlWrite line data tags poison).memoriesWf = true := by
  unfold Chan.cxlWrite
  split
  · exact wf_mcxErr _ _ _ _ _ _ h
  · rw [memoriesWf_iff] at h ⊢
    exact ⟨h.1, wf_writeBytes _ _ h.2⟩

theorem wf_cxlWritePart {ch : Chan} (pa : Nat) (bytes : List Byte) (tag : Bool) (heal : BitVec 4) (h : ch.memoriesWf = true) :
    (ch.cxlWritePart pa bytes tag heal).memoriesWf = true := by
  unfold Chan.cxlWritePart
  dsimp only
  split
  · exact wf_mcxErr _ _ _ _ _ _ h
  · rw [memoriesWf_iff] at h ⊢
    exact ⟨h.1, wf_writeBytes _ _ h.2⟩

theorem wf_zeroHdm {ch : Chan} (lo hi : Nat) (h : ch.memoriesWf = true) : (ch.zeroHdm lo hi).memoriesWf = true := by
  rw [memoriesWf_iff] at h ⊢
  exact ⟨h.1, wf_filter _ h.2⟩

theorem wf_zeroSealed {ch : Chan} (h : ch.memoriesWf = true) : ch.zeroSealed.memoriesWf = true := by
  unfold Chan.zeroSealed
  split
  · exact h
  · rw [memoriesWf_iff] at h ⊢
    exact ⟨wf_filter _ h.1, h.2⟩

end Sys2Proof.Laws
end

