-- ==== Sys2Proof/Laws/Retire.lean ====
section
/-! SUPPORT. From the body of a Wick instruction to the claim that it retires. -/

namespace Sys2Proof.Laws

open Sys2Proof.Machine

/-- An instruction that issues, and whose body goes on to the next instruction, retires at PC + 4 in the body's cost. -/
theorem retires_of_body {i : Instr} {s : State} {k : CoreId} {word : W32} {body : MantleTable → Fin 8 → Chan → Res} {ch e : Chan}
    {cost : Nat} (hi : s.issued k word = some ch) (hx : exec i s = s.wick k word body)
    (hb : body (s.mtl k.ch) k.w ch = .next e cost) : Retires i s k e (ch.pcOf k + 4#64) cost := by
  obtain ⟨b, h1, h2⟩ := wick_next hi hb
  exact ⟨b, hx.trans h1, h2⟩

/-- An instruction whose body only computes one register retires in one issue cycle with that register's write under way. -/
theorem retires_of_alu {i : Instr} {s : State} {k : CoreId} {word : W32} {f : Chan → Fin 8 → W64} {ch : Chan} {rd : Fin 32} {d : Nat}
    {x : W64} (hi : s.issued k word = some ch) (hx : exec i s = s.wick k word fun _ w ch => ch.alu w rd d (f ch w))
    (hb : f ch k.w = x) : Retires i s k (ch.wg k.w rd d x) (ch.pcOf k + 4#64) 1 :=
  retires_of_body hi hx (by rw [hb]; rfl)

end Sys2Proof.Laws
end

