-- ==== Sys2Proof/WellFormed.lean ====
section
/-! DEFINITION. Which commands the interface can carry at all: the word of a store or load that a register row spells, the lengths and
ranges of frames. `exec` is total on the others too, and where such a command cannot occur its meaning changes nothing or takes the
operand as it stands. -/

namespace Sys2Proof

open Sys2Proof.Machine

/-- A word that stores 32 bits: SW (R66). -/
def isStore32 (insn : BitVec 32) : Bool := majorOf insn == 0x1A

/-- A word that loads 32 bits: LWS or LWZ (R66). -/
def isLoad32 (insn : BitVec 32) : Bool := majorOf insn == 0x14 || majorOf insn == 0x15

/-- The word of a store of a size, or of TST (R66, R198). -/
def isStore (insn : BitVec 32) (size : AccSize) (cap : Bool) : Bool :=
  if cap then majorOf insn == 0x32 else
  match size with | .b1 => majorOf insn == 0x18 | .b2 => majorOf insn == 0x19 | .b4 => majorOf insn == 0x1A | .b8 => majorOf insn == 0x1B | .b16 => majorOf insn == 0x1C

/-- A mode request by a core is a 32-bit store; the Lamplighter's has no tag. -/
def ModeSrc.ok (src : ModeSrc) (tag : BitVec 8) : Bool := match src with | .core _ insn => isStore32 insn | .lamp => tag == 0#8

/-- A head frame carries 4,096 bits of PRESENT and CONSIST and names 1 to 16 data frames (R331). -/
def HeadFrame.ok (h : HeadFrame) : Bool := h.present.length == 512 && h.consist.length == 512 && 1 ≤ h.nfr && h.nfr ≤ 16

/-- A data frame of a sweep (R332). -/
def DataFrame.ok (f : DataFrame) : Bool := 1 ≤ f.fidx && f.fidx ≤ 15 && f.payload.length ≤ 8966

/-- A debug frame's payload holds at most 268 bytes (R412). -/
def wireOk (payload : List (BitVec 8)) : Bool := payload.length ≤ 268

/-- Event records have a listed type (R304). -/
def EventRecord.ok (r : EventRecord) : Bool := r.kind != 0

/-- The well-formed commands. -/
def Instr.wf : Instr → Bool
  | .registerWrite _ insn _ size cap _ => isStore insn size cap
  | .modeRequestGale _ src tag => src.ok tag
  | .modeRequestBreeze _ src tag => src.ok tag
  | .modeRequestDrizzle _ src tag => src.ok tag
  | .modeRequestCalm _ src tag => src.ok tag
  | .modeRequestHaze _ src tag => src.ok tag
  | .modeRequestDew _ src tag => src.ok tag
  | .modeRequestFrost _ src tag => src.ok tag
  | .modeRequestThaw _ src tag => src.ok tag
  | .mbxTxgo _ insn _ => isStore32 insn
  | .mbxRxpop _ insn _ => isStore32 insn
  | .flrSwset _ insn _ => isStore32 insn
  | .flrPend _ insn _ _ => isStore32 insn
  | .flrActv _ insn _ _ => isStore32 insn
  | .pcrLoqFault _ insn _ _ => isStore32 insn
  | .flush _ insn _ _ => isStore32 insn
  | .mcxHwmclr _ insn _ => isStore32 insn
  | .swEdge _ insn _ _ => isStore32 insn
  | .swSet _ insn _ _ => isStore32 insn
  | .trackerRestart _ insn _ _ => isStore32 insn
  | .arm _ insn _ _ => isStore32 insn
  | .softwareCancel _ insn _ _ => isStore32 insn
  | .ptbHwmclr _ insn _ => isStore32 insn
  | .run _ insn _ _ => isStore32 insn
  | .countWrite _ insn _ _ => isStore32 insn
  | .liveCompareWrite _ insn _ _ _ => isStore32 insn
  | .syncStart _ insn _ => isStore32 insn
  | .syncStop _ insn _ => isStore32 insn
  | .wdtCtlWrite _ insn _ => isStore32 insn
  | .service _ insn _ => isStore32 insn
  | .pioSet _ insn _ _ => isStore32 insn
  | .pioClr _ insn _ _ => isStore32 insn
  | .pioTgl _ insn _ _ => isStore32 insn
  | .pinFunctionChange _ insn _ _ => isStore32 insn
  | .uartTransmit _ insn _ _ => isStore32 insn
  | .spiTransmit _ insn _ => isStore32 insn
  | .i2cCommand _ insn _ => isStore32 insn
  | .ethTxcmd _ insn _ => isStore32 insn
  | .mdioGo _ insn _ => isStore32 insn
  | .traceRun _ insn _ => isStore32 insn
  | .traceStop _ insn _ => isStore32 insn
  | .swtrigGo _ insn _ => isStore32 insn
  | .patchCtlWrite _ insn _ wire _ => wire || isStore32 insn
  | .flrCorewWovrcnt _ insn _ _ => isLoad32 insn
  | .l3dErrcnt0 _ insn _ => isLoad32 insn
  | .l3dErrcnt1 _ insn _ => isLoad32 insn
  | .l3dErrcnt2 _ insn _ => isLoad32 insn
  | .l3dErrsat _ insn _ => isLoad32 insn
  | .mcxErrcnt0 _ insn _ => isLoad32 insn
  | .mcxErrcnt1 _ insn _ => isLoad32 insn
  | .mcxErrcnt2 _ insn _ => isLoad32 insn
  | .mcxErrcnt3 _ insn _ => isLoad32 insn
  | .mcxErrsat _ insn _ => isLoad32 insn
  | .mcxEvt _ insn _ => isLoad32 insn
  | .ptbStphDisc _ insn _ => isLoad32 insn
  | .capRead _ insn _ _ _ _ => isLoad32 insn
  | .uartReceivePop _ insn _ _ => isLoad32 insn
  | .spiReceivePop _ insn _ => isLoad32 insn
  | .i2cRxdataPop _ insn _ => isLoad32 insn
  | .ethErrcnt _ insn _ => isLoad32 insn
  | .getEventRecords _ recs => recs.all EventRecord.ok
  | .headFrame _ h => h.ok
  | .headReturn _ h _ => h.ok
  | .dataFrame _ f => f.ok
  | .info _ _ payload => wireOk payload
  | .debugChallenge _ _ payload => wireOk payload
  | .debugToken _ _ payload => wireOk payload
  | .drop _ _ payload => wireOk payload
  | .status _ _ payload => wireOk payload
  | .debugRead _ _ payload => wireOk payload
  | .debugWrite _ _ payload => wireOk payload
  | .unknownCommand _ code _ payload => wireOk payload && !((1 ≤ code.toNat && code.toNat ≤ 5) || code == 0x10#8 || code == 0x11#8)
  | _ => true

end Sys2Proof
end

