-- ==== Sys2Proof/Tests/Slice0.lean ====
section
/-! SUPPORT. Tests: ill-formed commands are refused by WellFormed, words written out from the encodings, single steps whose results come from the
manual's rules, and for each statement with hypotheses a state and operands that meet them. -/

open Sys2Proof Sys2Proof.Machine in
/-- A channel with a general register of core 0 set. -/
def Sys2Proof.Machine.Chan.g (ch : Chan) (r : Fin 32) (x : W64) : Chan := ch.onCore 0 fun c => { c with g := c.g.set r x }

namespace Sys2Proof.Tests

open Sys2Proof.Machine

set_option maxRecDepth 20000
set_option Elab.async false

/-! ## Ill-formed commands -/

def k0 : CoreId := ⟨0, 0⟩

/-- A word of major 0x00, neither a store nor a load. -/
def notAccess : BitVec 32 := 0#32

/-- R66: the rows that are stores of 32 bits refuse another word. -/
theorem test_wf_stores : ∀ i ∈ ([.mbxTxgo k0 0 1, .mbxRxpop k0 0 1, .flrSwset k0 0 1, .flrPend k0 0 0 1, .flrActv k0 0 0 1, .pcrLoqFault k0 0 0 1,
    .flush k0 0 0 1, .mcxHwmclr k0 0 1, .swEdge k0 0 0 1, .swSet k0 0 0 1, .trackerRestart k0 0 0 1, .arm k0 0 0 1, .softwareCancel k0 0 0 1,
    .ptbHwmclr k0 0 1, .run k0 0 0 1, .countWrite k0 0 0 1, .liveCompareWrite k0 0 0 false 1, .syncStart k0 0 1, .syncStop k0 0 1, .wdtCtlWrite k0 0 1,
    .service k0 0 1, .pioSet k0 0 false 1, .pioClr k0 0 false 1, .pioTgl k0 0 false 1, .pinFunctionChange k0 0 0 1, .uartTransmit k0 0 0 1,
    .spiTransmit k0 0 1, .i2cCommand k0 0 1, .ethTxcmd k0 0 1, .mdioGo k0 0 1, .traceRun k0 0 1, .traceStop k0 0 1, .swtrigGo k0 0 1,
    .patchCtlWrite k0 0 0 false 1, .registerWrite k0 0 0 .b4 false 1] : List Instr), i.wf = false := by decide +kernel

/-- R66: the rows that are loads of 32 bits refuse another word. -/
theorem test_wf_loads : ∀ i ∈ ([.flrCorewWovrcnt k0 0 1 0, .l3dErrcnt0 k0 0 1, .l3dErrcnt1 k0 0 1, .l3dErrcnt2 k0 0 1, .l3dErrsat k0 0 1, .mcxErrcnt0 k0 0 1,
    .mcxErrcnt1 k0 0 1, .mcxErrcnt2 k0 0 1, .mcxErrcnt3 k0 0 1, .mcxErrsat k0 0 1, .mcxEvt k0 0 1, .ptbStphDisc k0 0 1, .capRead k0 0 1 0 0 false,
    .uartReceivePop k0 0 1 0, .spiReceivePop k0 0 1, .i2cRxdataPop k0 0 1, .ethErrcnt k0 0 1] : List Instr), i.wf = false := by decide +kernel

/-- R51: a core's mode request is a store, and the Lamplighter's has no tag. -/
theorem test_wf_modes : ∀ f ∈ ([.modeRequestGale, .modeRequestBreeze, .modeRequestDrizzle, .modeRequestCalm, .modeRequestHaze, .modeRequestDew,
    .modeRequestFrost, .modeRequestThaw] : List (Fin 4 → ModeSrc → BitVec 8 → Instr)), (f 0 (.core 0 0) 0).wf = false ∧ (f 0 .lamp 1).wf = false ∧ (f 0 .lamp 0).wf = true := by
  decide +kernel

def head0 : HeadFrame :=
  { fcsOk := true, wrap := false, master := 5, epoch := 1, sweep := 7, nfr := 2, expDig := 0, rAngle := 0, rTurn := 0, delay := 100, standby := 0xFFFF, period := 1000,
    phValid := false, wrapped := false, present := List.replicate 512 0, consist := List.replicate 512 0, dup := false, res := 20 }
def data0 : DataFrame := { fcsOk := true, wrap := false, sweep := 7, fidx := 1, payload := [1, 2, 3, 4] }

/-- R331, R332: bitmaps of another length, no data frame, more than 16, an index or a payload out of range. -/
theorem test_wf_ring : head0.ok = true ∧ data0.ok = true ∧ (Instr.headFrame .a { head0 with present := [] }).wf = false ∧
    (Instr.headReturn .a { head0 with consist := [] } 0).wf = false ∧ (Instr.headFrame .a { head0 with nfr := 0 }).wf = false ∧ (Instr.headFrame .a { head0 with nfr := 17 }).wf = false ∧
    (Instr.dataFrame .a { data0 with fidx := 0 }).wf = false ∧ (Instr.dataFrame .a { data0 with fidx := 16 }).wf = false ∧
    (Instr.dataFrame .a { data0 with payload := List.replicate 8967 0 }).wf = false := by decide +kernel

/-- R412: a payload above 268 bytes; R414: a listed CODE is no unknown command; R304: a record of type 0. -/
theorem test_wf_wire : ∀ i ∈ ([.info 0 0 (List.replicate 269 0), .debugChallenge 0 0 (List.replicate 269 0), .debugToken 0 0 (List.replicate 269 0),
    .drop 0 0 (List.replicate 269 0), .status 0 0 (List.replicate 269 0), .debugRead 0 0 (List.replicate 269 0), .debugWrite 0 0 (List.replicate 269 0),
    .unknownCommand 0 9 0 (List.replicate 269 0), .unknownCommand 0 5 0 [], .unknownCommand 0 0x11 0 []] : List Instr), i.wf = false := by decide +kernel

/-! ## Words written out from the encodings (R55, R56) -/

/-- R format: major [31:26], P [25], rd [24:20], rs1 [19:15], rs2 [14:10], rs3 [9:5], fn [4:0]; ADD, fn 0. -/
theorem test_word_add : encR 0x00 false 1 2 3 0 0 = 0b000000_0_00001_00010_00011_00000_00000#32 := by decide
/-- LD g1, 8(g2): major 0x16, immediate in [14:0]. -/
theorem test_word_ld : encI 0x16 false 1 2 8#15 = 0b010110_0_00001_00010_000000000001000#32 := by decide
/-- BEQ g1, g2, −1: major 0x24. -/
theorem test_word_beq : encI 0x24 true 1 2 (BitVec.ofInt 15 (-1)) = 0b100100_1_00001_00010_111111111111111#32 := by decide
/-- JL g31, 4: major 0x2A, offset in [19:0]. -/
theorem test_word_jl : encU 0x2A false 31 4#20 = 0b101010_0_11111_00000000000000000100#32 := by decide
/-- STPH g1, g2, g3, slot 63: major 0x36, slot in [9:4], fn in [3:0]. -/
theorem test_word_stph : encP false 1 2 3 63 1 = 0b110110_0_00001_00010_00011_111111_0001#32 := by decide
/-- A page 0x3F opcode: imm4 in [9:6], xop in [5:0]. -/
theorem test_word_page3f : encX false 1 2 3 0xF 0x2A = 0b111111_0_00001_00010_00011_1111_101010#32 := by decide

/-! ## States -/

/-- Channel 0 in CALM, its cores as a release leaves them (R400). -/
def released : Chan := { Chan.reset 0 with life := .up, cores := Vector.replicate 8 Core.released, regs := [(0x14, 0x44#32)] }
/-- The same, core 0 in a debugger's step. -/
def calm : Chan := released.onCore 0 fun c => { c with stepping := true }
/-- The same in GALE. -/
def gale : Chan := { calm with regs := [(0x14, 0x11#32)] }
/-- A device that serves, with channel 0 as given. -/
def at' (ch : Chan) : State := { State.reset with chans := #v[ch, Chan.reset 1, Chan.reset 2, Chan.reset 3], lamp := { Lamp.reset with life := .up } }
/-- What channel 0 is after a command. -/
def after (i : Instr) (s : State) : Option Chan := match exec i s with | .next t => some (t.ch 0) | _ => none
def readG (r : Fin 32) (o : Option Chan) : Option W64 := o.map fun ch => (ch.core 0).g[r]
def readPc (o : Option Chan) : Option W64 := o.map fun ch => (ch.core 0).pc

/-! ## Single steps -/

/-- R64: ADD wraps; PC advances by 4. -/
theorem test_add : let o := after (.add k0 false 1 2 3) (at' ((calm.g 2 0xFFFFFFFFFFFFFFFF#64).g 3 2#64)); readG 1 o = some 1#64 ∧ readPc o = some 4#64 := by decide +kernel
/-- R64: SUB takes the second source from the first; SHL uses the low 6 bits of its amount. -/
theorem test_sub : readG 1 (after (.sub k0 false 1 2 3) (at' ((calm.g 2 1#64).g 3 2#64))) = some 0xFFFFFFFFFFFFFFFF#64 := by decide +kernel
theorem test_shl : readG 1 (after (.shl k0 false 1 2 3) (at' ((calm.g 2 1#64).g 3 65#64))) = some 2#64 := by decide +kernel
/-- R52: a write to g0 is discarded. -/
theorem test_g0 : readG 0 (after (.add k0 false 0 2 3) (at' ((calm.g 2 1#64).g 3 2#64))) = some 0#64 := by decide +kernel
/-- R58: the 32-bit sum is sign-extended; KLO sign-extends; LSI shifts in 16 bits. -/
theorem test_add32 : readG 1 (after (.add32 k0 false 1 2 3) (at' ((calm.g 2 0x7FFFFFFF#64).g 3 1#64))) = some 0xFFFFFFFF80000000#64 := by decide +kernel
theorem test_klo : readG 1 (after (.klo k0 false 1 0x80000#20) (at' calm)) = some 0xFFFFFFFFFFF80000#64 := by decide +kernel
theorem test_lsi : readG 1 (after (.lsi k0 false 1 0x1234#16) (at' (calm.g 1 0xABCD#64))) = some 0xABCD1234#64 := by decide +kernel
/-- R65: MULHI of two −1 signed is 0, of the same unsigned 2^64 − 2. -/
theorem test_mulhi : readG 1 (after (.mulhiSs k0 false 1 2 2) (at' (calm.g 2 0xFFFFFFFFFFFFFFFF#64))) = some 0#64 ∧
    readG 1 (after (.mulhiUu k0 false 1 2 2) (at' (calm.g 2 0xFFFFFFFFFFFFFFFF#64))) = some 0xFFFFFFFFFFFFFFFE#64 := by decide +kernel
/-- R65: a quotient by zero is 0; the most negative number by −1 wraps; the remainder has the dividend's sign. -/
theorem test_div : divS 7#64 0#64 = 0#64 ∧ divS 0x8000000000000000#64 0xFFFFFFFFFFFFFFFF#64 = 0x8000000000000000#64 ∧ modS 0xFFFFFFFFFFFFFFF9#64 4#64 = 0xFFFFFFFFFFFFFFFD#64 := by decide +kernel
/-- R70: a taken branch counts from its own PC; R110: in CALM it costs 8 cycles. -/
theorem test_beq : let o := after (.beq k0 false 2 2 (BitVec.ofInt 15 (-2))) (at' (calm.onCore 0 fun c => { c with pc := 0x100#64 }))
    readPc o = some 0xF8#64 ∧ o.map (fun ch => (ch.core 0).cyc) = some 8 := by decide +kernel
/-- R66: a byte stored and read back sign-extended; the load takes it from the store buffer. -/
theorem test_store_load : ((after (.sb k0 false 3 2 0#15) (at' ((calm.g 2 0x1000#64).g 3 0x80#64))).map fun ch => (((ch.core 0).sb).map fun e => (e.part.pa, e.data.toNat % 256))) =
    some [(0x1000, 0x80)] := by decide +kernel
theorem test_load : readG 1 (after (.lbs k0 false 1 2 0#15) (at' ({ calm with calm := [(0x1000, 0x80#8)] }.g 2 0x1000#64))) = some 0xFFFFFFFFFFFFFF80#64 := by decide +kernel
/-- R4: bytes lie lowest first. -/
theorem test_ld : readG 1 (after (.ld k0 false 1 2 0#15) (at' ({ calm with calm := [(0x1000, 1#8), (0x1007, 2#8)] }.g 2 0x1000#64))) = some 0x0200000000000001#64 := by decide +kernel
/-- R71: 1.0 + 1.0 in FP64. -/
theorem test_fadd : (after (.fadd k0 false true 1 2 2) (at' (calm.onCore 0 fun c => { c with v := c.v.set 2 0x3FF0000000000000#128 }))).map (fun ch => (ch.core 0).v[1]) =
    some 0x4000000000000000#128 := by decide +kernel
/-- R197: 8 bytes at the top of the address space are out of c0's range: reason 4. -/
theorem test_fault : taperCheck MantleTable.reset 0#12 (calm.rc 0 0) 0xFFFFFFFFFFFFFFF8#64 8 [0] = some 4 := by decide +kernel
/-- R349: loss of block lock is counted once. -/
theorem test_lock : (match exec (.blockLockLoss .a) { at' calm with ring := { Ring.reset with lock := #v[true, true] } } with
    | .next t => (t.lamp.num 0x2102 3 0, t.ring.stateCode, t.ring.lock) | _ => (9, 9, #v[true, true])) = (1, 4, #v[false, true]) := by decide +kernel
/-- R467: a low of 99 ns changes nothing. -/
theorem test_poreset : (match exec (.poresetN 99) (at' calm) with | .next t => (t.ch 0).life | _ => .frost) = .up := by decide +kernel
/-- FIPS 180-4: the digests of "abc" that the standard's examples give. -/
theorem test_sha256 : sha256 [0x61, 0x62, 0x63] = 0xba7816bf8f01cfea414140de5dae2223b00361a396177a9cb410ff61f20015ad#256 := by decide +kernel
theorem test_sha384 : sha384 [0x61, 0x62, 0x63] = 0xcb00753f45a35e8bb5a03d699ac65007272c32ab0eded1631a8b605a43ff5bed8086072ba1e7cc2358baeca134c825a7#384 := by decide +kernel

/-! ## Witnesses: states and operands that meet the hypotheses of each statement -/

/-- Every word of a list issues on core 0. -/
def allIssue (ch : Chan) (ws : List W32) : Bool := ws.all fun w => ((at' ch).issued k0 w).isSome

/-- An access is granted, reads no poison, and is of one part. -/
def loads (ch : Chan) (a : Access) (va : W64) (n : Nat) (lead : Bool) : Bool :=
  match ch.granted MantleTable.reset 0 a va n with
  | some (c, ps) => (c.loadParts MantleTable.reset 0 lead ps 0).2.2.1.isNone
  | none => false

/-- A far access pending in entry 0 of core 0. -/
def farEnt (write : Bool) : LoqEnt :=
  { st := .pending, op := if write then .stf else .ldf, file := some false, dest := 3, cause := 0, pc := 0x40#64, seq := 0, value := 5#128, dead := none,
    far := some ⟨write, [⟨hdmBase, 8, .farLane⟩], 0, false⟩, held := 0, start := 0, lo := 0, hi := none }
/-- A pending divide. -/
def divEnt : LoqEnt := { farEnt false with op := .idiv, far := none, cause := 0 }
/-- A pending FDIV that raised DZ. -/
def fdivEnt : LoqEnt := { farEnt false with op := .fdiv, far := none, cause := 16 * 8, file := some true }
def withLoq (ch : Chan) (e : LoqEnt) : Chan := ch.onCore 0 fun c => { c with loq := c.loq.set 0 e }
def ent (pa n : Nat) (x : W128) : SbEnt := ⟨⟨pa, n, .calm⟩, x, false, false, false, 0#12, 0, 0⟩

/-- Every entry of the long-operation queue of core 0 faulted. -/
def faultedQueue : Chan := calm.onCore 0 fun c => { c with loq := Vector.replicate 32 { divEnt with st := .faulted, cause := 1 } }

theorem test_hyp_IdleStep : State.reset.pending = [] ∧ (at' calm).pending = [] ∧ State.reset.lamp.booting = none ∧ (∀ c : Fin 4, (State.reset.lamp.item (.image c)).state ≠ 3) ∧
    (State.reset.lamp.item .firmware).state ≠ 3 ∧ (State.reset.lamp.item .patch).state ≠ 3 ∧ State.reset.ring.waiting = [] := by decide +kernel
theorem test_hyp_TablesStaySound : (∀ c, (State.reset.mtl c).Sound) ∧ ∃ t, step State.reset = .next t := by
  refine ⟨fun c => ?_, _, rfl⟩
  have h : State.reset.mtl c = MantleTable.reset := by revert c; decide +kernel
  rw [h]
  refine ⟨rfl, by decide, ?_⟩
  intro i e hi he
  cases i with
  | zero => omega
  | succ i => simp [MantleTable.reset] at he
theorem test_hyp_ChannelsIsolated : siteOf (.snuffResponse 0) = some 0 ∧ (∃ t, exec (.snuffResponse 0) (at' calm) = .next t) := ⟨by decide +kernel, _, rfl⟩
theorem test_hyp_ReaderObtains : (RegRef.g 1) ≠ .g 0 ∧ (RegRef.v 0) ≠ .g 0 ∧ (RegRef.c 15) ≠ .g 0 := by decide
theorem test_hyp_ResultSettles : (RegRef.g 31) ≠ .g 0 ∧ (calm.core 0).cyc + 3 ≤ 3 := by decide +kernel
theorem test_hyp_RegisterWrites : (31 : Fin 32) ≠ 0 ∧ 5 < (6 : Fin 32).val ∧ 5 < (31 : Fin 32).val := by decide
theorem test_hyp_IssuesInCalm : Chan.Quiet ((at' released).ch k0.ch) k0.w := by constructor <;> decide +kernel
/-- A core that waits does not issue. -/
theorem test_hyp_NotIssued : wickOf (.fence k0 false) = some (k0, encR 0x21 false 0 0 0 0 0) ∧
    (match (calm.onCore 0 fun c => { c with wait := .lbar }).issue MantleTable.reset 0 0#32 with | .stop _ => true | _ => false) = true ∧
    (calm.onCore 0 fun c => { c with wait := .lbar }).canIssue 0 = false := by decide +kernel

/-- BREEZE with translation on and nothing in the TLBs. -/
def pccOf (t : Taper) : Chan := { released with regs := [(0x14, 0x22#32)] }.onCore 0 fun c => { c with pcc := t, ttbase := 0x80000000#64 }
theorem test_hyp_FetchFaults : ∀ t ∈ [Taper.null, mkTaper 0 0x1000 0 0x1DF 5 true, mkTaper 0 2 0 0x1DF 0 true, mkTaper 0 0x1000 0 0 0 true],
    let ch := pccOf t; let c := (ch.catchUp MantleTable.reset 0 0#32).core 0
    ch.canIssue 0 = true ∧ (ch.core 0).elem = none ∧ c.elem = none ∧ c.stepping = false ∧ c.dueFault = none ∧ (∀ x ∈ c.fetched, x.pc ≠ c.pc) ∧ ch.wakeHalt MantleTable.reset 0 = false ∧
    (c.pcc.tag = false ∨ c.pcc.latch ≠ 0 ∨ c.pcc.covers 0 4 = false ∨ c.pcc.has 2 = false) := by decide +kernel
theorem test_hyp_IntegerAlu : allIssue calm (Claims.alu.map fun r => encR 0x00 true 1 2 3 0 r.2.1) = true := by decide +kernel
theorem test_hyp_IntegerUnary : allIssue calm (Claims.unary.map fun r => encR 0x00 false 1 2 0 0 r.2.1) = true := by decide +kernel
theorem test_hyp_Integer32 : allIssue calm (Claims.alu32.map fun r => encR 0x0D false 0 31 31 0 r.2.1) = true := by decide +kernel
theorem test_hyp_IntegerImmediate : allIssue calm (Claims.aluImm.map fun r => encI r.2.1 false 1 2 0x7FFF#15) = true ∧
    allIssue calm (Claims.shiftImm.map fun r => encI 0x05 false 1 2 (BitVec.ofNat 15 (r.2.1 * 2 ^ 12 + 63))) = true := by decide +kernel
theorem test_hyp_Constants : allIssue calm [encU 0x08 false 1 0x80000#20, encU 0x09 false 1 1#20, encU 0x0A false 1 0xFFFF#20] = true := by decide +kernel
theorem test_hyp_Multiply : allIssue calm (encR 0x0C false 1 2 3 4 5 :: Claims.mul.map fun r => encR 0x0C false 1 2 3 0 r.2.1) = true := by decide +kernel
theorem test_hyp_Divide : allIssue calm (Claims.div.map fun r => encR 0x0C false 1 2 3 0 r.2.1) = true ∧ (calm.core 0).loqFree ≠ none ∧
    (calm.loqRoom MantleTable.reset 0).2 = true ∧ (faultedQueue.loqRoom MantleTable.reset 0).2 = false := by decide +kernel
theorem test_hyp_LongOperationEnters : (calm.core 0).loqFree = some 0 := by decide +kernel
theorem test_hyp_LongOperationCompletes : ∀ x ∈ [(divEnt, 0#64), (fdivEnt, 0xFFFFFFFFFFFFFFFF#64)], let ch := (withLoq calm x.1).onCore 0 fun c => { c with fpctl := x.2 }
    ch.life = .up ∧ x.1.st = .pending ∧ x.1.far = none ∧ (ch.core 0).unitBusy x.1 = false ∧ (x.1.op = .crcb → (ch.core 0).elem = none) ∧ (ch.core 0).wait = .none ∧
    ((ch.core 0).window x.1).1 ≤ (ch.core 0).cyc ∧ ch.cxlReqs = [] ∧ (fpTrap (if loqFlags x.1 = 0#5 then x.2 else fpctlSet x.2 (loqFlags x.1)) (loqFlags x.1) = 0#5 ↔ x.1 = divEnt) := by decide +kernel
/-- CRCS under a WIDTH of 32 bits, and under the one that is not listed; and the manual's example (R82). -/
theorem test_hyp_CrcSteps : allIssue calm (Claims.crc.map fun r => encR 0x34 false 1 2 3 0 r.2.1) = true ∧ (2 * 2 ^ 32) / 2 ^ 32 % 4 ≠ 3 := by decide +kernel
theorem test_hyp_CrcSteps_widths : (calm.rg 0 3).toNat / 2 ^ 32 % 4 ≠ 3 ∧ ((calm.g 3 0x300000000#64).rg 0 3).toNat / 2 ^ 32 % 4 = 3 := by decide +kernel
theorem test_crc_example : Claims.crcResult 0x61EDC6F41#64 (Claims.crcResult 0x61EDC6F41#64 (-1#64) 0x3837363534333231#64 64) 0x39#64 8 ^^^ 0xFFFFFFFF#64 = 0xE3069283#64 := by decide +kernel
theorem test_hyp_IntegerFields : Claims.isBrevb 1#64 0x80#64 ∧ Claims.isBswap 0x80#64 0x8000000000000000#64 ∧ Claims.isBrev 1#64 0x8000000000000000#64 := by
  unfold Claims.isBrevb Claims.isBswap Claims.isBrev; decide +kernel
theorem test_hyp_DivisionCorners : (0x8000000000000000#64 = 0x8000000000000000#64) ∧ ((0x80000000#64).truncate 32 : W32) = 0x80000000#32 ∧ (calm.core 0).loqFree = some 0 := by decide +kernel

/-- Loads at the last bytes below the save area, and at the first of the store. -/
theorem test_hyp_Loads : allIssue calm (Claims.loads.map fun r => encI r.2.1 false 1 2 0#15) = true ∧ allIssue calm [encI 0x17 false 1 2 0#15, encI 0x31 false 1 2 0#15] = true ∧
    (∀ r ∈ Claims.loads, loads calm accLoad 0#64 r.2.2.1 false = true ∧ loads calm accLoad (BitVec.ofNat 64 (saveBase - r.2.2.1)) r.2.2.1 false = true) ∧
    loads calm accLoad 16#64 16 false = true ∧ loads calm accTld 16#64 16 false = true := by decide +kernel
theorem test_reach : ∀ a ∈ [accLoad, accStore], ∀ n ∈ [1, 2, 4, 8, 16], Chan.CalmReach MantleTable.reset calm 0 (BitVec.ofNat 64 (saveBase - n)) n a.perms := by
  intro a ha n hn
  simp only [List.mem_cons, List.not_mem_nil, or_false] at ha hn
  rcases ha with rfl | rfl <;> rcases hn with rfl | rfl | rfl | rfl | rfl <;> constructor <;> decide +kernel
theorem test_reach_first : ∀ a ∈ [accTld, accTst, accLdf, accStf], Chan.CalmReach MantleTable.reset calm 0 0#64 16 a.perms := by
  intro a ha
  simp only [List.mem_cons, List.not_mem_nil, or_false] at ha
  rcases ha with rfl | rfl | rfl | rfl <;> constructor <;> decide +kernel
theorem test_reach_atomic : ∀ a ∈ [accLL, accSC, accAmo], ∀ n ∈ [4, 8], Chan.CalmReach MantleTable.reset calm 0 (BitVec.ofNat 64 (saveBase - n)) n a.perms := by
  intro a ha n hn
  simp only [List.mem_cons, List.not_mem_nil, or_false] at ha hn
  rcases ha with rfl | rfl | rfl <;> rcases hn with rfl | rfl <;> constructor <;> decide +kernel
theorem test_clear : ∀ n ∈ [1, 2, 4, 8, 16], Chan.CalmClear calm 0 (saveBase - n) n ∧ Chan.CalmClear calm 0 0 n := by
  intro n hn
  simp only [List.mem_cons, List.not_mem_nil, or_false] at hn
  rcases hn with rfl | rfl | rfl | rfl | rfl <;> constructor <;> constructor <;> decide +kernel
/-- A store that covers the load, and none. -/
theorem test_hyp_CalmLoad : Chan.CalmReach MantleTable.reset calm 0 0x1000#64 8 accLoad.perms ∧ Chan.CalmReach MantleTable.reset calm 0 0x1000#64 16 accTld.perms ∧
    calm.farPending 0x1000 8 = [] ∧ setHas calm.calmPois 64 = false ∧
    (let ch := calm.onCore 0 fun c => { c with sb := [ent 0x1000 8 7#128, ent 0x1008 8 9#128] }
     ((ch.core 0).sb.filter fun e => (e.part.attr = .calm || e.part.attr = .cacheable) && laps e.part.pa e.part.n 0x1004 4).getLast? = some (ent 0x1000 8 7#128) ∧ 0x1004 + 4 ≤ 0x1000 + 8) := by
  refine ⟨?_, ?_, ?_⟩
  · constructor <;> decide +kernel
  · constructor <;> decide +kernel
  · decide +kernel
theorem test_hyp_Stores : allIssue calm (Claims.stores.map fun r => encI r.2.1 false 1 2 0#15) = true ∧ allIssue calm [encI 0x1C false 1 2 0#15, encI 0x32 false 1 2 0#15] = true ∧
    (∀ r ∈ Claims.stores, (calm.granted MantleTable.reset 0 accStore (BitVec.ofNat 64 (saveBase - r.2.2)) r.2.2).isSome = true) ∧
    (calm.granted MantleTable.reset 0 accStore 0#64 16).isSome = true ∧ (calm.granted MantleTable.reset 0 accTst 0#64 16).isSome = true ∧ (calm.core 0).sbUsed < 16 := by decide +kernel
theorem test_hyp_StoreDrains : ∀ n ∈ [1, 16], let ch := calm.onCore 0 fun c => { c with sb := [ent 0x1000 n 7#128] }
    ch.life = .up ∧ (ch.core 0).sb = ent 0x1000 n 7#128 :: [] ∧ 0 < n ∧ n ≤ 16 ∧ ch.farPending 0x1000 n = [] ∧ ch.heldBy 0 (0x1000 / 64) = none := by decide +kernel
theorem test_hyp_FarAccesses : allIssue calm [encI 0x1D false 1 2 (BitVec.ofNat 15 (farCode .quad * 4096)), encI 0x1E false 1 2 (BitVec.ofNat 15 (farCode .quad * 4096))] = true ∧
    ({ calm with regs := [(0x14, 0x44#32), (0x60000, 2#32), (0x60004, 1#32)] }.granted MantleTable.reset 0 accLdf (BitVec.ofNat 64 hdmBase) 16).isSome = true ∧
    ({ calm with regs := [(0x14, 0x44#32), (0x60000, 2#32), (0x60004, 1#32)] }.granted MantleTable.reset 0 accStf (BitVec.ofNat 64 hdmBase) 16).isSome = true ∧
    (calm.loqRoom MantleTable.reset 0).2 = true ∧ (faultedQueue.loqRoom MantleTable.reset 0).2 = false ∧ (calm.core 0).loqFree ≠ none ∧
    (calm.core 0).sb ++ (calm.core 0).posted = [] := by decide +kernel
theorem test_hyp_LimitsReached : (∀ w ∈ [false, true], let ch := withLoq calm (farEnt w)
    ch.life = .up ∧ (farEnt w).st = .pending ∧ (farEnt w).far = some ⟨w, [⟨hdmBase, 8, .farLane⟩], 0, false⟩ ∧ (ch.core 0).wait = .none) ∧ (farEnt false).op = .ldf ∧
    ((calm.onCore 0 fun c => { c with hold := some ⟨4, 0, 1⟩ }).core 0).hold ≠ none := by decide +kernel
/-- A far access to the last bytes of the Calm store below the HDM window, a load and a store. -/
theorem test_hyp_LimitsReached_near : ∀ w ∈ [false, true], let pt : Part := ⟨saveBase - 16, 16, .calm⟩; let e := { farEnt w with far := some ⟨w, [pt], 0, false⟩, file := if w then none else some true }
    let ch := withLoq calm e
    e.st = .pending ∧ pt.pa < hdmBase ∧ (∀ (v : Fin 8) (j : Fin 32), (v, j) ≠ (0, 0) → ((ch.core v).loq[j]).far = none) ∧ (ch.core 0).unitBusy e = false ∧ e.op ≠ .crcb ∧
    (ch.core 0).wait = .none ∧ ((ch.core 0).window e).1 ≤ (ch.core 0).cyc ∧ ch.cxlReqs = [] ∧ loqFlags e = 0#5 ∧ setHas ch.calmPois (pt.pa / 64) = false ∧ ch.heldBy 0 (pt.pa / 64) = none ∧
    ((∃ p ∈ [pt], hdmBase ≤ p.pa) ↔ False) := by decide +kernel
theorem test_hyp_LoadLinkedStoreConditional : allIssue calm [encR 0x20 false 1 2 0 0 16, encR 0x20 false 1 2 3 0 17, encR 0x20 false 1 2 3 0 1] = true ∧
    loads calm accLL 0x1000#64 8 true = true ∧ loads calm accLL 0x1000#64 4 true = true ∧ (calm.core 0).sb = [] ∧ calm.farPending 0x1000 8 = [] ∧
    (∀ n ∈ [4, 8], taperCheck MantleTable.reset (calm.core 0).pcc.mantle (calm.rc 0 0) 0x1000#64 n accSC.perms = none) := by decide +kernel
theorem test_hyp_Atomics : allIssue calm (Claims.atomics.map fun r => encR 0x20 false 1 2 3 (if r.2.2 = .cas then 4 else 0) (r.2.1 + 16)) = true ∧
    (∀ n ∈ [4, 8], (match calm.granted MantleTable.reset 0 accAmo 0x1000#64 n with
      | some (c, pt :: _) => !(c.amoDo MantleTable.reset 0 pt .add 1#64 0#64).2.2 | _ => false) = true) ∧
    calm.fixedCore 0 = true ∧ setHas calm.calmPois 64 = false := by decide +kernel
theorem test_hyp_Barriers : allIssue calm ((List.range 5).map fun f => encR 0x21 false 0 0 0 0 f) = true ∧ allIssue calm [encR 0x21 false 0 2 0 0 5] = true ∧
    (match (calm.translate MantleTable.reset 0 0x1000 false false).2 with | .ok _ => true | .error _ => false) = true ∧
    (match ((gale.onCore 0 fun c => { c with ttbase := 0x80000000#64 }).translate MantleTable.reset 0 0x1000 false false).2 with | .ok _ => false | .error _ => true) = true ∧ calm.fixedCore 0 = true ∧
    (let ch := calm.onCore 0 fun c => { c with sb := [ent 0x1000 8 7#128] }
     (∀ e ∈ (ch.core 0).sb, e.part.attr = .calm) ∧ ∀ (v : Fin 8) (i : Fin 32), ((ch.core v).loq[i]).far = none) := by decide +kernel
theorem test_hyp_Waits : allIssue calm [encR 0x21 false 0 0 0 0 6, encR 0x21 false 0 2 0 0 7, encR 0x21 false 0 2 0 0 8] = true ∧
    allIssue (withLoq calm divEnt) [encR 0x21 false 0 0 0 0 6, encR 0x21 false 0 3 0 0 7] = true ∧
    (∀ i : Fin 32, ((calm.core 0).loq[i]).st ≠ .pending) ∧ (∃ i : Fin 32, (((withLoq calm divEnt).core 0).loq[i]).st = .pending) ∧
    ((withLoq calm divEnt).core 0).awaits false 3 = true ∧ (calm.core 0).awaits false 3 = false ∧
    (let ch := released.onCore 0 fun c => { c with wait := .lbar }; (ch.core 0).waitOver = true ∧ (ch.core 0).dueFault = none ∧ (ch.core 0).stepping = false) := by decide +kernel
theorem test_hyp_Branches : allIssue calm (Claims.branches.map fun r => encI r.2.1 false 1 2 0x4000#15) = true := by decide +kernel
theorem test_hyp_Jumps : allIssue calm [encU 0x2A false 1 0x80000#20, encI 0x2B false 1 2 0x7FFF#15] = true := by decide +kernel
theorem test_hyp_FixedTransferCosts : calm.fixedCore 7 = true := by decide +kernel

/-- With every exception disabled, and with every one enabled. -/
theorem test_hyp_ScalarFloat : allIssue calm (Claims.fp.map fun r => encR 0x2C false 1 2 (if r.2.2.2.1 then 3 else 0) 0 (r.2.1 + 16)) = true ∧
    allIssue calm [encR 0x2C false 1 2 3 0 19, encR 0x2C false 1 2 0 0 20] = true ∧
    fpTrap (calm.fpctl 0) 0x1F#5 = 0#5 ∧ fpTrap ((calm.onCore 0 fun c => { c with fpctl := 0xFFFFFFFFFFFFFFFF#64 }).fpctl 0) 0x1F#5 ≠ 0#5 := by decide +kernel
theorem test_hyp_FloatConvert : allIssue calm (Claims.fcmp.map fun r => encR 0x2C false 1 2 3 0 (r.2 + 16)) = true ∧
    allIssue calm ([8, 9, 10, 11, 12].map fun f => encR 0x2C false 1 2 0 0 (f + 16)) = true ∧ fpTrap (calm.fpctl 0) 0x1F#5 = 0#5 := by decide +kernel
theorem test_hyp_FusedFloat : allIssue calm (Claims.fused.map fun r => encR 0x2D false 1 2 3 4 (r.2.1 + 16)) = true := by decide +kernel
theorem test_hyp_CanonicalNan : (unpack (fmtOf true) (fpArith 0 true 0 (qnan (fmtOf true)) 0).1).isNan = true ∧
    (unpack (fmtOf true) (fpFused 0 true 0 (qnan (fmtOf true)) 0 0).1).isNan = true ∧ (unpack (fmtOf true) (fCvt (fmtOf false) (fmtOf true) 0 (qnan (fmtOf false))).1).isNan = true := by decide +kernel
theorem test_hyp_Vectors : allIssue calm (Claims.vectors.map fun r => encR 0x2E false 1 2 3 0 (r.2 + 8 * laneCode .i32)) = true ∧
    allIssue calm [encR 0x2F false 1 2 3 4 0, encR 0x2F false 1 2 3 4 1, encR 0x2F false 1 2 3 0 2, encR 0x2F false 1 2 0 0 3, encR 0x2F false 1 2 3 0 4] = true := by decide +kernel
theorem test_hyp_TaperReads : allIssue calm (Claims.taperFields.map fun r => encR 0x30 false 1 2 0 0 r.2.1) = true ∧
    allIssue calm [encR 0x30 false 1 2 0 0 0, encR 0x30 false 1 2 0 0 10, encR 0x30 false 1 0 0 0 12, encR 0x30 false 1 2 3 0 13] = true := by decide +kernel

def full : Taper := mkTaper 0x1000 0x100 0 0xFFF 0 true
/-- One Taper for each clause: untagged, in range, latched, out of range by one, without Seal, a latch value beyond 0xFD, another party's. -/
theorem test_hyp_TaperDerivations : allIssue calm ([6, 7, 8, 9].map fun f => encR 0x30 false 1 2 3 (if f = 6 then 4 else 0) f) = true ∧
    Taper.null.tag = false ∧ full.tag = true ∧ full.latch = 0 ∧ full.has 7 = true ∧ full.base ≤ 0x1000 ∧ 0x1000 + 0x100 ≤ full.base + full.len ∧ full.base + full.len < 0x1001 + 0x100 ∧
    (full.withLatch 5).latch = 5 ∧ (full.withLatch 5).tag = true ∧ (mkTaper 0x1000 0x100 0 0x07F 0 true).has 7 = false ∧ 0xFD < 0xFE ∧
    inParty MantleTable.reset full.mantle 0#12 = true ∧
    inParty [{ parent := 0, cls := 0, depth := 1 }, { parent := 0, cls := 0, depth := 2 }, { parent := 0, cls := 0, depth := 2 }] 1#12 2#12 = false := by decide +kernel
theorem test_hyp_TaperJump : allIssue calm [encR 0x30 false 1 2 3 0 11] = true ∧ full.has 2 = true ∧ full.has 8 = true ∧ (full.withLatch 0xFF).latch = 0xFF ∧ (full.withLatch 0xFE).latch = 0xFE ∧
    (mkTaper 0 1 0 0x001 0 true).has 2 = false ∧ (mkTaper 0 1 0 0x004 7 true).has 8 = false ∧ (mkTaper 0 1 0 0x004 7 true).has 2 = true := by decide +kernel

def setCore (ch : Chan) (f : Core → Core) : Chan := ch.onCore 0 f
/-- A channel in a mode with further registers, in rising order of offset. -/
def withRegs (ch : Chan) (mode : W32) (l : List (Nat × W32)) : Chan := { ch with regs := (0x14, mode) :: l }
def auth (v : W32) : Chan := withRegs calm 0x44#32 [(0x300000, v)]

/-- BRK with BRKHALT set and a grant at Full over Open and Guarded, and without. -/
theorem test_hyp_CallsAndTraps : allIssue calm [encR 0x33 false 0 0 0 0 0, encR 0x33 false 0 0 0 0 7, 0xFC000000#32 - 0x04000000#32] = true ∧
    definedWord calm.ucode 0x00000018#32 = false ∧
    (let ch := withRegs calm 0x44#32 [(0x300000, 0x0E#32), (0x30000C, 1#32)]
     ch.bit 0x30000C 0 = true ∧ ch.haltAuth MantleTable.reset (ch.core 0).pcc.mantle = true ∧ (ch.core 0).wact = false ∧ (ch.core 0).haltReq = 0#8 ∧ ch.fld (dbgStat 0) 0 2 < 2 ∧
      ∀ i : Fin 32, ((ch.core 0).loq[i]).st = .free) ∧ calm.bit 0x30000C 0 = false := by decide +kernel

/-- A descriptor of level 3 at vector 10, at physical address 0x280 with XDTBASE 0: Tapers of 0x1000 bytes and a stack frame at 0x2000. -/
def descBytes : List (Nat × Byte) :=
  writeBytes (writeBytes (writeBytes (writeBytes [] 0x280 (leBytes (mkTaper 0x100 0x1000 0 0x1FF 0 true).bits.toNat 16))
    0x290 (leBytes (mkTaper 0x1000 0x1000 0 0x1FF 0 true).bits.toNat 16)) 0x2A0 (leBytes (mkTaper 0x2000 0x1000 0 0x1FF 0 true).bits.toNat 16)) 0x2B0 (leBytes (1 + 3 * 2) 16)
def described : Chan := setCore { calm with calm := descBytes, calmTag := [0x28, 0x29, 0x2A] } fun c => { c with mask := 0#3 }
def sysEv : Ev := ⟨10, 0, 0#64, 4#64, 0#32, 0, 0, 0#64⟩
theorem test_hyp_ExceptionEntry_snuff : sysEv.vec < 32 ∧ ((setCore calm fun c => { c with mask := 7#3 }).core 0).mask = 7#3 := by decide +kernel
theorem descField_noBuffer (ch : Chan) (w : Fin 8) (pa : Nat) (h : (ch.core w).sb = []) :
    ch.descField w pa = (BitVec.ofNat 128 (leNat (readBytes ch.calm pa 16)), setHas ch.calmTag (pa / 16)) := by
  simp [Chan.descField, h]
def desc10 : Desc := ⟨mkTaper 0x100 0x1000 0 0x1FF 0 true, mkTaper 0x1000 0x1000 0 0x1FF 0 true, mkTaper 0x2000 0x1000 0 0x1FF 0 true, 7#128⟩
theorem desc_there : described.descriptor MantleTable.reset 0 10 = (described, some desc10) := by
  have h1 : described.settleFar MantleTable.reset (((described.core 0).xdtBase).toNat + 64 * 10) 64 = described := by
    unfold Chan.settleFar
    rw [show described.farPending (((described.core 0).xdtBase).toNat + 64 * 10) 64 = [] by decide +kernel]
    rfl
  have h2 : ∀ pa, described.descField 0 pa = _ := fun pa => descField_noBuffer _ 0 pa (by decide +kernel)
  simp only [Chan.descriptor, h1, h2]
  decide +kernel
theorem entered : (described.enterVec MantleTable.reset 0 sysEv desc10 10 0).2 = true := by decide +kernel
/-- An exception of level 3 at MASK 0 enters through its descriptor. -/
theorem test_hyp_ExceptionEntry : ∃ t, (described.onCore 0 fun c => { c with pend := [], slotA := none, wait := .none }) = described ∧
    described.descriptor MantleTable.reset 0 sysEv.vec = (described, some desc10) ∧
    described.enterVec MantleTable.reset 0 sysEv desc10 sysEv.vec 0 = (t, true) ∧
    (described.core 0).mask ≠ 7#3 ∧ (described.core 0).mask.toNat < desc10.level ∧ (described.core 0).xact.getLsbD sysEv.vec = false := by
  exact ⟨_, rfl, desc_there, Prod.ext rfl entered, by decide +kernel, by decide +kernel, by decide +kernel⟩
/-- The same descriptor is ready for vectors 10, 6 and 160 in a Calm store that holds it at each. -/
def ready (v : Nat) : Chan := setCore { calm with
  calm := (writeBytes [] (64 * v) (leBytes (mkTaper 0x100 0x1000 0 0x1FF 0 true).bits.toNat 16 ++ leBytes (mkTaper 0x1000 0x1000 0 0x1FF 0 true).bits.toNat 16 ++
    leBytes (mkTaper 0x8000 0x1000 0 0x1FF 0 true).bits.toNat 16 ++ leBytes (1 + 3 * 2) 16)), calmTag := [4 * v, 4 * v + 1, 4 * v + 2] } fun c => { c with mask := 0#3 }
theorem test_hyp_EntryReady : ∀ v ∈ [6, 10, 160], Chan.EntryReady (ready v) 0 v ((ready v).descAt (64 * v)) ∧ ((ready v).core 0).mask.toNat < ((ready v).descAt (64 * v)).level ∧
    ((ready v).core 0).mask ≠ 7#3 ∧ ((ready v).core 0).xact.getLsbD v = false := by
  intro v hv
  simp only [List.mem_cons, List.not_mem_nil, or_false] at hv
  rcases hv with rfl | rfl | rfl <;> refine ⟨?_, ?_⟩ <;> first | (constructor <;> decide +kernel) | decide +kernel
/-- A core in an exception whose frame stands at 0x2000, and the same with the frame's tags gone. -/
def frameBytes : List (Nat × Byte) :=
  (List.range 8).foldl (fun m i => writeBytes m (0x2000 + 16 * i) (leBytes ((frameOf (calm.core 0) sysEv 10 0 false)[i]?.getD (0#128, false)).1.toNat 16)) []
def returning (tags : List Nat) : Chan := setCore { calm with calm := frameBytes, calmTag := tags } fun c => { c with
  c := c.c.set 15 (mkTaper 0x2000 0x1000 0 0x1FF 0 true) }
theorem test_hyp_ExceptionReturn : allIssue (returning [0x200, 0x201, 0x202, 0x203]) [encR 0x33 false 0 0 0 0 1] = true ∧
    (∀ i : Fin 32, (((returning []).core 0).loq[i]).st = .free) ∧ ((returning []).core 0).wovr = false ∧
    ∀ x ∈ [(7, [0x200, 0x201, 0x202, 0x203]), (7, [])],
      (match ((((returning x.2).elapse MantleTable.reset 0 (((returning x.2).core 0).drainLeft x.1)).onCore 0 fun c => { c with wait := .none, wact := false, wrem := 0 }).readFrame MantleTable.reset 0) with
      | (_, .ok gs) => decide (forged gs = 0) == (x.2 != []) | _ => false) = true := by decide +kernel
theorem test_hyp_ExceptionReturn_calm : let ch := returning [0x200, 0x201, 0x202, 0x203]; let t := (ch.core 0).c[15]
    ch.fixedCore 0 = true ∧ taperCheck MantleTable.reset (ch.core 0).pcc.mantle t (BitVec.ofNat 64 t.base) 128 [0, 3] = none ∧ t.base % 16 = 0 ∧ t.base + 128 ≤ saveBase ∧
    (ch.core 0).sb = [] ∧ ch.farPending t.base 128 = [] ∧ (∀ i < 8, setHas ch.calmPois ((t.base + 16 * i) / 64) = false) ∧
    forged ((List.range 8).map fun i => (BitVec.ofNat 128 (leNat (readBytes ch.calm (t.base + 16 * i) 16)), setHas ch.calmTag ((t.base + 16 * i) / 16))) = 0 := by decide +kernel

/-- The special registers 0, 3, 5, 6, 7 and 8 stand at the ends of the ranges of R104. -/
theorem test_hyp_SpecialRegisters : allIssue calm ([0, 3, 5, 6, 7, 8, 31].map fun n => encR 0x33 false 1 n 0 0 2) = true ∧
    allIssue calm ([0, 3, 4, 5, 6, 31].map fun n => encR 0x33 false n 1 0 0 3) = true ∧ (calm.core 0).pcc.has 5 = true ∧
    ((pccOf (mkTaper 0 0x1000 0 0x1DF 0 true)).core 0).pcc.has 5 = false := by decide +kernel
theorem test_hyp_MantleOperations : allIssue calm [encR 0x33 false 1 0 2 3 4] = true ∧ (calm.core 0).pcc.has 5 = true ∧
    taperOwn MantleTable.reset 0#12 (calm.rc 0 0) = none ∧ taperOwn MantleTable.reset 0#12 Taper.null = some 1 ∧
    MantleTable.reset[(0 : Nat)]? = some { parent := 0#12, cls := 0#2, depth := 1 } ∧ MantleTable.reset.length < 4096 := by decide +kernel
theorem test_hyp_TlbInvalidation : allIssue calm [encR 0x33 false 0 1 2 0 5, encR 0x33 false 0 0 0 0 6] = true ∧ (calm.core 0).pcc.has 5 = true ∧
    ((pccOf (mkTaper 0 0x1000 0 0x1DF 0 true)).core 0).pcc.has 5 = false := by decide +kernel

/-- Registers for a move of 64 bytes from 0x1000 to 0x2000. -/
def block : Chan := ((calm.g 1 0x2000#64).g 2 0x1000#64).g 3 64#64
theorem test_hyp_BlockRepeat : allIssue block ((List.range 5).map fun f => encR 0x35 false 1 2 3 (if f = 4 then 4 else 0) f) = true ∧
    (block.grantedElem MantleTable.reset 0 accStore (block.rg 0 1) 64).isSome = true ∧
    (match block.grantedElem MantleTable.reset 0 accLoad (block.rg 0 2) 64 with
     | some (c, ps) => let r := c.loadParts MantleTable.reset 0 false (elemUnits ps) 0; r.2.2.1.isNone && !r.2.2.2 | none => false) = true ∧
    block.rg 0 3 ≠ 0#64 ∧ (1 : Fin 32) ≠ 0 ∧ (1 : Fin 32) ≠ 2 ∧ (2 : Fin 32) ≠ 3 := by decide +kernel

/-- Elements of 64 and of 1 byte at the ends of the store below the save area. -/
theorem test_hyp_BlockRepeat_calm : (∀ x ∈ [(0x1000, 64), (0x0FC1, 64), (saveBase - 64, 64), (saveBase - 1, 1)],
      Chan.ElemReach MantleTable.reset block 0 (BitVec.ofNat 64 x.1) x.2 [0] ∧ Chan.ElemReach MantleTable.reset block 0 (BitVec.ofNat 64 x.1) x.2 [1] ∧ Chan.ElemClear block x.1 x.2) ∧
    ∀ j : Fin 32, ((block.core 0).loq[j]).st = .free := by
  refine ⟨?_, by decide +kernel⟩
  intro x hx
  simp only [List.mem_cons, List.not_mem_nil, or_false] at hx
  rcases hx with rfl | rfl | rfl | rfl <;> refine ⟨?_, ?_, ?_⟩ <;> constructor <;> decide +kernel

/-- Slot 63 armed, released, and neither. -/
theorem test_hyp_PhaseInstructions : allIssue calm [encP false 1 2 0 63 0, encP false 1 2 3 63 1] = true ∧
    calm.relBit 0 63 = false ∧ calm.armed 63 = false ∧ (withRegs calm 0x44#32 [(nb 63, 1#32)]).armed 63 = true ∧
    (calm.granted MantleTable.reset 0 accStph (BitVec.ofNat 64 (ctrlBase + 0x30100)) 4).isSome = true ∧ calm.stph.length < 128 ∧
    ((setCore calm fun c => { c with wait := .waitph 63 1 (some 0) }).core 0).wait = .waitph 63 1 (some 0) ∧
    ((setCore calm fun c => { c with wait := .waitph 63 1 (some 0) }).core 0).dueFault = none := by decide +kernel
theorem test_ctrl_reach : ∀ off ∈ [0x10, 0x10014, 0x20030, 0x30100, 0x300108, 0xFFFFFC], ∀ p ∈ [[0], [1]],
    Chan.CtrlReach MantleTable.reset calm 0 (BitVec.ofNat 64 (0xF0000000 + off)) p := by
  intro off ho p hp
  simp only [List.mem_cons, List.not_mem_nil, or_false] at ho hp
  rcases ho with rfl | rfl | rfl | rfl | rfl | rfl <;> rcases hp with rfl | rfl <;> constructor <;> decide +kernel

/-- Opcode 0 claimed by a routine that is END alone, and one that adds. -/
def endStore : Ucode := { micro := [0xC0000#20], nano := [], claim := 1#64, entry := [0x1C00#16], patch := false, pMicro := [], pNano := [], redir := [] }
def addStore : Ucode := { micro := [0x00380#20, 0xC0000#20], nano := [BitVec.ofNat 144 (1 + 0 * 2 ^ 4 + 1 * 2 ^ 10 + 2 * 2 ^ 15 + 3 * 2 ^ 20)], claim := 1#64, entry := [0x1C00#16], patch := false, pMicro := [], pNano := [], redir := [] }
theorem test_hyp_Routines : definedWord calm.ucode (encX false 1 2 3 0 0) = false ∧
    (∀ u ∈ [endStore, addStore], definedWord u (encX false 1 2 3 0 0) = true ∧ allIssue { calm with ucode := u } [encX false 1 2 3 0 0] = true ∧
      0x1C00 ≤ (nth 0#16 u.entry 0).toNat % 2 ^ 13) ∧ (calm.core 0).elem = none ∧ calm.badWords = [] ∧
    ({ calm with ucode := endStore, badWords := [⟨0, false, 0x1C00⟩] }).badWords.contains ⟨0, false, (nth 0#16 endStore.entry 0).toNat % 2 ^ 13⟩ = true ∧
    (nth 0xC0000#20 endStore.micro 0).toNat / 2 ^ 18 = 3 ∧ (nth 0xC0000#20 addStore.micro 0).toNat / 2 ^ 18 = 0 ∧ (nth 0xC0000#20 addStore.micro 1).toNat / 2 ^ 18 = 3 ∧
    (let ν := (nth 0#144 addStore.nano ((nth 0xC0000#20 addStore.micro 0).toNat % 1024 - 0x380)).toNat
     ν % 16 = 1 ∧ ν / 2 ^ 4 % 64 = 0 ∧ ν / 2 ^ 10 % 32 = 1 ∧ ν / 2 ^ 15 % 32 = 2 ∧ ν / 2 ^ 20 % 32 = 3) := by decide +kernel

/-- Source 160 latched, enabled for core 0 with PRIO 5. -/
def offering : Chan := { withRegs (setCore calm fun c => { c with mask := 0#3 }) 0x44#32 [(0x40000, 1#32), (flrCfg 160, 0x15#32)] with pulse := BitVec.ofNat 256 (2 ^ 160) }
theorem test_hyp_CoreEvents : offering.offered 0 = some 160 ∧ offering.lowerTakes 0 160 = false ∧ offering.badWords = [] ∧ offering.atBoundary 0 = true ∧ (offering.core 0).wact = false ∧
    (∀ i : Fin 32, ((offering.core 0).loq[i]).st = .free) ∧ ((setCore calm fun c => { c with wact := true }).core 0).wact = true ∧
    (let ch := withLoq described { divEnt with st := .faulted, cause := 1 }
     ch.atBoundary 0 = true ∧ (ch.core 0).dueFault = some 0 ∧ (∀ j : Fin 32, ((ch.core 0).loq[j]).st ≠ .pending) ∧ (ch.core 0).mask ≠ 7#3 ∧ (ch.core 0).xact.getLsbD 6 = false) := by decide +kernel

theorem test_hyp_RegisterStores : allIssue calm [encI 0x1A false 1 2 0#15] = true ∧ (∀ u : Fin 32, calm.fld (pu u + 8) 0 2 = 0) ∧ calm.fixedCore 0 = true ∧
    taperCheck MantleTable.reset (calm.core 0).pcc.mantle (calm.rc 0 0) 0xF0000000#64 4 [1] = none ∧
    taperCheck MantleTable.reset (calm.core 0).pcc.mantle (calm.rc 0 0) 0xF0FFFFFC#64 4 [1] = none ∧
    taperCheck MantleTable.reset (calm.core 0).pcc.mantle (calm.rc 0 0) 0xF0000000#64 16 [1, 4] = none ∧ (calm.core 0).pcc.has 5 = true ∧
    (calm.granted MantleTable.reset 0 accStore 0xF0030108#64 4).isSome = true ∧ (calm.core 0).sb = [] ∧
    (∀ row ∈ Claims.regStores k0 0 0 7 7 3 63 15 1 31 true, row.2 % 4 = 0 ∧ row.2 < 2 ^ 24) := by
  refine ⟨?_, ?_, ?_, ?_, ?_, ?_, ?_, ?_, ?_, ?_⟩ <;> decide +kernel
theorem test_hyp_RegisterLoads : allIssue calm [encI 0x15 false 1 2 0#15, encI 0x14 false 1 2 0#15] = true ∧ loads calm accLoad 0xF0070010#64 4 false = true ∧
    loads calm accLoad 0xF0020030#64 4 false = true ∧ (calm.io.uart[(0 : Fin 2)]).rx = [] ∧ calm.chained 0 = false ∧ (calm.tm 0).half.contains 0 = false := by decide +kernel
/-- The conditions of the register writes, each at a boundary: a FIFO one short of full and full, a frame length of 14 and 1518. -/
theorem test_hyp_CommandRegisters : (withRegs calm 0x44#32 [(0x50000, 0x10#32)]).bit 0x50000 4 = true ∧ calm.bit 0x50000 4 = false ∧ calm.bit 0x50000 0 = false ∧ calm.svcKey = none ∧
    ({ calm with svcKey := some 0 }).svcKey ≠ none ∧ ({ calm with svcKey := some 0, ptb := 600001#64 }).wdtLate = true ∧ ({ calm with svcKey := some 0, ptb := 600000#64 }).wdtLate = false ∧ (7#32).toNat % 16 ≤ 7 ∧ 64 ≤ (List.replicate 64 (0 : Byte)).length ∧ (List.replicate 63 (0 : Byte)).length < 64 ∧
    14 ≤ (0xE000#32).toNat / 4096 % 2048 ∧ (BitVec.ofNat 32 (1518 * 4096)).toNat / 4096 % 2048 ≤ 1518 ∧
    (withRegs calm 0x44#32 [(0x530024, 0x800#32)]).bit 0x530024 11 = true ∧ calm.bit 0x200000 0 = false ∧ (withRegs calm 0x44#32 [(0x200000, 1#32), (0x200004, 1#32)]).trcState = 1 ∧
    (withRegs calm 0x44#32 [(0x400000, 1#32)]).bit 0x400000 0 = true ∧ (withRegs calm 0x44#32 [(0x400000, 1#32)]).fld 0x400040 0 4 < 4 ∧
    (withRegs calm 0x44#32 [(0x400000, 1#32), (0x400040, 4#32)]).fld 0x400040 0 4 = 4 ∧ (withRegs calm 0x44#32 [(0x400000, 1#32), (0x400040, 15#32)]).fld 0x400040 0 4 = 15 ∧
    (∀ n : Fin 64, calm.armed n = false) ∧ (withRegs calm 0x44#32 [(kb 0, 5#32), (kb 0 + 0x18, 1#32)]).trkSrc 0 = 5 ∧ (withRegs calm 0x44#32 [(kb 0, 5#32), (kb 0 + 0x18, 1#32)]).trkState 0 = 1 ∧
    (withRegs calm 0x44#32 [(kb 0, 5#32), (kb 0 + 0x18, 2#32)]).trkState 0 = 2 ∧ (calm.reg (kb 0 + 0x38)).toInt.natAbs ≤ maxSpeed ∧
    (withRegs calm 0x44#32 [(nb 3, 1#32)]).armed 3 = true ∧ calm.waiters 3 = [] := by decide +kernel
theorem test_hyp_RegisterKinds : regDef 0x18 = none ∨ regDef 0x0C = none ∨ regDef 0xFFFFFC = none := by decide +kernel

/-- Trackers of each source in ACQUIRE, LOCKED and HOLDOVER. -/
def trk (src state : W32) : Chan := withRegs calm 0x44#32 [(kb 0, src), (kb 0 + 0x18, state)]
theorem test_hyp_PhaseTimebase : Claims.Still calm ∧ Claims.Bare calm ∧ (trk 1 1).trkSrc 0 = 1 ∧ (trk 1 1).trkState 0 ≠ 2 ∧ (trk 1 1).trkState 0 = 1 ∧ (trk 2 2).trkState 0 = 2 ∧
    (trk 2 2).trkSrc 0 = 2 ∧ (trk 3 2).trkSrc 0 = 3 ∧ (trk 4 2).trkSrc 0 = 4 ∧ (trk 1 3).trkState 0 = 3 ∧ 149999 < 150000 ∧ 1200000000 < 1200000001 ∧
    (let ch := withRegs calm 0x44#32 [(kb 0, 1#32), (kb 0 + 0x18, 2#32), (nb 0, 0x21#32), (nb 0 + 8, 5#32)]
     ch.armed 0 = true ∧ (∀ j : Fin 64, j ≠ 0 → ch.armed j = false) ∧ ch.periodic 0 = false ∧ ch.stph = [] ∧ ch.waiters 0 = [] ∧ ch.trkState (ch.slotTrk 0) = 2 ∧
      ch.dirOk 0 false = true ∧ ch.speed (ch.slotTrk 0) = 0 ∧ ch.trkDir (ch.slotTrk 0) = false ∧ 0 < dist (ch.adv (ch.slotTrk 0)) (ch.target 0)) ∧
    (let ch := withRegs calm 0x44#32 [(kb 0, 1#32), (kb 0 + 0x18, 2#32), (nb 0, 0x29#32), (nb 0 + 8, 5#32)]
     ch.armed 0 = true ∧ ch.periodic 0 = true ∧ ch.dirOk 0 false = true ∧ ch.firedIn 0 false (((ch.adv (ch.slotTrk 0) + BitVec.ofInt 64 (ch.ahead 0 false)) >>> 32).truncate 32) = false) ∧
    (withRegs calm 0x44#32 [(nb 0, 0x121#32)]).deadlineHit 0 = true ∧ calm.rel = [] := by
  refine ⟨rfl, ?_, ?_⟩ <;> simp only [Claims.Bare] <;> decide +kernel
/-- A width on either side of the encoder's filter, a count in time and one too fast; an edge that is the mark and one that is not, an edge at the expected
angle and one half a turn from it; a missing edge of a turning source; a ring sample at the expected position. -/
theorem test_hyp_PhaseTimebase_edges : (trk 0x11 2).passes 0 4 = true ∧ (trk 0x11 2).passes 0 3 = false ∧ (trk 0x11 2).trkSrc 0 = 1 ∧
    (let ch := withRegs calm 0x44#32 [(kb 0, 1#32), (kb 0 + 4, 10000#32), (kb 0 + 0x18, 2#32)]; 150000 ≤ 24 * ch.fld (kb 0 + 4) 0 24 ∧ Claims.Bare ch) ∧
    (trk 1 2).filt 0 = 0 ∧ (trk 2 2).filt 0 = 0 ∧ (trk 3 2).filt 0 = 0 ∧ (trk 0x11 2).filt 0 ≠ 0 ∧ (trk 0x12 2).filt 0 ≠ 0 ∧ (trk 0x13 2).filt 0 ≠ 0 ∧ 24 * (trk 1 2).fld (kb 0 + 4) 0 24 < 150000 ∧
    ({ trk 4 2 with samples := [⟨0, 1#32, 0#32, true, ⟨5, 0#64⟩, true⟩] }).samples = [⟨0, 1#32, 0#32, true, ⟨5, 0#64⟩, true⟩] ∧ (trk 4 2).samples = [] ∧ (3 : Fin 64) ∉ calm.fired ∧
    (trk 2 2).marks 0 ⟨true, 0, 150000⟩ = true ∧ (trk 2 2).marks 0 ⟨false, 0, 150000⟩ = false ∧ (trk 0xA 2).marks 0 ⟨false, 0, 0⟩ = true ∧
    ¬ (1200000000 * 70 < 600000000) ∧ ¬ ((15000000 : Nat) * 70 < 600000000) ∧ ¬ (600000000 < 15000000 * 40) ∧
    ((nearest ((trk 2 2).pos 0) ((trk 2 2).reg (kb 0 + 8))).truncate 32 - (trk 2 2).reg (kb 0 + 0x20) : W32).toInt.natAbs ≤ (trk 2 2).fld (kb 0 + 0xC) 16 16 * 65536 ∧
    (let ch := withRegs calm 0x44#32 [(kb 0, 2#32), (kb 0 + 8, 0x80000000#32), (kb 0 + 0x18, 2#32)]
     ch.fld (kb 0 + 0xC) 16 16 * 65536 < ((nearest (ch.pos 0) (ch.reg (kb 0 + 8))).truncate 32 - ch.reg (kb 0 + 0x20) : W32).toInt.natAbs) ∧
    ((withRegs calm 0x44#32 [(kb 0, 2#32), (kb 0 + 0x18, 2#32), (kb 0 + 0x28, 1000000#32)]).missAt 0).isSome = true ∧
    (dist ((trk 4 2).tk 0).pred (0#32 ++ 0#32)).natAbs * 600000000 ≤ 4000 * 2 ^ 32 * (1 : Int) := by
  simp only [Claims.Bare]; decide +kernel
theorem test_hyp_TimersAndCaptures : (let ch := withRegs calm 0x44#32 [(0x20000, 3#32), (0x20004, 10#32), (0x20010, 10#32), (0x20024, 0xFF#32), (0x30000, 3#32)]
      ch.tmRun 0 = true ∧ ch.updown 0 = true ∧ (ch.tm 0).newA = none ∧ (ch.tm 0).clr = false ∧ (ch.reg (tb 0 + 0x10)).toNat ≤ ch.perUD 0 ∧ ch.capSel 0 0 true = true ∧
      ch.selects 3 0 = true ∧ ch.chained 0 = false ∧ ch.chained (oddOf 0) = false ∧ 47 < ch.capFilt 0 0 ∧ ch.capFilt 0 0 ≤ 48 ∧ (ch.tm 0).half.contains 0 = false) ∧
    (({ calm with tmr := calm.tmr.set 0 { Tmr.reset with rise := [(3, 1)] } }).tm 0).rise.any (fun r => r.1 == 2 * b2n true + b2n true) = true := by decide +kernel
/-- An even timer whose odd one is chained, between the two reads of input 0. -/
theorem test_hyp_TimersAndCaptures_pair : let ch := { withRegs calm 0x44#32 [(0x20024, 1#32), (0x20100, 4#32), (0x30000, 3#32)] with tmr := calm.tmr.set 0 { Tmr.reset with half := [0] } }
    ch.chained (oddOf 0) = true ∧ ch.chained 0 = false ∧ (ch.tm 0).half.contains 0 = true ∧ ch.capSel 0 0 true = true ∧ ch.selects 3 0 = true := by decide +kernel
theorem test_hyp_PeripheralEvents : (let ch := withRegs calm 0x44#32 [(ub 0, 7#32)]; ch.bit (ub 0) 0 = true ∧ ch.bit (ub 0) 1 = true ∧ ch.bit (ub 0) 2 = true ∧ ch.bit (ub 0) 6 = false) ∧
    (withRegs calm 0x44#32 [(0x520000, 0x10001#32)]).bit 0x520000 0 = true ∧ ({ withRegs calm 0x44#32 [(0x520000, 0x10001#32)] with io := { Io.reset with i2cBus := true } }).i2cActive = true ∧
    (withRegs calm 0x44#32 [(0x520000, 0x10001#32)]).fld 0x520000 16 16 ≠ 0 ∧
    (let ch := withRegs calm 0x44#32 [(0x530000, 0xF#32), (0x53000C, 1#32)]
     ch.bit 0x530000 0 = true ∧ ch.bit 0x530000 1 = true ∧ ch.bit 0x530000 2 = true ∧ ch.bit 0x53000C 0 = true ∧ ch.ethAccepts (List.replicate 60 0) = true) ∧
    calm.ethAccepts (List.replicate 60 1) = false ∧ (withRegs calm 0x44#32 [(0x30000, 0x24#32)]).selects 4 2 = true ∧ (withRegs calm 0x44#32 [(0x30000, 0x25#32)]).selects 5 2 = true ∧ calm.selects 5 2 = false ∧
    (withRegs calm 0x44#32 [(0x30000, 0x16#32)]).selects 6 1 = true ∧ (withRegs calm 0x44#32 [(0x30000, 0x6#32)]).selects 6 0 = true ∧ calm.selects 6 1 = false ∧ (withRegs calm 0x44#32 [(0x30000, 0x17#32)]).selects 7 1 = true ∧
    (withRegs calm 0x44#32 [(ub 0, 7#32)]).uartTurn 0 = 0 ∧ 0 < calm.uartTurn 0 ∧ (withRegs calm 0x44#32 [(0x530024, 0xC00#32)]).bit 0x530024 11 = true := by decide +kernel
theorem test_hyp_WatchdogAndTrace : (let ch := withRegs calm 0x44#32 [(0x50000, 1#32), (0x50008, 5#32), (0x5000C, 5#32)]
      ch.wdtRuns = true ∧ ch.reg 0x50008 ≠ 0#32 ∧ (ch.reg 0x50008).toNat ≤ (ch.reg 0x5000C).toNat) ∧
    (withRegs calm 0x44#32 [(pcr 0 0x1000, 3#32)]).bit (pcr 0 0x1000) 0 = true ∧
    (let ch := withRegs calm 0x44#32 [(0x200000, 1#32), (0x200004, 1#32), (0x20000C, 0x32#32)]; ch.trcState = 1 ∧ ch.fld 0x20000C 0 3 = 2 ∧ ch.fld 0x20000C 4 6 % 64 = 3) ∧
    (withRegs calm 0x44#32 [(0x200004, 2#32)]).trcState = 2 ∧ calm.trcUsed / 16 < 2048 ∧ calm.trcUsed + 4096 ≤ 65536 ∧ ({ calm with svcKey := some 0 }).svcKey ≠ none ∧
    ((setCore calm fun c => { c with trcDrop := true }).cores.toList.any fun x => x.trcDrop) = true := by decide +kernel

theorem test_hyp_ModeRequests : calm.life = .up ∧ calm.trans = none ∧ calm.anyHalted = false ∧ calm.snuff = none ∧ calm.llDown = false ∧ calm.mode = 4 ∧
    (withRegs calm 0x44#32 [(dbgStat 0, 2#32)]).anyHalted = true ∧ viaThaw 4 2 1 = true ∧ viaThaw 1 2 2 = false ∧
    allIssue calm [encI 0x1A false 1 2 0#15] = true ∧ (calm.granted MantleTable.reset 0 accStore 0xF0000010#64 4).isSome = true := by decide +kernel
theorem test_hyp_ModeTransitions : Claims.AtRest { calm with trans := some ⟨1, 0#8, true, false⟩ } ∧ calm.railSteps ⟨1, 0#8, true, false⟩ = true ∧ calm.railSteps ⟨5, 0#8, true, false⟩ = false ∧ runMode 1 = true ∧ calm.wakeHeld = false ∧
    (withRegs calm 0x6066#32 []).mode = 6 ∧ (withRegs calm 0x6066#32 []).wakes .lamp = true ∧ (withRegs calm 0x6066#32 []).trans = none ∧ (withRegs calm 0x6066#32 []).wakeHeld = false ∧
    ({ calm with trans := some ⟨6, 0#8, false, false⟩ }).wakes .lamp = true ∧ calm.mode ≠ 6 ∧ calm.expander = none := by
  refine ⟨⟨?_, rfl, rfl, rfl, rfl, rfl, rfl⟩, ?_⟩ <;> decide +kernel
theorem test_hyp_ChannelResets : Claims.AtRest calm ∧ calm.objN (calm.idx 0x3090) 1 0 = 0 ∧ (at' calm).lamp.life = .up ∧
    (withRegs calm 0x44#32 [(0x50000, 1#32)]).wdtRuns = true ∧ calm.objN (calm.idx 0x3040) 1 1 ≠ 0 ∧
    ({ calm with objs := [(objKey 0x3040 1, [0#8])] }).objN (calm.idx 0x3040) 1 1 = 0 := by
  refine ⟨⟨?_, rfl, rfl, rfl, rfl, rfl, rfl⟩, ?_⟩ <;> decide +kernel
/-- A Lamplighter whose flash is erased. -/
def bare : Lamp := { Lamp.reset with items := Lamp.reset.items.map fun x => { x with slotA := [], slotB := [], active := 0, minimum := 0 } }
theorem test_hyp_ChannelStart : (let ch := { Chan.reset 0 with life := .starting, goal := some 4 }; ch.life = .starting ∧ ch.loaded = false) ∧
    ({ Chan.reset 0 with life := .starting, goal := some 4, loaded := true }).loaded = true ∧
    (∃ v, patchResult v [] = 1 ∧ v = 0) ∧ patchResult 1 [] = 1 ∧ (bare.imageFor 0).1 = none ∧ (Chan.reset 0).objN ((Chan.reset 0).idx 0x3010) 0xA 0 = 0 := by
  refine ⟨?_, ?_, ⟨0, ?_⟩, ?_⟩ <;> decide +kernel
theorem test_hyp_HostPortSlots : (at' calm).lamp.serving = true ∧ calm.mode ≠ 8 ∧ (at' calm).lamp.results = [] ∧ calm.mbxOut = [] ∧
    (withRegs calm 0x44#32 [(0x400000, 1#32)]).bit 0x400000 0 = true ∧ calm.mbxIn.length < 16 ∧ calm.bit 0x400000 0 = false ∧ 16 ≤ (List.replicate 16 [0#32]).length ∧
    ({ (Chan.reset 0) with life := .starting }).life = .starting ∧ getF (0xF#32) 0 4 = 15 ∧ getF (1#32) 0 4 ≠ 15 := by decide +kernel

/-- GALE with a link and 256 MB. -/
def linked : Chan := withRegs gale 0x11#32 [(0x60000, 2#32), (0x60004, 1#32)]
def line0 : Nat := hdmBase / 64
def l2l (st : L2St) : L2Line := ⟨line0, st, 0#512, 0#4, false, 0⟩
def l3l : L3Line := ⟨line0, 0#512, 0#4, true, false, 0⟩
theorem test_hyp_HomeMessages : linked.life = .up ∧ linked.linkUp = true ∧ linked.cachesLine 0 line0 = true ∧ linked.ownerOf MantleTable.reset 0 = 0 ∧ 0 < linked.ways 0 ∧
    ({ linked with l3 := [l3l] }).l3Find line0 = some l3l ∧ (linked.core 0).l2Find line0 = none ∧ linked.homeQ = [] ∧ linked.txs = [] ∧ linked.net = [] ∧ linked.rebuild = none ∧
    (linked.slice line0 < 8 ∧ setOf line0 < 1024 ∧ linked.bit 0x70004 1 = false ∧ linked.bit 0x70004 3 = false) ∧
    ((setCore linked fun c => { c with l2 := [l2l .m] }).core 0).l2Find line0 = some (l2l .m) ∧ runMode linked.mode = true ∧ linked.fixedCore 0 = false ∧
    hdmBase / 64 = line0 ∧ line0 < 2 ^ 42 ∧
    ({ linked with txs := [⟨⟨.rds, 1, line0, 0, false, .none⟩, 1#8, 0#8, none, false, 0, false, false⟩] }).txFind line0 = some ⟨⟨.rds, 1, line0, 0, false, .none⟩, 1#8, 0#8, none, false, 0, false, false⟩ ∧
    (withRegs gale 0x11#32 [(0x70080, 4#32)]).fld 0x70080 0 16 ≠ 0 ∧ linked.heldBy 0 line0 = none ∧ (∀ x ∈ linked.txs, Claims.Awaits x) ∧ linked.cxlReqs = [] ∧ linked.dirFind line0 = none ∧
    ({ linked with dir := [⟨line0, false, 0#8, 0, true, false⟩] }).dirFind line0 ≠ none ∧ Claims.Awaits ⟨⟨.rds, 1, line0, 0, false, .none⟩, 1#8, 0#8, none, false, 0, false, false⟩ ∧
    ({ linked with cores := linked.cores.set 1 { linked.core 1 with hold := some ⟨line0, 0, 256⟩, resv := some line0 } }).heldBy 0 line0 ≠ none ∧
    (({ linked with dir := [⟨line0, false, 1#8, 0, false, false⟩] }).dir = [⟨line0, false, BitVec.ofNat 8 (2 ^ (0 : Fin 8).val), 0, false, false⟩]) ∧
    ((linked.core 0).l2Rivals line0).length < 8 ∧ 0x40#8 &&& ~~~(1#8) ≠ 0#8 ∧ hdmBase % 64 = 0 := by simp only [Claims.Awaits]; decide +kernel
/-- R283: the parity error asks every L2, and the set is written from what they hold; the request of a line in it waits until then. -/
def hurtDir : Chan := (setCore { linked with dir := [⟨line0, false, 0xF0#8, 0, false, false⟩] } fun c => { c with l2 := [l2l .m] }).dirParity (linked.slice line0) (setOf line0)
theorem test_rebuild : hurtDir.net.length = 8 ∧ hurtDir.canOpen ⟨.rds, 1, line0, 0, false, .none⟩ = false ∧ (hurtDir.peekCtrl 0x70004).getLsbD 16 = true ∧
    hurtDir.fld 0x70014 0 16 = 1 ∧ (hurtDir.pump (fun _ => false) 8).dir = [⟨line0, true, 1#8, 0, false, false⟩] ∧ (hurtDir.pump (fun _ => false) 8).rebuild = none := by decide +kernel
theorem test_hyp_CxlEvents : linked.linkUp = true ∧ linked.tokenFree 0 = true ∧ linked.farAt line0 false = none ∧
    (let ch := { linked with txs := [⟨⟨.rds, 1, line0, 0, false, .none⟩, 0#8, 0#8, none, true, 0, false, false⟩] }; ch.tokenFree 0 = true ∧ ch.cxlReqs.any (fun q => q.line == line0 && q.kind == .read) = false) ∧
    (withRegs gale 0x22#32 [(0x60000, 2#32)]).parted = true ∧ linked.flitFails < 3 ∧ linked.evtN < 64 ∧ linked.cxlReqs = [] ∧ linked.txs = [] ∧ ({ linked with cxlReqs := [⟨line0, 0, .read, none, false⟩] }).cxlReqs.length = 1 ∧
    (let ch := setCore linked fun c => { c with posted := [{ ent 0 8 1#128 with part := ⟨hdmBase, 8, .unc01⟩ }] }
     ((ch.core 0).posted.map fun e => e.part.pa / 64) = [line0] ∧ ∀ v : Fin 8, v ≠ 0 → (ch.core v).posted = []) ∧
    (∀ w : Fin 8, (linked.core w).posted = [] ∧ linked.confirms w line0 = false) ∧ linked.farAt line0 true = none ∧ (∀ x ∈ linked.txs, Claims.Awaits x) ∧
    Claims.Awaits ⟨⟨.rds, 1, line0, 0, false, .none⟩, 0#8, 0#8, none, true, 0, false, false⟩ ∧ ({ withRegs gale 0x22#32 [(0x60000, 2#32)] with cxlReqs := [⟨line0, 0, .read, none, false⟩] }).parted = true ∧
    ({ linked with dir := [⟨line0, false, 0#8, 0, true, false⟩] }).dirFind line0 ≠ none := by simp only [Claims.Awaits]; decide +kernel

/-- A node with identity 3, both ports locked, relay held. -/
def node (master sweeping : Bool) : State :=
  let l := { (at' calm).lamp with objs := [(objKey 0x2100 1, leBytes 3 2), (objKey 0x2100 2, leBytes (if master then 3 else 4) 2), (objKey 0x2100 3, leBytes 3 2)] }
  { at' calm with lamp := l, ring := { Ring.reset with conf := l.conf, lock := #v[true, true], bypHold := true, sweeping := sweeping, sweep := 7#32 } }
theorem test_hyp_RingForwarding : (node true true).ring.bypHold = true ∧ (∀ p : Fin 2, (node true true).ring.lock[p] = true) ∧ Ring.reset.bypHold = false ∧ Ring.reset.lock[(0 : Fin 2)] = false ∧
    (node true true).mayStart (.calRequest .a 0#64) = true ∧ (RingOut.calRequest .a 0#64).ports.length = 1 ∧ (node true true).ring.cable[(0 : Fin 2)].length < 15 ∧
    ({ node true true with ring := { (node true true).ring with headAt := some 0 }, lamp := { (node true true).lamp with time := 3000 * 1000 } }).mayStart (.calRequest .a 0#64) = false := by decide +kernel
theorem test_hyp_RingSweep : (∀ b ∈ [true, false], (node b b).lamp.nodeId = 3 ∧ 250 ≤ (node b b).lamp.num 0x2100 4 1000) ∧ (node true true).ring.sweeping = true ∧
    head0.fcsOk = true ∧ head0.wrap = false ∧ head0.master.toNat ≠ 3 ∧ (node false false).ring.last ≠ some (head0.sweep, head0.master) ∧ head0.present.length = 512 ∧ head0.consist.length = 512 ∧
    0 ≤ (head0.epoch - (node false false).ring.epoch).toInt ∧ 0 < (head0.epoch - (node true true).ring.epoch).toInt ∧ head0.sweep = (node true true).ring.sweep ∧
    (node false false).lamp.nodeId = (node false false).lamp.standbyId ∧ head0.marked = false ∧ data0.marked = false ∧ data0.wrap = false ∧ ({ head0 with fcsOk := false }).fcsOk = false ∧
    head0.cut = false ∧ data0.cut = false ∧ (node true false).ring.last = none ∧ (node true false).ring.headAt = none ∧ (node true false).lamp.nodeId = (node true false).lamp.masterId ∧
    (node true false).ring.joined + 9750 * 1000 ≤ (9750000 / (3000 * 1000) + 1) * (3000 * 1000) ∧ (node true true).ring.conf.nodeId = 3 ∧ (node true true).ring.conf.nodeId = (node true true).ring.conf.standbyId ∧
    head0.phValid = false ∧ ({ Ring.reset with cable := Vector.replicate 2 (List.replicate 16 0) } : Ring).calibrated = true ∧ (node true true).ring.port = .b := by decide +kernel
/-- A binding of frame 1 into application object 0x8000. -/
theorem test_hyp_RingSweep_binding : (let l := { (node false false).lamp with
      objs := (node false false).lamp.objs ++ [(objKey 0x2110 1, leBytes (1 + 1 * 2 ^ 18 + 0x8000 * 2 ^ 32 + 2 ^ 48) 8)], apps := [⟨0x8000, 2, 1, 0, false, 1, [0]⟩] }
    (l.bindings.map fun x => (x.1, x.2.fidx, x.2.len, x.2.insert, x.2.obj)) = [(1, 1, 1, false, 0x8000)] ∧ (l.app 0x8000).map (fun a => a.value.length) = some 1) ∧
    (readBindings [(1, 1 + 1 * 2 ^ 18 + 0x8000 * 2 ^ 32 + 2 ^ 48)]).length = 1 ∧ (([9#8] ++ crcField [9#8]).drop 0).take 1 = [9#8] ∧ (([9#8] ++ crcField [9#8]).drop 1).take 4 = crcField [9#8] := by decide +kernel
def mail (idx : BitVec 16) (sub : BitVec 8) (dst : BitVec 12) (group : Bool) : MailboxFrame :=
  { dst := dst, group := group, src := 9, tid := 1, op := 1, status := 0, session := 0, contrib := 0, hops := 8190, records := [⟨idx, sub, 0, 0, 0, false, [], true, 0⟩] }
theorem test_hyp_RingMailbox : (mail 0x2100 4 3 false).hops.toNat < 8191 ∧ (mail 0x2100 4 3 false).fcsOk = true ∧ (mail 0x2100 4 3 false).marked = false ∧
    ({ mail 0x2100 4 7 true with src := 3, op := 0x11 }).src.toNat = (node true true).lamp.nodeId ∧ (node true true).lamp.belongs 7 = false ∧ (node true true).lamp.num 0x7007 2 0 = 0 ∧ (mail 0x2100 4 5 false).dst.toNat ≠ (node true true).lamp.nodeId ∧
    (match (node true true).lamp.odef 0x2100 4, (node true true).lamp.odef 0x1000 1, (node true true).lamp.odef 0x2030 2 with
     | .ok a, .ok b, .ok c => decide (a.acc = .rw ∧ a.ty < 0xC ∧ b.acc = .const ∧ c.acc = .wo) | _, _, _ => false) = true ∧ (node true true).lamp.app 0x2100 = none ∧
    (node true true).ring.conf.nodeId = 3 ∧ (mail 0x2100 4 3 false).port = .b ∧ (mail 0x2100 4 3 false).cut = false ∧ ({ (node true true).lamp with objs := (node true true).lamp.objs ++ [(objKey 0x2120 1, leBytes 6 2)] }).belongs 6 = true ∧
    groupRule 0x1001 1 = some 0 ∧ groupRule 0x2101 14 = some 1 ∧ groupRule 0x1000 3 = some 2 ∧ groupRule 0x1000 1 = none := by decide +kernel
def engineer : Session := ⟨5#32, 9#12, 2, true, 1⟩
/-- The request that carries its number. -/
def asker : RingAsker := ⟨9#12, 5#32⟩
theorem test_hyp_BypassRelay : (node true true).ring.bypHold = true ∧ Ring.reset.lock[(0 : Fin 2)] = Ring.reset.lock[(1 : Fin 2)] ∧
    (#v[true, false] : Vector Bool 2)[(0 : Fin 2)] ≠ (#v[true, false] : Vector Bool 2)[(1 : Fin 2)] ∧
    (({ (at' calm).lamp with objs := [(objKey 0x2100 10, [1#8])] } : Lamp).num 0x2100 10 0 = 1) ∧ (at' calm).lamp.num 0x2100 10 0 = 0 ∧
    engineer ∈ [engineer] ∧ [engineer].Pairwise (fun a b => a.num ≠ b.num) ∧ engineer.num ≠ 0#32 ∧ 2 ≤ engineer.cls ∧ (at' calm).lamp.time < engineer.till ∧ asker = ⟨engineer.node, engineer.num⟩ ∧ (at' calm).lamp.pause = none := by decide +kernel

/-- Channel 0's oldest request: header with SRCMANTLE 0, a READ of 0x3000:1; and its own application object. -/
theorem test_hyp_ChannelRequests : (let l := { (at' calm).lamp with carried := [⟨0, 15, msgWords 0x0200000F 1 0 0 0x3000 1 0 []⟩], apps := [⟨0x8000, 2, 1, 0, false, 1, [0]⟩] }
      (l.request 0).isSome = true ∧ l.life = .up ∧ l.pause = none ∧ (match l.odef 0x3000 1 with | .ok d => decide (d.acc ≠ .wo ∧ d.ty < 0xC) | .error _ => false) = true ∧ l.app 0x3000 = none ∧
      (match l.app 0x8000 with | some a => decide (a.acc = 1 ∧ 1 < a.ty ∧ a.ty < 0xC ∧ a.len = 1 ∧ a.cls ≤ calm.objN (calm.idx 0x3080) 1 2) | none => false) = true ∧ l.app 0x8001 = none) ∧
    inArea 0x3000 = true ∧ areaChan 0x3000 = 0 ∧ inApps 0x8000 = true ∧ appChan 0x8000 = 0 ∧ areaChan 0x4000 ≠ 0 ∧ inApps 0xF000 = false ∧ appChan 0x9BFF = 0 ∧ appChan 0x9C00 ≠ 0 := by decide +kernel
def token0 : List Byte := List.replicate 140 0#8
theorem test_hyp_Sessions : token0.length = 140 ∧ ({ (at' calm).lamp with challenges := [(9, 1#256, 1)] } : Lamp).challenges.find? (fun x => x.1 == (9#12).toNat) = some ((9#12).toNat, 1#256, 1) ∧
    (at' calm).lamp.time < 1 ∧ (at' calm).lamp.open.length < 16 ∧ 16 ≤ ({ (at' calm).lamp with sessions := List.replicate 16 engineer } : Lamp).open.length ∧
    (∀ x ∈ [engineer], x.num = 5#32 → x.node ≠ 3#12 ∨ x.till ≤ 0) ∧ ∀ x ∈ [{ engineer with till := 0 }], x.num = 5#32 → x.node ≠ 9#12 ∨ x.till ≤ 0 := by decide +kernel
theorem test_hyp_ParameterStore : ({ (at' calm).lamp with dirty := true } : Lamp).dirty = true ∧ ({ (at' calm).lamp with store := 3 } : Lamp).store = 3 ∧ (at' calm).lamp.digest = none ∧
    ({ (at' calm).lamp with sessions := [engineer] } : Lamp).authority (some asker.src) asker.session = .ok 2 ∧ (at' calm).lamp.authority (some 9#12) 0#32 = .ok 0 := by
  refine ⟨rfl, rfl, rfl, ?_, ?_⟩ <;> rfl
/-- The first enrolment with role 4; a revocation that leaves a key with role 4. -/
theorem test_hyp_KeySlots : (List.replicate 99 0xFF#8).length = 99 ∧ (BitVec.ofNat 16 (beNat ((List.replicate 99 0xFF#8).take 2))).getLsbD 4 = true ∧ (at' calm).lamp.provisioned = false ∧
    ((at' calm).lamp.keys[(1 : Fin 8)]).state = 0 ∧ (7 : Fin 8) ≠ 0 ∧
    (let l := { (at' calm).lamp with keys := ((at' calm).lamp.keys.set 1 ⟨1, 0x10#16, []⟩).set 2 ⟨1, 0x10#16, []⟩ }; (l.keys[(1 : Fin 8)]).state = 1 ∧ (l.keys[(2 : Fin 8)]).roles.getLsbD 4 = true) ∧
    ∃ x ∈ [engineer], x.num = asker.session ∧ x.node = asker.src ∧ x.root = true := by decide +kernel
theorem test_hyp_UpdateCommands : (let it := { (at' calm).lamp.item .patch with state := 2, staged := [1#8], buffer := [1] }
      it.state = 2 ∧ it.staged ≠ [] ∧ it.buffer = 1 :: [] ∧ 1 = it.staged.length ∧ 1 + 1 ≤ itemSize .patch ∧ it.buffer.sum + 65535 ≤ 65536 ∧ 65536 < it.buffer.sum + 65536) ∧
    (∀ j : Fin 4, ((at' calm).lamp.item (.image j)).state ≠ 4) ∧ ((at' calm).lamp.item .firmware).state ≠ 4 ∧ (at' calm).blocked .patch = false ∧ (at' calm).blocked (.image 0) = false ∧ (at' calm).lamp.booting = none ∧
    (at' (withRegs calm 0x44#32 [(dbgStat 0, 2#32)])).blocked (.image 0) = true ∧ (let l := (at' calm).lamp.setItem .patch { (at' calm).lamp.item .patch with state := 4 }; (l.item .patch).state = 4 ∧ Item.patch ≠ .firmware) := by decide +kernel
theorem test_hyp_Activations : ({ (at' calm).lamp with pause := some false } : Lamp).pause = some false ∧ (at' calm).ring.inbox = [] ∧ calm.life = .up ∧ calm.startMode ≠ 7 ∧
    ({ calm with objs := [(objKey 0x3020 3, leBytes 7 1)] }).startMode = 7 ∧ ({ (at' calm).lamp with booting := some (.image 0, false) } : Lamp).booting = some (.image 0, false) ∧
    (Chan.reset 1).life ≠ .up ∧ (Chan.reset 1).life ≠ .starting ∧ (at' calm).lamp.booting = none := by decide +kernel
theorem test_hyp_LinkAndGrant : calm.life = .up ∧ runMode calm.mode = true ∧ calm.trans = none ∧ calm.anyHalted = false ∧ calm.snuff = none ∧ (withRegs calm 0x88#32 []).mode = 8 ∧
    (∃ e, ({ (at' calm).lamp with sessions := [] } : Lamp).authority (some asker.src) asker.session = .error e) ∧
    ({ calm with trans := some ⟨1, 0#8, true, false⟩ }).trans ≠ none ∧ (withRegs calm 0x44#32 [(dbgStat 0, 2#32)]).anyHalted = true ∧ ({ calm with snuff := some ⟨0, true⟩ }).snuff ≠ none ∧
    ({ (at' calm).lamp with sessions := [engineer] } : Lamp).authority (some asker.src) asker.session = .ok 2 := by
  refine ⟨?_, ?_, ?_, ?_, ?_, ?_, ⟨6, rfl⟩, ?_, ?_, ?_, rfl⟩ <;> decide +kernel

def wired (v : W32) : Chan := { auth v with wire := { Wire.reset with awake := true } }
theorem test_hyp_WireSessions : Claims.WireUp (at' (wired 0#32)) 0 ∧ (wired 0#32).objN ((wired 0#32).idx 0x3090) 1 0 ≠ 3 ∧ (List.replicate 148 0#8).length = 148 ∧
    ¬ (1 ≤ (6#8).toNat ∧ (6#8).toNat ≤ 5) ∧ ¬ (1 ≤ (0#8).toNat ∧ (0#8).toNat ≤ 5) := by
  refine ⟨⟨rfl, rfl, rfl, ?_⟩, ?_⟩ <;> decide +kernel
/-- View over Open, and Full over every class with core 0 halted. -/
theorem test_hyp_WireAccesses : Claims.WireUp (at' (wired 0x5#32)) 0 ∧ (let ch := wired 0x5#32; ch.fld 0x300000 0 2 = 1 ∧ ch.bit 0x300000 2 = true ∧ ch.mode ≠ 8 ∧ ch.sealed[1] = 0 ∧ ch.calmPois = [] ∧
      ∀ (w : Fin 8) (i : Fin 32), ((ch.core w).loq[i]).st = .free) ∧
    (let ch := { wired 0x1E#32 with regs := [(0x14, 0x44#32), (0x300000, 0x1E#32), (dbgStat 0, 2#32)] }
     ch.fld 0x300000 0 2 = 2 ∧ ch.halted 0 = true ∧ ch.bit 0x300000 (2 + clsOf MantleTable.reset (ch.core 0).pcc.mantle) = true) ∧ (wired 0x1E#32).halted 0 = false ∧
    (saveBase - 256) + 4 * 64 ≤ saveBase ∧ (saveBase - 256) % 4 = 0 := by
  refine ⟨⟨rfl, rfl, rfl, ?_⟩, ?_⟩ <;> decide +kernel
theorem test_hyp_WireControl : Claims.WireUp (at' (wired 0x1E#32)) 0 ∧ (wired 0x1E#32).fld 0x300000 0 2 = 2 ∧ (wired 0x1E#32).bit 0x300000 3 = true ∧ (wired 0#32).fld 0x300000 0 2 ≠ 2 ∧
    ((wired 0x1E#32).core 0).slotA = none ∧ (∀ cause : Fin 7, BitVec.ofNat 8 (2 ^ cause.val) ≠ 0#8) ∧ runMode (wired 0x1E#32).mode = true ∧
    (wired 0x1E#32).bit 0x300000 (2 + clsOf MantleTable.reset ((wired 0x1E#32).core 0).pcc.mantle) = true := by
  refine ⟨⟨rfl, rfl, rfl, ?_⟩, ?_⟩ <;> decide +kernel
theorem test_hyp_DeviceResets : (at' calm).lamp.life = .up ∧ (Chan.reset 1).life = .frost ∧ State.reset.lamp.life = .held ∧ State.reset.lamp.copies = Vector.replicate 2 none ∧ State.reset.lamp.restore = false ∧ State.reset.lamp.booting = none ∧ State.reset.ring.bypHold = false ∧
    ({ State.reset.lamp with copies := #v[some ⟨1, []⟩, none] } : Lamp).newerCopy = some ⟨1, []⟩ ∧ State.reset.lamp.dirty = false := by
  refine ⟨rfl, rfl, rfl, rfl, rfl, rfl, rfl, rfl, rfl⟩

end Sys2Proof.Tests
end

section
/-! SUPPORT. The operations of major 0x00 (R64): the fields of R-format words, the values of the integer functions against the manual's
table, and how each row retires. -/

namespace Sys2Proof.Proofs

open Sys2Proof.Machine Sys2Proof.Laws

/-! The fields of an R-format word (R55). -/

section Fields

variable {major rd rs1 rs2 rs3 fn : Nat} (p : Bool)

theorem toNat_encR (hm : major < 64) (hd : rd < 32) (h1 : rs1 < 32) (h2 : rs2 < 32) (h3 : rs3 < 32) (hf : fn < 32) :
    (encR major p rd rs1 rs2 rs3 fn).toNat =
      major * 2 ^ 26 + b2n p * 2 ^ 25 + rd * 2 ^ 20 + rs1 * 2 ^ 15 + rs2 * 2 ^ 10 + rs3 * 2 ^ 5 + fn := by
  have hp : b2n p ≤ 1 := by cases p <;> decide
  simp only [encR, encTop, BitVec.toNat_ofNat]
  exact Nat.mod_eq_of_lt (by omega)

/-- The fields of an R-format word are those it was made of. -/
theorem fields_encR (hm : major < 64) (hd : rd < 32) (h1 : rs1 < 32) (h2 : rs2 < 32) (h3 : rs3 < 32) (hf : fn < 32) :
    let x := encR major p rd rs1 rs2 rs3 fn
    majorOf x = major ∧ rdOf x = rd ∧ rs1Of x = rs1 ∧ rs2Of x = rs2 ∧ rs3Of x = rs3 ∧ fnOf x = fn := by
  have hp : b2n p ≤ 1 := by cases p <;> decide
  simp only [majorOf, rdOf, rs1Of, rs2Of, rs3Of, fnOf, toNat_encR p hm hd h1 h2 h3 hf]
  refine ⟨?_, ?_, ?_, ?_, ?_, ?_⟩ <;> omega

end Fields

theorem definedWord_integer {u : Ucode} {x : W32} (h : majorOf x = 0x00) :
    definedWord u x = (fnOf x ≤ 23 && rs3Of x == 0 && (!(16 ≤ fnOf x && fnOf x ≤ 22) || rs2Of x == 0)) := by
  simp only [definedWord, h]

theorem definedWord_multiply {u : Ucode} {x : W32} (h : majorOf x = 0x0C) :
    definedWord u x = ((fnOf x ≤ 5 || (8 ≤ fnOf x && fnOf x ≤ 15)) && (fnOf x == 5 || rs3Of x == 0)) := by
  simp only [definedWord, h]

/-! Comparisons, selections and rotates as the manual's table has them. -/

section Values

variable (a b : W64)

theorem b2w_decide (q : Prop) [Decidable q] : b2w (decide q) = Claims.flag q := by simp [b2w, Claims.flag]

theorem b2w_slt : b2w (a.slt b) = Claims.flag (a.toInt < b.toInt) := b2w_decide _
theorem b2w_ult : b2w (a.ult b) = Claims.flag (a.toNat < b.toNat) := b2w_decide _

theorem minS_eq : minS a b = if a.toInt < b.toInt then a else b := by simp [minS, BitVec.slt_eq_decide]
theorem maxS_eq : maxS a b = if a.toInt < b.toInt then b else a := by simp [maxS, BitVec.slt_eq_decide]
theorem minU_eq : minU a b = if a.toNat < b.toNat then a else b := by simp [minU, BitVec.ult_eq_decide]
theorem maxU_eq : maxU a b = if a.toNat < b.toNat then b else a := by simp [maxU, BitVec.ult_eq_decide]

theorem rotateLeft_sh6 : a.rotateLeft (sh6 b) = a <<< (b.toNat % 64) ||| a >>> (64 - b.toNat % 64) := by
  simp [BitVec.rotateLeft_def, sh6]

theorem rotateRight_sh6 : a.rotateRight (sh6 b) = a >>> (b.toNat % 64) ||| a <<< (64 - b.toNat % 64) := by
  simp [BitVec.rotateRight_def, sh6]

/-! Bit counts and reversals. -/

/-- The run of numbers below n that satisfy q: all of it does, and it ends at n or at one that does not. -/
theorem takeWhile_range_spec (n : Nat) (q : Nat → Bool) :
    let k := ((List.range n).takeWhile q).length
    k ≤ n ∧ (∀ i < k, q i = true) ∧ (k < n → q k = false) := by
  have hle : (List.range n).findIdx (fun i => !q i) ≤ n := by simpa using List.findIdx_le_length (xs := List.range n)
  rw [List.takeWhile_eq_take_findIdx_not, List.length_take, List.length_range, Nat.min_eq_left hle]
  refine ⟨hle, fun i hi => ?_, fun hk => ?_⟩
  · simpa using List.not_of_lt_findIdx hi
  · have hq := List.findIdx_getElem (w := by rwa [List.length_range])
    rw [List.getElem_range] at hq
    simpa using hq

theorem toNat_ofNat_of_le {k : Nat} (h : k ≤ 64) : (BitVec.ofNat 64 k).toNat = k := by
  rw [BitVec.toNat_ofNat]; omega

/-- CLZ counts the zeros above the highest 1 (R64). -/
theorem clzN_spec : clzN a ≤ 64 ∧ (∀ i < clzN a, a.getLsbD (63 - i) = false) ∧ (clzN a < 64 → a.getLsbD (63 - clzN a) = true) := by
  simpa [clzN] using takeWhile_range_spec 64 fun i => !a.getLsbD (63 - i)

/-- CTZ counts the zeros below the lowest 1 (R64). -/
theorem ctzN_spec : ctzN a ≤ 64 ∧ (∀ i < ctzN a, a.getLsbD i = false) ∧ (ctzN a < 64 → a.getLsbD (ctzN a) = true) := by
  simpa [ctzN] using takeWhile_range_spec 64 fun i => !a.getLsbD i

theorem popcount_le : popcount a ≤ 64 := by
  simpa [popcount] using List.length_filter_le (fun i => a.getLsbD i) (List.range 64)

theorem toNat_b2w_parity : (b2w (parity a)).toNat = popcount a % 2 := by
  rcases Nat.mod_two_eq_zero_or_one (popcount a) with h | h <;> simp [parity, b2w, h]

/-- The sum of the powers of two that a predicate selects below m: it stays below 2 ^ m and has exactly those bits. -/
theorem foldl_bits_spec (f : Nat → Bool) (m : Nat) :
    let x := (List.range m).foldl (fun x i => if f i then x + 2 ^ i else x) 0
    x < 2 ^ m ∧ ∀ i, x.testBit i = (decide (i < m) && f i) := by
  induction m with
  | zero => simp
  | succ m ih =>
    obtain ⟨hlt, hbit⟩ := ih
    simp only [List.range_succ, List.foldl_append, List.foldl_cons, List.foldl_nil]
    generalize (List.range m).foldl (fun x i => if f i then x + 2 ^ i else x) 0 = x at hlt hbit
    have hlt' : (if f m then x + 2 ^ m else x) < 2 ^ (m + 1) := by split <;> omega
    refine ⟨hlt', fun i => ?_⟩
    rcases Nat.lt_trichotomy i m with h | rfl | h
    · have hx : (if f m then x + 2 ^ m else x).testBit i = x.testBit i := by
        split
        · rw [Nat.add_comm, Nat.testBit_two_pow_add_gt h]
        · rfl
      simp [hx, hbit, h, Nat.lt_succ_of_lt h]
    · have hx : x.testBit i = false := Nat.testBit_lt_two_pow hlt
      cases f i <;> simp [hx, Nat.add_comm x, Nat.testBit_two_pow_add_eq]
    · have : ¬ i < m + 1 := by omega
      simpa [this] using Nat.testBit_lt_two_pow (hlt'.trans_le (Nat.pow_le_pow_right (by decide) h))

/-- Bit i of a word built from a predicate. -/
theorem getLsbD_ofBits (n : Nat) (f : Nat → Bool) (i : Nat) : (ofBits n f).getLsbD i = (decide (i < n) && f i) := by
  rw [ofBits, BitVec.getLsbD_ofNat, (foldl_bits_spec f n).2]
  cases decide (i < n) <;> simp

theorem isBrev_brev64 : Claims.isBrev a (brev64 a) := by
  intro i hi
  rw [brev64, getLsbD_ofBits, decide_eq_true hi, Bool.true_and]

theorem isBrevb_brevb : Claims.isBrevb a (brevb a) := by
  intro i hi j hj
  have h : (8 * i + j) / 8 * 8 + 7 - (8 * i + j) % 8 = 8 * i + (7 - j) := by omega
  rw [brevb, getLsbD_ofBits, decide_eq_true (by omega), Bool.true_and, h]

theorem isBswap_bswap : Claims.isBswap a (bswap a) := by
  intro i hi j hj
  have h : (7 - (8 * i + j) / 8) * 8 + (8 * i + j) % 8 = 8 * (7 - i) + j := by omega
  rw [bswap, getLsbD_ofBits, decide_eq_true (by omega), Bool.true_and, h]

/-- Reversing the bits of each byte and then the bytes reverses all bits (R64). -/
theorem brevb_bswap_eq_brev {a x y z : W64} (hx : Claims.isBrevb a x) (hy : Claims.isBswap x y) (hz : Claims.isBrev a z) : y = z := by
  refine BitVec.eq_of_getLsbD_eq fun i hi => ?_
  calc y.getLsbD i
      = y.getLsbD (8 * (i / 8) + i % 8) := by rw [Nat.div_add_mod]
    _ = x.getLsbD (8 * (7 - i / 8) + i % 8) := hy _ (by omega) _ (by omega)
    _ = a.getLsbD (8 * (7 - i / 8) + (7 - i % 8)) := hx _ (by omega) _ (by omega)
    _ = a.getLsbD (63 - i) := by congr 1; omega
    _ = z.getLsbD i := (hz i hi).symm

end Values

/-! The operations of major 0x00 as commands. -/

/-- Every operation on two registers computes what the manual's table gives. -/
theorem exec_alu (s : State) (k : CoreId) (p : Bool) (rd rs1 rs2 : Fin 32) : ∀ row ∈ Claims.alu, exec (row.1 k p rd rs1 rs2) s =
    s.wick k (encR 0x00 p rd.val rs1.val rs2.val 0 row.2.1) fun _ w ch => ch.alu w rd 1 (row.2.2 (ch.rg w rs1) (ch.rg w rs2)) := by
  simp only [Claims.alu, List.forall_mem_cons, List.not_mem_nil, false_implies, implies_true, and_true]
  refine ⟨rfl, rfl, rfl, rfl, rfl, rfl, rfl, rfl, ?_, ?_, ?_, ?_, ?_, ?_, ?_, ?_, rfl⟩
  · simp only [exec_lts, execLts, b2w_slt]
  · simp only [exec_ltu, execLtu, b2w_ult]
  · simp only [exec_min, execMin, minS_eq]
  · simp only [exec_max, execMax, maxS_eq]
  · simp only [exec_minu, execMinu, minU_eq]
  · simp only [exec_maxu, execMaxu, maxU_eq]
  · simp only [exec_rol, execRol, rotateLeft_sh6]
  · simp only [exec_ror, execRor, rotateRight_sh6]

/-- The operations of major 0x00 on two registers retire with the manual's result. -/
theorem integerAlu : Claims.IntegerAlu := fun row hrow s k p rd rs1 rs2 _ hi =>
  retires_of_alu hi (exec_alu s k p rd rs1 rs2 row hrow) rfl

/-- The operations of major 0x00 on one register retire with a result that has the manual's property. -/
theorem integerUnary : Claims.IntegerUnary := by
  simp only [Claims.IntegerUnary, Claims.unary, List.forall_mem_cons, List.not_mem_nil, false_implies, implies_true, and_true]
  refine ⟨?clz, ?ctz, ?popc, ?par, ?brev, ?brevb, ?bswap⟩ <;> intro s k p rd rs1 ch hi
  case clz =>
    refine ⟨_, ?_, retires_of_alu hi (exec_clz s) rfl⟩
    rw [toNat_ofNat_of_le (clzN_spec _).1]
    exact clzN_spec _
  case ctz =>
    refine ⟨_, ?_, retires_of_alu hi (exec_ctz s) rfl⟩
    rw [toNat_ofNat_of_le (ctzN_spec _).1]
    exact ctzN_spec _
  case popc => exact ⟨_, toNat_ofNat_of_le (popcount_le _), retires_of_alu hi (exec_popc s) rfl⟩
  case par => exact ⟨_, toNat_b2w_parity _, retires_of_alu hi (exec_par s) rfl⟩
  case brev => exact ⟨_, isBrev_brev64 _, retires_of_alu hi (exec_brev s) rfl⟩
  case brevb => exact ⟨_, isBrevb_brevb _, retires_of_alu hi (exec_brevb s) rfl⟩
  case bswap => exact ⟨_, isBswap_bswap _, retires_of_alu hi (exec_bswap s) rfl⟩

theorem integerFields : Claims.IntegerFields := by
  refine ⟨fun u p rd rs1 rs2 rs3 fn hd h1 h2 h3 hf => ?_, fun _ _ _ _ => brevb_bswap_eq_brev⟩
  obtain ⟨hm, -, -, hb, hc, hn⟩ := fields_encR p (major := 0x00) (by decide) hd h1 h2 h3 hf
  rw [definedWord_integer hm, hb, hc, hn]
  simp [or_iff_not_imp_left, and_assoc]

/-- Settles O11: each row of the manual's table is the function its command computes; the words that are defined follow from the fields, and
BREVB then BSWAP from where each bit goes. -/
theorem integerOperations : Obligations.IntegerOperations := ⟨integerAlu, integerUnary, integerFields⟩

end Sys2Proof.Proofs
end

section
/-! SUPPORT. CRC steps (R82): the model goes byte by byte, the manual's loop bit by bit. -/

namespace Sys2Proof.Proofs

open Sys2Proof.Machine Sys2Proof.Laws

/-! POLY reversed, and the bounds of an accumulator. -/

/-- The model sums POLY's bits from the lowest, the manual from the highest: the same number. -/
theorem sum_polyBits_eq_reversed (w poly : Nat) :
    ((List.range w).map fun i => if poly.testBit i then 2 ^ (w - 1 - i) else 0).sum = Claims.reversed w poly := by
  rw [← List.sum_reverse, ← List.map_reverse, List.range_eq_range', List.reverse_range', List.map_map, Claims.reversed]
  refine congrArg List.sum (List.map_congr_left fun i hi => ?_)
  have hi : i < w := List.mem_range.1 hi
  simp [show w - 1 - (w - 1 - i) = i by omega]

/-- A sum of different powers of two below 2 ^ m stays below 2 ^ m. -/
theorem sum_bits_lt (q : Nat → Bool) (m : Nat) : ((List.range m).map fun i => if q i then 2 ^ i else 0).sum < 2 ^ m := by
  induction m with
  | zero => simp
  | succ m ih =>
    rw [List.range_succ, List.map_append, List.sum_append, Nat.pow_succ]
    have : (if q m then 2 ^ m else 0) ≤ 2 ^ m := by split <;> simp
    simpa using (by omega)

theorem reversed_lt (w poly : Nat) : Claims.reversed w poly < 2 ^ w := sum_bits_lt (fun i => poly.testBit (w - 1 - i)) w

section Loop

variable {w poly crc : Nat} {refin : Bool}

/-- One bit of a step leaves the accumulator below 2 ^ w. -/
theorem crcBit_lt (hp : poly < 2 ^ w) (hc : crc < 2 ^ w) (bit : Bool) : crcBit w poly refin crc bit < 2 ^ w := by
  have hhalf : crc / 2 < 2 ^ w := by omega
  have hdouble : crc * 2 % 2 ^ w < 2 ^ w := Nat.mod_lt _ (by positivity)
  simp only [crcBit, sum_polyBits_eq_reversed]
  split <;> split
  · exact Nat.xor_lt_two_pow hhalf (reversed_lt w poly)
  · exact hhalf
  · exact Nat.xor_lt_two_pow hdouble hp
  · exact hdouble

/-! The model's bytes and bits are the manual's loop. -/

variable (data : W64)

/-- A turn of the manual's loop is one bit of the model. -/
theorem crcLoop_succ (n : Nat) : Claims.crcLoop w poly refin crc data (n + 1) =
    crcBit w poly refin (Claims.crcLoop w poly refin crc data n) (data.getLsbD (8 * (n / 8) + if refin then n % 8 else 7 - n % 8)) := by
  cases refin <;> simp only [Claims.crcLoop, crcBit, sum_polyBits_eq_reversed] <;> rfl

theorem crcLoop_lt (hp : poly < 2 ^ w) (hc : crc < 2 ^ w) (n : Nat) : Claims.crcLoop w poly refin crc data n < 2 ^ w := by
  induction n with
  | zero => exact hc
  | succ n ih => rw [crcLoop_succ]; exact crcBit_lt hp ih _

theorem getLsbD_byteOf (n : Nat) {i : Nat} (hi : i < 8) : (byteOf data n).getLsbD i = data.getLsbD (8 * n + i) := by
  simp [byteOf, hi]

/-- The first j bits of byte n. -/
theorem crcLoop_bits (n : Nat) : ∀ j ≤ 8, Claims.crcLoop w poly refin crc data (8 * n + j) =
    (List.range j).foldl (fun c i => crcBit w poly refin c ((byteOf data n).getLsbD (if refin then i else 7 - i)))
      (Claims.crcLoop w poly refin crc data (8 * n)) := by
  intro j
  induction j with
  | zero => intro _; rfl
  | succ j ih =>
    intro hj
    have hq : (8 * n + j) / 8 = n := by omega
    have hr : (8 * n + j) % 8 = j := by omega
    rw [← Nat.add_assoc, crcLoop_succ, ih (by omega), List.range_succ, List.foldl_append, List.foldl_cons, List.foldl_nil, hq, hr,
      getLsbD_byteOf data n (by split <;> omega)]

/-- The first n bytes. -/
theorem crcLoop_bytes (n : Nat) : Claims.crcLoop w poly refin crc data (8 * n) =
    (regBytes data n).foldl (fun c b => crcByte w poly refin c b) crc := by
  induction n with
  | zero => rfl
  | succ n ih =>
    rw [regBytes, List.range_succ, List.map_append, List.foldl_append, ← regBytes, ← ih, Nat.mul_succ, crcLoop_bits data n 8 le_rfl]
    rfl

variable (cfg acc : W64)

theorem crcRun_eq_crcResult (n : Nat) (h : cfg.toNat / 2 ^ 32 % 4 ≠ 3) :
    crcRun cfg acc (regBytes data n) = Claims.crcResult cfg acc data (8 * n) := by
  rw [Claims.crcResult, crcLoop_bytes, crcRun, if_neg h]

/-- The bits of a result lie below its WIDTH (R82). -/
theorem crcResult_lt (n : Nat) :
    let w := 8 * 2 ^ (cfg.toNat / 2 ^ 32 % 4)
    (Claims.crcResult cfg acc data n).toNat < 2 ^ w := by
  intro w
  have hpos : 0 < 2 ^ w := by positivity
  rw [Claims.crcResult, BitVec.toNat_ofNat]
  exact (Nat.mod_le _ _).trans_lt (crcLoop_lt data (Nat.mod_lt _ hpos) (Nat.mod_lt _ hpos) n)

/-- Bits of POLY and of the accumulator above WIDTH, and of the configuration above REFIN, do not matter (R82). -/
theorem crcResult_congr (n : Nat) :
    let w := 8 * 2 ^ (cfg.toNat / 2 ^ 32 % 4)
    ∀ cfg' acc' : W64, cfg'.toNat % 2 ^ w = cfg.toNat % 2 ^ w → cfg'.toNat / 2 ^ 32 % 8 = cfg.toNat / 2 ^ 32 % 8 →
      acc'.toNat % 2 ^ w = acc.toNat % 2 ^ w → Claims.crcResult cfg' acc' data n = Claims.crcResult cfg acc data n := by
  intro w cfg' acc' hpoly hconf hacc
  have hwidth : cfg'.toNat / 2 ^ 32 % 4 = cfg.toNat / 2 ^ 32 % 4 := by omega
  have hrefin : cfg'.getLsbD 34 = cfg.getLsbD 34 := by
    simp only [BitVec.getLsbD, Nat.testBit_eq_decide_div_mod_eq, decide_eq_decide]
    omega
  rw [Claims.crcResult, hwidth, hpoly, hacc, hrefin, Claims.crcResult]

end Loop

/-! The CRC steps as commands. -/

/-- The four commands differ in how many bytes they apply. -/
theorem exec_crc (s : State) (k : CoreId) (p : Bool) (rd rs1 rs2 : Fin 32) : ∀ row ∈ Claims.crc, exec (row.1 k p rd rs1 rs2) s =
    s.wick k (encR 0x34 p rd.val rs1.val rs2.val 0 row.2.1) fun _ w ch => ch.crcStep w rd rs1 rs2 row.2.2 := by
  simp only [Claims.crc, List.forall_mem_cons, List.not_mem_nil, false_implies, implies_true, and_true]
  exact ⟨rfl, rfl, rfl, rfl⟩

section Step

variable {ch : Chan} {w : Fin 8} {rd rs1 rs2 : Fin 32} {n : Nat}

/-- WIDTH 0b11 writes nothing. -/
theorem crcStep_of_unlisted (h : (ch.rg w rs2).toNat / 2 ^ 32 % 4 = 3) : ch.crcStep w rd rs1 rs2 n = .next ch 1 := if_pos h

theorem crcStep_of_listed (h : (ch.rg w rs2).toNat / 2 ^ 32 % 4 ≠ 3) : ch.crcStep w rd rs1 rs2 n =
    .next (ch.wg w rd 2 (Claims.crcResult (ch.rg w rs2) (ch.rg w rd) (ch.rg w rs1) (8 * n))) 1 := by
  rw [Chan.crcStep, if_neg h, Chan.alu, crcRun_eq_crcResult _ _ _ _ h]

end Step

/-- Settles O15: a step is the manual's loop, bit by bit, and its result depends on nothing above WIDTH. -/
theorem crcSteps : Obligations.CrcSteps := by
  refine ⟨fun row hrow s k p rd rs1 rs2 ch hi => ⟨fun h => ?_, fun h => ?_⟩,
    fun cfg acc data n _ => ⟨crcResult_lt data cfg acc n, crcResult_congr data cfg acc n⟩, ?_⟩
  · exact retires_of_body hi (exec_crc s k p rd rs1 rs2 row hrow) (crcStep_of_unlisted h)
  · exact retires_of_body hi (exec_crc s k p rd rs1 rs2 row hrow) (crcStep_of_listed h)
  · decide +kernel

end Sys2Proof.Proofs
end

section
/-! SUPPORT. Multiply and divide (R65), and the long-operation queue as a divide meets it (R95 to R97, R100). -/

namespace Sys2Proof.Proofs

open Sys2Proof.Machine Sys2Proof.Laws

/-! Products (R65). -/

theorem mul_eq_ofInt (a b : W64) : a * b = BitVec.ofInt 64 (a.toInt * b.toInt) := by
  rw [BitVec.ofInt_mul, BitVec.ofInt_toInt, BitVec.ofInt_toInt]

theorem mulHi_toNat (a b : W64) : mulHi a.toNat b.toNat = BitVec.ofNat 64 (a.toNat * b.toNat / 2 ^ 64) := by
  rw [mulHi, ← BitVec.ofInt_natCast]
  norm_cast

/-- Every multiply of two registers computes what the manual's table gives. -/
theorem exec_products (s : State) (k : CoreId) (p : Bool) (rd rs1 rs2 : Fin 32) : ∀ row ∈ Claims.mul, exec (row.1 k p rd rs1 rs2) s =
    s.wick k (encR 0x0C p rd.val rs1.val rs2.val 0 row.2.1) fun _ w ch => ch.alu w rd 3 (row.2.2 (ch.rg w rs1) (ch.rg w rs2)) := by
  simp only [Claims.mul, List.forall_mem_cons, List.not_mem_nil, false_implies, implies_true, and_true]
  refine ⟨?_, rfl, ?_, rfl, rfl⟩
  · simp only [exec_mul, execMul, mul_eq_ofInt]
  · simp only [exec_mulhiUu, execMulhiUu, mulHi_toNat]

theorem multiply : Claims.Multiply :=
  ⟨fun row hrow s k p rd rs1 rs2 _ hi => retires_of_alu hi (exec_products s k p rd rs1 rs2 row hrow) rfl,
    fun s _ _ _ _ _ _ _ hi => retires_of_alu hi (exec_muladd s) rfl⟩

/-! Quotients and remainders (R65). -/

theorem toNat_lo32 (a : W64) : (lo32 a).toNat = a.toNat % 2 ^ 32 := BitVec.toNat_setWidth ..

theorem divU_eq_ofNat (a b : W64) : divU a b = BitVec.ofNat 64 (a.toNat / b.toNat) := by
  rw [← BitVec.udiv_def, divU, ite_eq_right_iff]
  rintro rfl
  exact BitVec.udiv_zero.symm

theorem modU_eq_ofNat (a b : W64) : modU a b = BitVec.ofNat 64 (a.toNat % b.toNat) := by
  rw [← BitVec.umod_def, modU, ite_eq_right_iff]
  rintro rfl
  exact BitVec.umod_zero.symm

theorem divUW_eq_ofNat (a b : W64) : divUW (lo32 a) (lo32 b) = BitVec.ofNat 32 (a.toNat % 2 ^ 32 / (b.toNat % 2 ^ 32)) := by
  rw [← toNat_lo32, ← toNat_lo32, ← BitVec.udiv_def, divUW, ite_eq_right_iff]
  intro h
  rw [h, BitVec.udiv_zero]

theorem modUW_eq_ofNat (a b : W64) : modUW (lo32 a) (lo32 b) = BitVec.ofNat 32 (a.toNat % 2 ^ 32 % (b.toNat % 2 ^ 32)) := by
  rw [← toNat_lo32, ← toNat_lo32, ← BitVec.umod_def, modUW, ite_eq_right_iff]
  intro h
  rw [h, BitVec.umod_zero]

theorem sx_divSW (a b : W64) : sx (divSW (lo32 a) (lo32 b)) = if b.truncate 32 = 0#32 then 0#64
    else (BitVec.ofInt 32 ((a.truncate 32 : W32).toInt.tdiv (b.truncate 32 : W32).toInt)).signExtend 64 :=
  apply_ite (BitVec.signExtend 64) _ _ _

theorem sx_modSW (a b : W64) : sx (modSW (lo32 a) (lo32 b)) = if b.truncate 32 = 0#32 then (a.truncate 32 : W32).signExtend 64
    else (BitVec.ofInt 32 ((a.truncate 32 : W32).toInt.tmod (b.truncate 32 : W32).toInt)).signExtend 64 :=
  apply_ite (BitVec.signExtend 64) _ _ _

/-- Every divide sends what the manual's table gives to the long-operation queue, with the figure of its width (R97). -/
theorem exec_divides (s : State) (k : CoreId) (p : Bool) (rd rs1 rs2 : Fin 32) : ∀ row ∈ Claims.div, exec (row.1 k p rd rs1 rs2) s =
    s.wick k (encR 0x0C p rd.val rs1.val rs2.val 0 row.2.1) fun m w ch =>
      ch.divide m w rd (if 12 ≤ row.2.1 then 22 else 38) (row.2.2 (ch.rg w rs1) (ch.rg w rs2)) := by
  simp only [Claims.div, List.forall_mem_cons, List.not_mem_nil, false_implies, implies_true, and_true]
  refine ⟨rfl, ?_, rfl, ?_, ?_, ?_, ?_, ?_⟩
  · simp only [exec_divu, execDivu, divU_eq_ofNat]; rfl
  · simp only [exec_modu, execModu, modU_eq_ofNat]; rfl
  · simp only [exec_divsW, execDivsW, sx_divSW]; rfl
  · simp only [exec_divuW, execDivuW, divUW_eq_ofNat]; rfl
  · simp only [exec_modsW, execModsW, sx_modSW]; rfl
  · simp only [exec_moduW, execModuW, modUW_eq_ofNat]; rfl

/-! Room in the long-operation queue (R95, R96). -/

section Room

variable {m : MantleTable} {ch c1 : Chan} {w : Fin 8}

/-- With a free entry nothing waits. -/
theorem loqRoom_of_free (h : (ch.core w).loqFree ≠ none) : ch.loqRoom m w = (ch, true) := by
  have hfree : (ch.core w).loqFree.isSome = true := Option.isSome_iff_ne_none.2 h
  unfold Chan.loqRoom
  rw [List.foldl_fixed' (by exact fun _ => if_pos hfree)]
  exact congrArg (Prod.mk ch) hfree

theorem longOp_of_room {f : Chan → Res} (h : ch.loqRoom m w = (c1, true)) : ch.longOp m w f = f c1 := by
  unfold Chan.longOp
  rw [h]

theorem longOp_of_full {f : Chan → Res} (h : ch.loqRoom m w = (c1, false)) : ch.longOp m w f = .ctl c1 := by
  unfold Chan.longOp
  rw [h]

/-- A divide that finds room enters the queue and issues in one cycle. -/
theorem divide_of_room {rd : Fin 32} {most : Nat} {x : W64} (h : ch.loqRoom m w = (c1, true)) :
    ch.divide m w rd most x = .next (c1.loqPut m w .idiv (some false) rd (x.zeroExtend 128) 0#5 none most) 1 := longOp_of_room h

/-- A divide that finds every entry faulted waits in IS. -/
theorem divide_of_full {rd : Fin 32} {most : Nat} {x : W64} (h : ch.loqRoom m w = (c1, false)) :
    ch.divide m w rd most x = .ctl c1 := longOp_of_full h

end Room

/-- An instruction that issues and whose body holds issue leaves the channel as the body does. -/
theorem wick_ctl {s : State} {k : CoreId} {word : W32} {body : MantleTable → Fin 8 → Chan → Res} {ch e : Chan}
    (hi : s.issued k word = some ch) (hb : body (s.mtl k.ch) k.w ch = .ctl e) : s.wick k word body = .next (s.onChan k.ch fun _ => e) := by
  unfold State.issued at hi
  split at hi
  case h_2 => cases hi
  case h_1 c0 h0 =>
    cases hi
    unfold State.ch at h0
    simp only [State.wick, State.act, State.onChan, Chan.insn, h0, hb, Chan.retire]

theorem divide : Claims.Divide := by
  intro row hrow s k p rd rs1 rs2 ch put hi
  have hx := exec_divides s k p rd rs1 rs2 row hrow
  have hroom (c1 : Chan) (h : ch.loqRoom (s.mtl k.ch) k.w = (c1, true)) : Retires (row.1 k p rd rs1 rs2) s k (put c1) (ch.pcOf k + 4#64) 1 :=
    retires_of_body hi hx (divide_of_room h)
  exact ⟨fun h => hroom ch (loqRoom_of_free h), hroom, fun c1 h => hx.trans (wick_ctl hi (divide_of_full h))⟩

/-! Corners of division. -/

/-- By zero a quotient is 0 and a remainder the dividend. -/
theorem div_by_zero : ∀ row ∈ Claims.div, ∀ a : W64, row.2.2 a 0#64 = if row.2.1 = 10 ∨ row.2.1 = 11 then a
    else if row.2.1 = 14 ∨ row.2.1 = 15 then (a.truncate 32 : W32).signExtend 64 else 0#64 := by
  simp only [Claims.div, List.forall_mem_cons, List.not_mem_nil, false_implies, implies_true, and_true]
  refine ⟨?divs, ?divu, ?mods, ?modu, ?divsW, ?divuW, ?modsW, ?moduW⟩ <;> intro a
  case moduW =>
    have h : BitVec.ofNat 32 (a.toNat % 2 ^ 32 % ((0#64).toNat % 2 ^ 32)) = a.truncate 32 := by
      rw [← modUW_eq_ofNat]
      exact if_pos rfl
    rw [h]
    rfl
  all_goals simp

/-- The most negative value by −1 is itself with remainder 0: the one quotient that does not fit. -/
theorem div_overflow : ∀ row ∈ Claims.div, ∀ a : W64,
    (a = 0x8000000000000000#64 → (row.2.1 = 8 → row.2.2 a (-1#64) = a) ∧ (row.2.1 = 10 → row.2.2 a (-1#64) = 0#64)) ∧
    ((a.truncate 32 : W32) = 0x80000000#32 →
      (row.2.1 = 12 → row.2.2 a (-1#64) = 0xFFFFFFFF80000000#64) ∧ (row.2.1 = 14 → row.2.2 a (-1#64) = 0#64)) := by
  simp only [Claims.div, List.forall_mem_cons, List.not_mem_nil, false_implies, implies_true, and_true]
  refine ⟨?divs, ?divu, ?mods, ?modu, ?divsW, ?divuW, ?modsW, ?moduW⟩ <;> intro a
  case divs =>
    refine ⟨?_, by simp⟩
    rintro rfl
    decide
  case divsW =>
    refine ⟨by simp, fun ha => ?_⟩
    rw [ha]
    decide
  all_goals simp

/-- The words of major 0x0C that are defined: only MULADD has a third source. -/
theorem multiply_fields (u : Ucode) (p : Bool) (rd rs1 rs2 rs3 fn : Nat) (hd : rd < 32) (h1 : rs1 < 32) (h2 : rs2 < 32) (h3 : rs3 < 32) (hf : fn < 32) :
    definedWord u (encR 0x0C p rd rs1 rs2 rs3 fn) = true ↔ fn ≠ 6 ∧ fn ≠ 7 ∧ fn ≤ 15 ∧ (fn ≠ 5 → rs3 = 0) := by
  obtain ⟨hm, -, -, -, hc, hn⟩ := fields_encR p (major := 0x0C) (by decide) hd h1 h2 h3 hf
  rw [definedWord_multiply hm, hc, hn]
  simp only [Bool.and_eq_true, Bool.or_eq_true, decide_eq_true_eq, beq_iff_eq]
  omega

/-! A divide's entry. -/

section Entry

variable {m : MantleTable} {ch : Chan} {w : Fin 8} {i : Fin 32}

theorem loqFree_of_counted {a b : Chan} (h : a.Counted w b) : (b.core w).loqFree = (a.core w).loqFree := by rw [h.own]; rfl

/-- A register operation enters the queue pending, with its flags and no far access. -/
theorem loqPut_entry {op : LoqOp} {file : Option Bool} {rd : Fin 32} {x : W128} {fl : FFlags} {most : Nat} (h : (ch.core w).loqFree = some i) :
    let e := ((ch.loqPut m w op file rd x fl none most).core w).loq[i]
    e.st = .pending ∧ e.far = none ∧ loqFlags e = fl := by
  have hc : ch.Counted w (ch.event m w 0x12) := counted_event 0x12
  have hfree : ((ch.event m w 0x12).core w).loqFree = some i := (loqFree_of_counted hc).trans h
  unfold Chan.loqPut
  simp [hfree, loqFlags]

/-- A pending entry that raises no flags and has no far access is free once it completes. -/
theorem completeAt_entry (t : Nat) (hst : ((ch.core w).loq[i]).st = .pending) (hfar : ((ch.core w).loq[i]).far = none)
    (hfl : loqFlags (ch.core w).loq[i] = 0#5) : ((ch.completeAt m w i t).core w).loq[i] = LoqEnt.empty := by
  have hdo : ch.farDo m w i = ch := by unfold Chan.farDo; rw [hfar]
  unfold Chan.completeAt
  rw [if_neg (not_not.2 hst), hdo]
  extract_lets came ch1 c e fl c' c'' poison hdm fault ch2 c3
  have hfault : fault = 0 := by
    have hpoison : poison = false := by simp only [poison, e, c, ch1, hfar]
    have hhdm : hdm = false := by simp only [hdm, e, c, ch1, hfar]
    have hfl : fl = 0#5 := hfl
    simp [fault, hpoison, hhdm, hfl, fpTrap]
  rw [if_neg (not_not.2 hfault), core_setCore]
  exact Vector.getElem_set_self _

end Entry

theorem divisionCorners : Claims.DivisionCorners := by
  refine ⟨div_by_zero, div_overflow, multiply_fields, fun m ch w rd i x most t h => ?_⟩
  obtain ⟨hst, hfar, hfl⟩ := loqPut_entry (m := m) (op := .idiv) (file := some false) (rd := rd) (x := x) (fl := 0#5) (most := most) h
  exact completeAt_entry t hst hfar hfl

/-- Settles O13: products and divides are the manual's table; a divide goes to the long-operation queue as the queue has room, and its entry
raises nothing. -/
theorem multiplyDivide : Obligations.MultiplyDivide := ⟨multiply, divide, divisionCorners⟩

end Sys2Proof.Proofs
end
